-- ==== Sys2Proof/Word.lean ====
section
/-! DEFINITION. The bit-vector types of the part: link bytes, device-time ticks and the tick fraction.
Everything else the manual counts or measures ("all arithmetic in this manual is exact integer
arithmetic", 00_scope.md) is a `Nat` or an `Int`. -/

namespace Sys2Proof

/-- One byte of the habitation link (R194). -/
abbrev Byte := BitVec 8

/-- The tick count of device time and every stored instant: 1/16 s, counted modulo 2^32 (R172, R174). -/
abbrev Tick := BitVec 32

/-- The part of a tick below the tick count, in units of 1/65,536 tick (R172). -/
abbrev Fraction := BitVec 16

end Sys2Proof
end

