-- ==== Sys2Proof/Syntax.lean ====
section
/-! DEFINITION. The commands of the part: one constructor of `Instr` for each row of
spec/opcode_table.json, with the operands that the row's event carries.

A request row carries the tag and the payload bytes of its frame (R195, R217). A row that reads the
equipment carries what the equipment gives at that moment: converter readings, samples, pin levels
(log 9). A row whose hand-offs the manual leaves unordered carries the order in which they are taken
(log 3). -/

namespace Sys2Proof

/-- A valid frame less its START, LEN and CRC bytes: kind, tag and payload (R195, R216). -/
structure Frame where
  kind : Byte
  tag : Byte
  payload : List Byte
  deriving DecidableEq, Repr

/-- The receivers of hand-offs that the manual leaves unordered (log 3). A command that carries a
list of these takes the named hand-offs first, in the list's order, and the others after them in the
order of the rule. -/
inductive HandOff where
  /-- the interval's current, to the overdraw check of the Budget Arbiter (R7, R46) -/
  | bandOverdraw
  /-- a band change, to the Budget Arbiter (R7, R34) -/
  | bandBudget
  /-- a band change, to the Lamp Controller (R7, R55) -/
  | bandLamps
  /-- a band change, to the Heater Sequencer (R7, R74) -/
  | bandHeater
  /-- a band change, to the Time and Schedule Unit as a wake cause (R190) -/
  | bandWake
  /-- a frost controller's pad demand, FRESH (R102) -/
  | padFresh
  /-- a frost controller's pad demand, GREY (R102) -/
  | padGrey
  /-- the heater's FROST origin (R102) -/
  | frostHeater
  /-- an IGNITION_ON edge, to the Tank and Frost Unit (R93, R164) -/
  | ignitionTanks
  /-- an IGNITION_ON edge, to the Drive Stage (R133, R164) -/
  | ignitionDrive
  /-- an IGNITION_ON edge, to the Motion Rings (R143, R164) -/
  | ignitionMotion
  /-- a DOOR_OPEN edge, to the Lamp Controller (R62, R152) -/
  | doorLamps
  /-- a DOOR_OPEN edge, to the Motion Rings (R152) -/
  | doorMotion
  /-- the power state becoming ACTIVE, to the Charge Meter (R191) -/
  | activeMeter
  /-- the power state becoming ACTIVE, to the Lamp Controller (R191) -/
  | activeLamps
  /-- the power state becoming ACTIVE, to the Drive Stage's arbiter (R191) -/
  | activeArbiter
  /-- the pad and heater frost demands that a restart re-asserts (R54, R112) -/
  | restartTanks
  /-- the demand that the Heater Sequencer presents at a restart (R54, R89) -/
  | restartHeater
  /-- the braking drive that the Drive Stage presents at a restart (R54, R136) -/
  | restartDrive
  deriving DecidableEq, Repr

/-- One sample of the shunt current (mA) and, taken with it, of the battery voltage (mV) (R3, R4). -/
structure MeterSample where
  current : Int
  voltage : Int
  deriving DecidableEq, Repr

/-- What a command that can advance device time or close a metering interval is given: the shunt and
voltage samples taken since the last such command (R3, R4), the battery temperature that a closing
interval converts (R5), and the order of the hand-offs it causes (R7, R191). -/
structure MeterInput where
  samples : List MeterSample
  temperature : Int
  order : List HandOff
  deriving DecidableEq, Repr

/-- The two clocks that move device time: the fast oscillator's 1/16 s and the crystal's slow step of
1/8 s (R172). `fastTime` is the fast-oscillator time since the slow step before, in 1/65,536 tick; only
a calibration reads it (R175). -/
inductive ClockEdge where
  | fastTick
  | slowStep (fastTime : Nat)
  deriving DecidableEq, Repr

/-- The tanks that have a frost controller (05_tanks_pump_and_frost_protection.md). -/
inductive FrostTank where
  | fresh
  | grey
  deriving DecidableEq, Repr

/-- What HBS reads at a millisecond of drive: a current in mA, or the converter's upper rail (R126). -/
inductive MotorSample where
  | current (mA : Nat)
  | rail
  deriving DecidableEq, Repr

/-- The commands: the rows of spec/opcode_table.json, in its order. -/
inductive Instr where
  | summary (tag : Byte) (payload : List Byte)
  | paramWrite (tag : Byte) (payload : List Byte) (order : List HandOff)
  | paramRead (tag : Byte) (payload : List Byte)
  | loadDemand (tag : Byte) (payload : List Byte)
  | loadQuery (tag : Byte) (payload : List Byte)
  | heatMode (tag : Byte) (payload : List Byte)
  | movePost (tag : Byte) (payload : List Byte)
  | moveCancel (tag : Byte) (payload : List Byte)
  | moveQuery (tag : Byte) (payload : List Byte)
  | schedWrite (tag : Byte) (payload : List Byte)
  | schedRead (tag : Byte) (payload : List Byte)
  | schedFree (tag : Byte) (payload : List Byte)
  /-- `level`: the electrical level of the named pin when the request is taken (R159, R163). -/
  | pinMap (tag : Byte) (payload : List Byte) (level : Bool) (order : List HandOff)
  /-- `levels`: the electrical levels of P0..P15 when the request is taken (R168). -/
  | pinRead (tag : Byte) (payload : List Byte) (levels : BitVec 16)
  | tankQuery (tag : Byte) (payload : List Byte)
  | meterQuery (tag : Byte) (payload : List Byte)
  | flagClear (tag : Byte) (payload : List Byte)
  | noticeMask (tag : Byte) (payload : List Byte)
  | drainOpen (tag : Byte) (payload : List Byte) (order : List HandOff)
  | drainClose (tag : Byte) (payload : List Byte) (order : List HandOff)
  | accountSet (tag : Byte) (payload : List Byte)
  | accountFull (tag : Byte) (payload : List Byte)
  | sceneRecall (tag : Byte) (payload : List Byte)
  | sceneStore (tag : Byte) (payload : List Byte)
  | timeSet (tag : Byte) (payload : List Byte) (input : MeterInput)
  | timeQuery (tag : Byte) (payload : List Byte)
  | recalibrate (tag : Byte) (payload : List Byte)
  | dormant (tag : Byte) (payload : List Byte)
  | restart (tag : Byte) (payload : List Byte)
  | hold (tag : Byte) (payload : List Byte)
  | startByte
  /-- `bytes`: the bytes that arrive, up to the second CRC byte (R195, R196). -/
  | validFrame (bytes : List Byte)
  /-- `bytes`: the bytes that arrive; `framing`: a framing error follows them (R194, R195). -/
  | frameDiscard (bytes : List Byte) (framing : Bool)
  | receiveTimeout
  | noticeBegin
  | transmitEnd
  | restartPerform (order : List HandOff)
  | holdEnd
  | hostSilence
  | powerOnReset
  | intervalEnd (input : MeterInput)
  | fadeEnd (channel : Fin 6)
  | entryHoldEnd
  /-- `temperature`: what the cabin converter returns, tenths of °C (R75). -/
  | cabinConversion (temperature : Int)
  | glowEnd
  | purgeEnd
  /-- What the three sender converters return (R90). -/
  | senderConversion (fresh grey black : Nat)
  /-- What the two tank temperature converters return, tenths of °C (R100). -/
  | temperatureConversion (fresh grey : Int) (order : List HandOff)
  | dangerDue (tank : FrostTank) (order : List HandOff)
  | pumpRunExpiry
  | grantWaitExpiry
  | settleEnd
  | motorStall
  | backoffEnd
  | retryWaitEnd
  | motionTimeout
  | destinationReached
  | brakeHoldEnd
  | gapTimerEnd
  | windWindowEnd
  /-- `level`: the electrical level to which the pin changes (R163). -/
  | windPulse (pin : Fin 16) (level : Bool)
  /-- `samples`: the electrical levels sampled on the pin, oldest first (R160, R162). -/
  | pinJoin (pin : Fin 16) (samples : List Bool) (order : List HandOff)
  /-- `samples`: the electrical levels sampled on the pin, oldest first (R162). -/
  | debounceComplete (pin : Fin 16) (samples : List Bool) (order : List HandOff)
  | scheduleFire (entry : Fin 16)
  | idleDue
  | dormantEntry (input : MeterInput)
  | leavingToActive (input : MeterInput)
  | calibrationEnd (fastTime : Nat)
  | calibrationNoSteps
  | deviceTimeAdvance (edge : ClockEdge) (input : MeterInput)
  /-- `sample`: what HBS reads at this millisecond (R126). -/
  | driveMillisecond (sample : MotorSample)
  | unknownKindRequest (kind tag : Byte) (payload : List Byte)
  deriving DecidableEq, Repr

end Sys2Proof
end

