-- ==== Sys2Proof/Decode.lean ====
section
/-! DEFINITION. spec/opcode_table.json gives no row of this block any bits ("n_rows_with_fixed": 0,
"n_rows_with_fields": 0 in 00_scope.md's and the reader's counts of 98_reader.md): a command is an event
or a frame, not a word. No word therefore spells a command (log 34). The byte codings of the link's
frames, which are the manual's own encoding, are in Sys2Proof/Machine/Operands.lean. -/

namespace Sys2Proof

/-- The command that the table's bits spell: none, since the table gives no row bits (log 34). -/
def decodeTableWord (_nbits _w : Nat) : Option Instr := none

end Sys2Proof
end

