-- ==== Sys2Proof/Config.lean ====
section
/-! DEFINITION. What the manual leaves to the implementation: one free value, without a body, so that
no statement can rest on what it is. -/

namespace Sys2Proof

/-- FREE VALUE (log 11, DESIGN CHOICE). The bytes in which those items of a reply are sent that, coded by
R215, would pass the 58 payload bytes of R195; the manual gives no coding for them (the catalog part of a
PIN_READ reply, the table figures of a LOAD_QUERY reply that names HEATER or a lamp). The argument is the
list of the items' bytes under R215. Safe: nothing is known of the result. -/
opaque Config.overlongCoding : List Byte → List Byte

end Sys2Proof
end

