-- ==== Sys2Proof/Machine/Arith.lean ====
section
/-! DEFINITION. The arithmetic the chapters share: the three roundings of 00_scope.md ("Numbers and
arithmetic"), the reached test of R174, fixed-length vectors, and the CRC of R195. -/

namespace Sys2Proof.Machine

/-- "Truncated toward zero" (00_scope.md). -/
def truncDiv (a b : Int) : Int := Int.tdiv a b

/-- "Floor", toward minus infinity, also for a negative divisor (00_scope.md, R91). -/
def floorDiv (a b : Int) : Int := Int.fdiv a b

/-- "Rounded up in magnitude", for a quantity that is not negative (00_scope.md). -/
def ceilDiv (a b : Nat) : Nat := (a + b - 1) / b

/-- "Rounded up in magnitude", for a signed quantity (00_scope.md, R9). -/
def awayDiv (a : Int) (b : Nat) : Int :=
  if 0 ≤ a then (ceilDiv a.toNat b : Int) else -(ceilDiv (-a).toNat b : Int)

/-- clamp(x, a, b) of 00_scope.md. -/
def clampInt (x a b : Int) : Int := max a (min x b)

/-- (now − t) modulo 2^32, the ticks from t to now (R41, R174). -/
def ticksSince (now t : Tick) : Nat := (now - t).toNat

/-- R174: the instant t is reached when (now − t) modulo 2^32 is less than 2^31. An instant exactly 2^31 ticks
away is not reached by this formula, where the rule's third sentence counts it as behind (log 51: the
model's choice). -/
def reached (now t : Tick) : Bool := decide (ticksSince now t < 2147483648)

/-- An instant that may be absent is reached when it is present and reached (R174). -/
def dueReached (now : Tick) : Option Tick → Bool
  | none => false
  | some t => reached now t

/-- The ticks remaining to an instant, 0 once it is reached. -/
def ticksTo (now t : Tick) : Nat := if reached now t then 0 else (t - now).toNat

/-- Replace one of a fixed number of like things. -/
def vput {α : Type} {n : Nat} (v : Vector α n) (i : Fin n) (x : α) : Vector α n :=
  v.set i.val x i.isLt

/-- Change every one of a fixed number of like things, by its number. -/
def vmap {α β : Type} {n : Nat} (f : Fin n → α → β) (v : Vector α n) : Vector β n :=
  Vector.ofFn (fun i => f i v[i])

/-- The things in the order of their numbers. -/
def vlist {α : Type} {n : Nat} (v : Vector α n) : List α := (List.finRange n).map (fun i => v[i])

/-- One step of the CRC register for one bit (R195: x^16 + x^12 + x^5 + 1). -/
def crcBit (reg : BitVec 16) (bit : Bool) : BitVec 16 :=
  if reg.msb != bit then (reg <<< 1) ^^^ 0x1021#16 else reg <<< 1

/-- One byte, most significant bit first (R195). -/
def crcByte (reg : BitVec 16) (b : Byte) : BitVec 16 :=
  [7, 6, 5, 4, 3, 2, 1, 0].foldl (fun r i => crcBit r (b.getLsbD i)) reg

/-- The CRC over a list of bytes, from 65,535, not inverted at the end (R195). -/
def crc16 (bytes : List Byte) : BitVec 16 := bytes.foldl crcByte 0xFFFF#16

end Sys2Proof.Machine
end

