-- ==== Sys2Proof/Machine/ParamTable.lean ====
section
/-! DEFINITION. The parameter set: default and range of each of the 105 parameters, in the order of the
identifiers of R214. On/off settings are 0 and 1, and "none" is −1 (R213). -/

namespace Sys2Proof.Machine

/-- Default and range (both ends included) of a parameter. -/
structure ParamSpec where
  dflt : Int
  lo : Int
  hi : Int
  deriving DecidableEq, Repr

/-- Identifiers 1..18, the Charge Meter (R23). The release voltage's lower bound is the order check of
`paramOrderOk`. -/
def meterParams : List ParamSpec :=
  [⟨100000, 10000, 2000000⟩, ⟨980, 800, 1000⟩, ⟨50, 0, 200⟩, ⟨8, 0, 20⟩, ⟨14000, 12000, 16000⟩,
   ⟨20, 5, 100⟩, ⟨120, 10, 3600⟩, ⟨100, 0, 500⟩, ⟨500, 10, 800⟩, ⟨250, 10, 800⟩, ⟨100, 10, 800⟩,
   ⟨30, 0, 100⟩, ⟨50, 0, 100⟩, ⟨14, 1, 255⟩, ⟨11600, 10000, 12500⟩, ⟨10, 1, 60⟩,
   ⟨12000, 10000, 13500⟩, ⟨60, 1, 600⟩]

/-- Identifiers 19..42, the Load Table and Budget Arbiter (R51). -/
def tableParams : List ParamSpec :=
  [⟨60000, 0, 250000⟩, ⟨30000, 0, 250000⟩, ⟨12000, 0, 250000⟩, ⟨3000, 0, 250000⟩,
   ⟨40000, 0, 250000⟩, ⟨10000, 0, 250000⟩, ⟨5000, 0, 50000⟩, ⟨30, 0, 600⟩, ⟨1000, 0, 20000⟩,
   ⟨8000, 0, 30000⟩, ⟨1800, 0, 30000⟩, ⟨1200, 0, 30000⟩, ⟨5000, 0, 30000⟩, ⟨3000, 0, 20000⟩,
   ⟨2000, 0, 30000⟩, ⟨2000, 0, 30000⟩, ⟨12000, 0, 40000⟩, ⟨8000, 0, 40000⟩,
   ⟨2, 1, 3⟩, ⟨2, 1, 3⟩, ⟨1, 1, 3⟩, ⟨1, 1, 3⟩, ⟨3, 1, 3⟩, ⟨2, 1, 3⟩]

/-- Identifiers 43..58, the Lamp Controller (R68). -/
def lampParams : List ParamSpec :=
  [⟨100, 0, 100⟩, ⟨60, 0, 100⟩, ⟨30, 0, 100⟩, ⟨0, 0, 100⟩, ⟨50, 0, 100⟩,
   ⟨100, 1, 100⟩, ⟨100, 1, 100⟩, ⟨100, 1, 100⟩, ⟨100, 1, 100⟩, ⟨100, 1, 100⟩, ⟨100, 1, 100⟩,
   ⟨0, -1, 5⟩, ⟨60, 1, 100⟩, ⟨120, 1, 600⟩, ⟨0, -1, 3⟩, ⟨1, -1, 3⟩]

/-- Identifiers 59..64, the Heater Sequencer (R86). -/
def heaterParams : List ParamSpec :=
  [⟨50, 0, 150⟩, ⟨160, 50, 300⟩, ⟨200, 50, 300⟩, ⟨10, 5, 50⟩, ⟨60, 20, 300⟩, ⟨180, 60, 900⟩]

/-- Identifiers 65..85, the Tank and Frost Unit (R109). -/
def tankParams : List ParamSpec :=
  [⟨200, 1, 4094⟩, ⟨3900, 1, 4094⟩, ⟨200, 1, 4094⟩, ⟨3900, 1, 4094⟩, ⟨200, 1, 4094⟩,
   ⟨3900, 1, 4094⟩, ⟨100, 0, 500⟩, ⟨900, 500, 1000⟩, ⟨900, 500, 1000⟩, ⟨50, 10, 200⟩,
   ⟨30, 0, 200⟩, ⟨1, 0, 1⟩, ⟨300, 30, 1800⟩, ⟨30, -200, 200⟩, ⟨40, -200, 200⟩, ⟨5, -200, 200⟩,
   ⟨15, -200, 200⟩, ⟨-10, -300, 100⟩, ⟨0, -300, 100⟩, ⟨600, 60, 3600⟩, ⟨1, 0, 1⟩]

/-- Identifiers 86..97, the Drive Stage (R134), 98..103, the actuators and the wind monitor (R153), 104,
the auto-dormant time (R187), and 105, the host-silence timeout (R209). -/
def driveParams : List ParamSpec :=
  [⟨8, 2, 14⟩, ⟨30000, 1000, 120000⟩, ⟨50, 10, 500⟩, ⟨300, 0, 2000⟩, ⟨100, 20, 1000⟩,
   ⟨250, 0, 2000⟩, ⟨18000, 1000, 60000⟩, ⟨12000, 1000, 60000⟩, ⟨200, 50, 2000⟩, ⟨100, 0, 1000⟩,
   ⟨3, 0, 7⟩, ⟨80, 0, 300⟩, ⟨20000, 2000, 120000⟩, ⟨3000, 500, 20000⟩, ⟨24, 1, 255⟩,
   ⟨400, 50, 1500⟩, ⟨600, 60, 3600⟩, ⟨0, 0, 1⟩, ⟨0, 0, 3600⟩, ⟨30, 0, 3600⟩]

/-- The whole parameter set, identifier 1 first (R214). -/
def paramTable : List ParamSpec :=
  meterParams ++ tableParams ++ lampParams ++ heaterParams ++ tankParams ++ driveParams

/-- The specification of identifier `id`; none for 0 and above 105 (R212). -/
def paramSpec (id : Nat) : Option ParamSpec := if id = 0 then none else paramTable[id - 1]?

/-- The value of every parameter, identifier 1 first. -/
abbrev Params := Vector Int 105

/-- Every parameter at its default (R212: a power-on reset gives every parameter its default). -/
def Params.defaults : Params := Vector.ofFn (fun i => (paramTable.getD i.val ⟨0, 0, 0⟩).dflt)

/-- The value of identifier `id` (1..105). -/
def Params.val (p : Params) (id : Nat) : Int := p.getD (id - 1) 0

/-- The value of identifier `id`, for a quantity that is never negative. -/
def Params.nat (p : Params) (id : Nat) : Nat := (p.val id).toNat

/-- Set identifier `id` (1..105). -/
def Params.put (p : Params) (id : Nat) (v : Int) : Params := p.setIfInBounds (id - 1) v

/-! The parameters by name, in the order of R214. -/

def Params.capacity (p : Params) : Nat := p.nat 1
def Params.efficiency (p : Params) : Nat := p.nat 2
def Params.rateCoefficient (p : Params) : Nat := p.nat 3
def Params.coldCoefficient (p : Params) : Nat := p.nat 4
def Params.syncVoltage (p : Params) : Nat := p.nat 5
def Params.tail (p : Params) : Nat := p.nat 6
def Params.syncHold (p : Params) : Nat := p.nat 7
def Params.reserve (p : Params) : Nat := p.nat 8
def Params.economyThreshold (p : Params) : Nat := p.nat 9
def Params.reserveThreshold (p : Params) : Nat := p.nat 10
def Params.criticalThreshold (p : Params) : Nat := p.nat 11
def Params.bandHysteresis (p : Params) : Nat := p.nat 12
def Params.unsyncedMargin (p : Params) : Nat := p.nat 13
def Params.syncAgeLimit (p : Params) : Nat := p.nat 14
def Params.floorVoltage (p : Params) : Nat := p.nat 15
def Params.floorTime (p : Params) : Nat := p.nat 16
def Params.releaseVoltage (p : Params) : Nat := p.nat 17
def Params.releaseTime (p : Params) : Nat := p.nat 18
def Params.shoreAllowance (p : Params) : Nat := p.nat 23
def Params.limitCap (p : Params) : Nat := p.nat 24
def Params.overdrawMargin (p : Params) : Nat := p.nat 25
def Params.waitBlock (p : Params) : Nat := p.nat 26
def Params.lampDraw (p : Params) : Nat := p.nat 27
def Params.glowDraw (p : Params) : Nat := p.nat 28
def Params.runDraw (p : Params) : Nat := p.nat 29
def Params.purgeDraw (p : Params) : Nat := p.nat 30
def Params.pumpDraw (p : Params) : Nat := p.nat 31
def Params.padDraw (p : Params) : Nat := p.nat 32
def Params.aux0Draw (p : Params) : Nat := p.nat 33
def Params.aux1Draw (p : Params) : Nat := p.nat 34
def Params.awningDraw (p : Params) : Nat := p.nat 35
def Params.stepDraw (p : Params) : Nat := p.nat 36
def Params.lampClass (p : Params) : Nat := p.nat 37
def Params.heaterClass (p : Params) : Nat := p.nat 38
def Params.pumpClass (p : Params) : Nat := p.nat 39
def Params.padClass (p : Params) : Nat := p.nat 40
def Params.auxClass (p : Params) : Nat := p.nat 41
def Params.driveClass (p : Params) : Nat := p.nat 42
def Params.fadeRate (p : Params) : Nat := p.nat 47
def Params.entryChannel (p : Params) : Int := p.val 54
def Params.entryLevel (p : Params) : Nat := p.nat 55
def Params.entryHold (p : Params) : Nat := p.nat 56
def Params.sceneOn (p : Params) : Int := p.val 57
def Params.sceneOff (p : Params) : Int := p.val 58
def Params.frostSetpoint (p : Params) : Int := p.val 59
def Params.economySetpoint (p : Params) : Int := p.val 60
def Params.comfortSetpoint (p : Params) : Int := p.val 61
def Params.thermostatHysteresis (p : Params) : Int := p.val 62
def Params.glowTime (p : Params) : Nat := p.nat 63
def Params.purgeTime (p : Params) : Nat := p.nat 64
def Params.freshLow (p : Params) : Nat := p.nat 71
def Params.greyFull (p : Params) : Nat := p.nat 72
def Params.blackFull (p : Params) : Nat := p.nat 73
def Params.levelHysteresis (p : Params) : Nat := p.nat 74
def Params.dryLimit (p : Params) : Nat := p.nat 75
def Params.greyGuard (p : Params) : Bool := decide (p.val 76 = 1)
def Params.pumpMaxRun (p : Params) : Nat := p.nat 77
def Params.watchEntry (p : Params) : Int := p.val 78
def Params.watchExit (p : Params) : Int := p.val 79
def Params.guardEntry (p : Params) : Int := p.val 80
def Params.guardExit (p : Params) : Int := p.val 81
def Params.dangerTemperature (p : Params) : Int := p.val 82
def Params.dangerRelease (p : Params) : Int := p.val 83
def Params.drainDelay (p : Params) : Nat := p.nat 84
def Params.autoDrain (p : Params) : Bool := decide (p.val 85 = 1)
def Params.ringSplit (p : Params) : Nat := p.nat 86
def Params.grantWait (p : Params) : Nat := p.nat 87
def Params.settleTime (p : Params) : Nat := p.nat 88
def Params.backoffTime (p : Params) : Nat := p.nat 89
def Params.brakeHold (p : Params) : Nat := p.nat 90
def Params.gapTime (p : Params) : Nat := p.nat 91
def Params.awningStall (p : Params) : Nat := p.nat 92
def Params.stepStall (p : Params) : Nat := p.nat 93
def Params.stallTime (p : Params) : Nat := p.nat 94
def Params.inrushBlank (p : Params) : Nat := p.nat 95
def Params.maxRetries (p : Params) : Nat := p.nat 96
def Params.endZone (p : Params) : Nat := p.nat 97
def Params.awningTravel (p : Params) : Nat := p.nat 98
def Params.stepTravel (p : Params) : Nat := p.nat 99
def Params.windFactor (p : Params) : Nat := p.nat 100
def Params.tripSpeed (p : Params) : Nat := p.nat 101
def Params.lockoutRelease (p : Params) : Nat := p.nat 102
def Params.autoStep (p : Params) : Bool := decide (p.val 103 = 1)
def Params.autoDormant (p : Params) : Nat := p.nat 104
def Params.silenceTimeout (p : Params) : Nat := p.nat 105
/-- Identifiers 48..53. -/
def Params.switchLevel (p : Params) (i : Fin 6) : Nat := p.nat (48 + i.val)
/-- Identifiers 65, 67, 69: FRESH, GREY, BLACK. -/
def Params.emptyRaw (p : Params) (i : Fin 3) : Int := p.val (65 + 2 * i.val)
/-- Identifiers 66, 68, 70. -/
def Params.fullRaw (p : Params) (i : Fin 3) : Int := p.val (66 + 2 * i.val)

end Sys2Proof.Machine
end

