-- ==== Sys2Proof/Machine/State.lean ====
section
/-! DEFINITION. The state of the part, block by block, as plain data, its reset, and the reasons a step
can stop. INVENTORY.md lists every field with the rule that names it. -/

namespace Sys2Proof.Machine

/-! ## Charge Meter (01_charge_account_and_battery_bands.md) -/

/-- The battery's service level, codes 0 to 3 in this order. -/
inductive Band where
  | normal
  | economy
  | reserve
  | critical
  deriving DecidableEq, Repr

inductive SyncState where
  | estimating
  | unsynced
  | synced
  deriving DecidableEq, Repr

inductive FloorState where
  | normal
  | forced
  deriving DecidableEq, Repr

/-- The readings of the most recent metered interval, with its marks (R3, R4, R5, R10). -/
structure Readings where
  current : Int
  voltage : Nat
  battery : Int
  saturated : Bool
  absent : Bool
  empty : Bool
  deriving DecidableEq, Repr

/-- The samples of the interval in progress (R3, R4). -/
structure IntervalAcc where
  sumCurrent : Int
  sumVoltage : Int
  count : Nat
  saturated : Bool
  deriving DecidableEq, Repr

structure Meter where
  q : Nat
  sync : SyncState
  syncTimer : Nat
  spent : Bool
  age : Nat
  dayAcc : Nat
  /-- none before the first metered interval after a power-on reset (R25, R28) -/
  readings : Option Readings
  acc : IntervalAcc
  /-- I_f (R13) -/
  filtered : Int
  /-- f, permille (R11) -/
  derating : Nat
  unsyncedLong : Bool
  socBand : Band
  band : Band
  floor : FloorState
  belowTimer : Nat
  recoveryTimer : Nat
  chargeInhibit : Bool
  intervalStart : Tick
  deriving DecidableEq, Repr

/-! ## Load Table and Budget Arbiter (02_load_table_and_power_budget.md) -/

/-- The load channels by number: 0..5 LIGHT0..LIGHT5, 6 HEATER, 7 PUMP, 8 FRESH_PAD, 9 GREY_PAD,
10 AUX0, 11 AUX1, 12 DRIVE (R29). -/
abbrev Channel := Fin 13

inductive Origin where
  | host
  | schedule
  | switch
  | scene
  | entry
  | frost
  | thermostat
  | motion
  | override
  deriving DecidableEq, Repr

/-- The origin set of a record with the level per origin (R30). An origin of a channel without levels
is present with the placeholder level 0. -/
structure OriginSet where
  host : Option Nat
  schedule : Option Nat
  switch : Option Nat
  scene : Option Nat
  entry : Option Nat
  frost : Option Nat
  thermostat : Option Nat
  motion : Option Nat
  override : Option Nat
  deriving DecidableEq, Repr

/-- The stored fields of a load record; its state, class, draws, committed mark and rank are derived
(log 15). -/
structure LoadRec where
  origins : OriginSet
  /-- present only while WAITING -/
  waitStart : Option Tick
  shedMark : Bool
  overdrawHold : Bool
  deriving DecidableEq, Repr

structure LoadTable where
  recs : Vector LoadRec 13
  /-- the waiting list, front first (R42) -/
  waiting : List Channel
  /-- the grant order, oldest grant first (R30) -/
  granted : List Channel
  budget : Nat
  /-- the band last handed on to the table (R34, R35) -/
  band : Band
  overdraw : Nat
  clear : Nat
  deriving DecidableEq, Repr

/-! ## Lamp Controller (03_cabin_lights.md) -/

inductive FadeState where
  | steady
  | rising
  | falling
  deriving DecidableEq, Repr

structure Lamp where
  applied : Nat
  /-- 0..25,600, in 1/256 % -/
  output : Nat
  fade : FadeState
  fallStart : Option Nat
  /-- the demand draw handed to the Load Table, mA (R56) -/
  presented : Nat
  deriving DecidableEq, Repr

structure Lamps where
  chans : Vector Lamp 6
  scenes : Vector (Vector (Option Nat) 6) 4
  entryDue : Option Tick
  deriving DecidableEq, Repr

/-! ## Heater Sequencer (04_cabin_heater.md) -/

inductive HeaterState where
  | off
  | waitGrant
  | starting
  | running
  | purging
  | lockout
  deriving DecidableEq, Repr

/-- OFF < FROST < ECONOMY < COMFORT (R73). -/
inductive HeatMode where
  | off
  | frost
  | economy
  | comfort
  deriving DecidableEq, Repr

inductive SensorState where
  | unread
  | present
  | absent
  deriving DecidableEq, Repr

inductive Thermostat where
  | satisfied
  | calling
  deriving DecidableEq, Repr

structure Heater where
  state : HeaterState
  hostMode : HeatMode
  schedMode : HeatMode
  frostOrigin : Bool
  ceiling : HeatMode
  effective : HeatMode
  reading : Option Int
  sensor : SensorState
  thermostat : Thermostat
  demand : Bool
  failed : Nat
  latch : Bool
  glowDue : Option Tick
  purgeDue : Option Tick
  cabinDue : Tick
  deriving DecidableEq, Repr

/-! ## Tank and Frost Unit (05_tanks_pump_and_frost_protection.md) -/

/-- The level source; while HELD, with the held level, which may be unknown (R92, R93). -/
inductive LevelSource where
  | parked
  | held (level : Option Nat)
  deriving DecidableEq, Repr

structure TankRec where
  raw : Nat
  sender : SensorState
  /-- the window, oldest level first -/
  window : List Nat
  source : LevelSource
  threshold : Bool
  deriving DecidableEq, Repr

/-- In the order of severity (R102). -/
inductive FrostState where
  | safe
  | watch
  | guard
  | danger
  | drained
  deriving DecidableEq, Repr

structure FrostCtl where
  state : FrostState
  reading : Option Int
  sensor : SensorState
  dangerDue : Option Tick
  deriving DecidableEq, Repr

structure Tanks where
  /-- FRESH, GREY, BLACK -/
  recs : Vector TankRec 3
  fresh : FrostCtl
  grey : FrostCtl
  senderDue : Option Tick
  tempDue : Tick
  pumpDue : Option Tick
  pumpFault : Bool
  deriving DecidableEq, Repr

/-! ## Drive Stage and Motion Rings (06_..., 07_awning_and_entry_step.md) -/

inductive Actuator where
  | step
  | awning
  deriving DecidableEq, Repr

inductive StageState where
  | idle
  | claimed
  | waking
  | running
  | backing
  | retryWait
  | braking
  | gap
  deriving DecidableEq, Repr

inductive Direction where
  | extend
  | retract
  deriving DecidableEq, Repr

/-- What an owner runs: a slot of the motion table, or its actuator's override. -/
inductive Motion where
  | slot (i : Fin 16)
  | override
  deriving DecidableEq, Repr

structure Owner where
  actuator : Actuator
  motion : Motion
  deriving DecidableEq, Repr

/-- A running gap timer, with the actuator whose BRAKING started it. -/
structure GapTimer where
  ms : Nat
  actuator : Actuator
  deriving DecidableEq, Repr

inductive MoveAction where
  | extend
  | retract
  | moveTo
  deriving DecidableEq, Repr

/-- What the stage shows of the motion that its owner runs (R131). -/
structure StageMotion where
  action : MoveAction
  retries : Nat
  runTime : Nat
  deriving DecidableEq, Repr

structure DriveStage where
  stage : StageState
  owner : Option Owner
  direction : Option Direction
  phaseTimer : Nat
  gap : Option GapTimer
  lastActuator : Actuator
  lastServed : Actuator
  stallCount : Nat
  /-- ms of RUNNING since its last entry (R126) -/
  legTime : Nat
  /-- the inrush blank in force since that entry (R126, R134) -/
  blank : Nat
  /-- the last counted sample brought the stall count to the stall time then in force (R126, R134) -/
  stallDue : Bool
  /-- present in BRAKING: the motion that ended there, which the owner keeps to its end (R116, R131) -/
  braked : Option StageMotion
  deriving DecidableEq, Repr

inductive SlotState where
  | free
  | ready
  | active
  | complete
  deriving DecidableEq, Repr

inductive MoveOrigin where
  | host
  | schedule
  | switch
  deriving DecidableEq, Repr

/-- In the order of the table of motion results (R216), codes 1 to 12. -/
inductive MotionResult where
  | doneEndSwitch
  | doneTarget
  | doneEndByStall
  | failedStallLimit
  | failedLateStall
  | failedTimeout
  | refusedInterlock
  | refusedBudget
  | refusedNotReady
  | abortedCancelled
  | abortedPreempted
  | abortedEstop
  deriving DecidableEq, Repr

structure Slot where
  state : SlotState
  action : MoveAction
  /-- present only for MOVE_TO -/
  target : Option Nat
  notify : Bool
  origin : MoveOrigin
  result : Option MotionResult
  retries : Nat
  runTime : Nat
  deriving DecidableEq, Repr

inductive OverrideState where
  | none
  | raised
  | active
  deriving DecidableEq, Repr

inductive OverrideCause where
  | ignition
  | wind
  deriving DecidableEq, Repr

structure OverrideSlot where
  state : OverrideState
  cause : Option OverrideCause
  retries : Nat
  runTime : Nat
  lastResult : Option MotionResult
  deriving DecidableEq, Repr

structure MotionTable where
  slots : Vector Slot 16
  stepTail : Fin 16
  awningTail : Fin 16
  stepOverride : OverrideSlot
  awningOverride : OverrideSlot
  deriving DecidableEq, Repr

/-- pos_ms is none while the awning's reference state is UNKNOWN; step_ms is none while unknown. -/
structure Actuators where
  posMs : Option Nat
  stepMs : Option Nat
  homing : Option Nat
  deriving DecidableEq, Repr

structure Wind where
  count : Nat
  due : Tick
  start : Tick
  speed : Nat
  high : Nat
  lockout : Bool
  calm : Nat
  deriving DecidableEq, Repr

/-! ## Signal Map (08_signal_map.md) -/

/-- The input events of the catalog, numbers 1 to 22 (R164). -/
inductive InputEvent where
  | ignitionOn
  | shorePresent
  | doorOpen
  | estop
  | loadLimit
  | windPulse
  | stepSwitch
  | awningOutSwitch
  | awningInSwitch
  | lightSwitch (n : Fin 6)
  | sceneSelect
  | pumpDemand
  | heaterFlame
  | stepInLimit
  | stepOutLimit
  | awningInLimit
  | wake
  deriving DecidableEq, Repr

/-- The output events of the catalog, numbers 32 to 47 (R165). -/
inductive OutputEvent where
  | lowBattery
  | bandBit0
  | bandBit1
  | roadWarning
  | attention
  | chargeInhibit
  | drainValve
  | pumpRelay
  | freshPadOn
  | greyPadOn
  | heaterRun
  | aux0Out
  | aux1Out
  | motorSupply
  | stepSelect
  | awningSelect
  deriving DecidableEq, Repr

inductive PinEvent where
  | input (e : InputEvent)
  | output (e : OutputEvent)
  deriving DecidableEq, Repr

inductive PinMode where
  | off
  | input
  | inputPullup
  | pushPull
  | openDrain
  deriving DecidableEq, Repr

inductive Polarity where
  | activeHigh
  | activeLow
  deriving DecidableEq, Repr

/-- The binding state with the debounce state that belongs to it. A pin that is SETTLING has no
reference level before its first sample (R160). -/
inductive PinBinding where
  | unbound
  | settling (reference : Option Bool) (count : Nat)
  | joined (contribution : Bool) (count : Nat)
  deriving DecidableEq, Repr

structure Pin where
  mode : PinMode
  polarity : Polarity
  event : Option PinEvent
  wake : Bool
  binding : PinBinding
  deriving DecidableEq, Repr

/-! ## Time and Schedule Unit (09_device_time_schedule_and_dormant_state.md) -/

inductive PowerState where
  | active
  | entering
  | dormant
  | leaving
  deriving DecidableEq, Repr

inductive TimeBase where
  | fast
  | slow
  deriving DecidableEq, Repr

inductive CrystalState where
  | unchecked
  | good
  | fault
  deriving DecidableEq, Repr

/-- The calibration state: while RUNNING, the slow steps counted, the measured time in 1/65,536 tick
and the fast ticks since the start (R175). -/
inductive Calibration where
  | idle
  | running (steps measured fastTicks : Nat)
  deriving DecidableEq, Repr

/-- A schedule action with its arguments stored as given (R179). -/
inductive SchedAction where
  | load (channel level : Byte)
  | heat (mode : Byte)
  | scene (number : Byte)
  | move (ring action : Byte) (target : Nat)
  | note
  deriving DecidableEq, Repr

inductive EntryState where
  | free
  | armed
  | spent
  deriving DecidableEq, Repr

/-- The result codes in the order of their numbers 0 to 10 (R199, R216). -/
inductive Result where
  | accepted
  | clamped
  | unknown
  | length
  | range
  | busy
  | full
  | interlock
  | condition
  | estop
  | notReady
  deriving DecidableEq, Repr

structure SchedEntry where
  state : EntryState
  due : Option Tick
  period : Nat
  action : Option SchedAction
  notify : Bool
  outcome : Option Result
  missed : Nat
  deriving DecidableEq, Repr

structure TimeUnit where
  tick : Tick
  fraction : Fraction
  inc : Nat
  power : PowerState
  calib : Calibration
  crystal : CrystalState
  idleDue : Option Tick
  schedule : Vector SchedEntry 16
  deriving DecidableEq, Repr

/-! ## Link Interface (10_habitation_link.md) -/

inductive RxState where
  | hunt
  | length
  | body
  | check
  deriving DecidableEq, Repr

/-- The transmitter state; in NOTICE, with the frame being sent. In REPLY it sends the oldest frame of
the reply queue (R200). -/
inductive TxState where
  | free
  | reply
  | notice (f : Frame)
  deriving DecidableEq, Repr

/-- The flags in the order of their numbers 1 to 21 (R201, R216). -/
inductive Flag where
  | estopActive
  | roadUnsafe
  | frostDanger
  | drained
  | moveFailed
  | overdrawShed
  | sensorLost
  | pumpFault
  | heaterLockout
  | bandChange
  | accountSynced
  | chargeInhibit
  | loadShed
  | unsyncedLong
  | moveDone
  | schedFired
  | freshLow
  | greyFull
  | blackFull
  | windLockout
  | hostSilence
  deriving DecidableEq, Repr

structure FlagBits where
  set : Bool
  mark : Bool
  deriving DecidableEq, Repr

inductive FlagLevel where
  | safety
  | energy
  | service
  deriving DecidableEq, Repr

/-- Which levels are MASKED (R205). -/
structure LevelMask where
  safety : Bool
  energy : Bool
  service : Bool
  deriving DecidableEq, Repr

inductive Attended where
  | attended
  | unattended
  deriving DecidableEq, Repr

structure Link where
  rx : RxState
  /-- the bytes received since the last START byte (R195) -/
  received : List Byte
  expected : Nat
  inbox : List Frame
  replies : List Frame
  tx : TxState
  restartPending : Bool
  /-- flag number 1 first -/
  flags : Vector FlagBits 21
  masked : LevelMask
  hold : Nat
  noticeCounter : Byte
  attended : Attended
  silence : Option Nat
  deriving DecidableEq, Repr

/-! ## The whole part -/

structure State where
  meter : Meter
  table : LoadTable
  lamps : Lamps
  heater : Heater
  tanks : Tanks
  drive : DriveStage
  motion : MotionTable
  act : Actuators
  wind : Wind
  pins : Vector Pin 16
  time : TimeUnit
  link : Link
  params : Params
  /-- the commands that are waiting, first in, first out (log 1) -/
  pending : List Instr
  deriving DecidableEq, Repr

/-- The spec names no event that stops the part: a request it cannot carry out is answered with a
result code (R199), a failed sensor is a flag, an overload is a shed. No fault exists. -/
inductive Fault where
  deriving DecidableEq, Repr

/-- Why a command is not taken. -/
inductive Refusal where
  /-- raised by `exec` for an arm without a meaning; no arm has none. Safe: the model stops. -/
  | notModelled (mnemonic : String)
  /-- raised by the meanings that take converter readings, for a reading outside the range that the
  manual gives the converter (R5, R75, R90, R100), so that no equipment can give the command. Safe: the
  model stops where the part cannot be. -/
  | illFormed (mnemonic : String)
  deriving DecidableEq, Repr

/-! ## Reset values -/

def OriginSet.empty : OriginSet := ⟨none, none, none, none, none, none, none, none, none⟩

def LoadRec.reset : LoadRec := ⟨.empty, none, false, false⟩

def IntervalAcc.empty : IntervalAcc := ⟨0, 0, 0, false⟩

/-- R25. -/
def Meter.reset : Meter where
  q := 0
  sync := .estimating
  syncTimer := 0
  spent := false
  age := 0
  dayAcc := 0
  readings := none
  acc := .empty
  filtered := 0
  derating := 1000
  unsyncedLong := false
  socBand := .critical
  band := .critical
  floor := .normal
  belowTimer := 0
  recoveryTimer := 0
  chargeInhibit := true
  intervalStart := 0

/-- R53: B is the Critical allowance, 3,000 mA. -/
def LoadTable.reset : LoadTable where
  recs := Vector.replicate 13 .reset
  waiting := []
  granted := []
  budget := 3000
  band := .critical
  overdraw := 0
  clear := 0

def Lamp.reset : Lamp := ⟨0, 0, .steady, none, 0⟩

/-- R70. -/
def Lamps.reset : Lamps where
  chans := Vector.replicate 6 .reset
  scenes := Vector.replicate 4 (Vector.replicate 6 none)
  entryDue := none

/-- R88, R75. -/
def Heater.reset : Heater where
  state := .off
  hostMode := .off
  schedMode := .off
  frostOrigin := false
  ceiling := .frost
  effective := .off
  reading := none
  sensor := .unread
  thermostat := .satisfied
  demand := false
  failed := 0
  latch := false
  glowDue := none
  purgeDue := none
  cabinDue := 16

def TankRec.reset : TankRec := ⟨0, .unread, [], .parked, false⟩

def FrostCtl.reset : FrostCtl := ⟨.safe, none, .unread, none⟩

/-- R111, R90, R100. -/
def Tanks.reset : Tanks where
  recs := Vector.replicate 3 .reset
  fresh := .reset
  grey := .reset
  senderDue := some 16
  tempDue := 16
  pumpDue := none
  pumpFault := false

/-- R135; phaseTimer, legTime and blank: DESIGN CHOICE 0 (log 25). -/
def DriveStage.reset : DriveStage where
  stage := .idle
  owner := none
  direction := none
  phaseTimer := 0
  gap := none
  lastActuator := .awning
  lastServed := .awning
  stallCount := 0
  legTime := 0
  blank := 0
  stallDue := false
  braked := none

/-- A FREE slot holds no motion (R120); the placeholder fields: DESIGN CHOICE (log 25). -/
def Slot.free : Slot := ⟨.free, .extend, none, false, .host, none, 0, 0⟩

/-- R135: NONE, with no cause and no last result; the retries used and the run time 0: DESIGN CHOICE (log 25). -/
def OverrideSlot.reset : OverrideSlot := ⟨.none, none, 0, 0, none⟩

/-- R135. -/
def MotionTable.reset : MotionTable where
  slots := Vector.replicate 16 .free
  stepTail := 7
  awningTail := 15
  stepOverride := .reset
  awningOverride := .reset

/-- R155. -/
def Actuators.reset : Actuators := ⟨none, none, none⟩

/-- R155. -/
def Wind.reset : Wind := ⟨0, 48, 0, 0, 0, false, 0⟩

/-- R169. -/
def Pin.reset : Pin := ⟨.off, .activeHigh, none, false, .unbound⟩

/-- R185; period and notify: DESIGN CHOICE (log 25). -/
def SchedEntry.free : SchedEntry := ⟨.free, none, 0, none, false, none, 0⟩

/-- R192. -/
def TimeUnit.reset : TimeUnit where
  tick := 0
  fraction := 0
  inc := 131072
  power := .active
  calib := .running 0 0 0
  crystal := .unchecked
  idleDue := none
  schedule := Vector.replicate 16 .free

/-- R211: CHARGE_INHIBIT, number 12, is set at once with its mark, so ATTENTION is active; R169 would have it
inactive (log 39: the model follows R211). -/
def Link.reset : Link where
  rx := .hunt
  received := []
  expected := 0
  inbox := []
  replies := []
  tx := .free
  restartPending := false
  flags := (Vector.replicate 21 ⟨false, false⟩).set 11 ⟨true, true⟩
  masked := ⟨false, false, false⟩
  hold := 0
  noticeCounter := 0
  attended := .attended
  silence := some 480

/-- The part right after a power-on reset: every chapter's power-on rule (R25, R53, R70, R88, R111,
R135, R155, R169, R185, R192, R211, R212), with no command waiting. -/
def State.reset : State where
  meter := .reset
  table := .reset
  lamps := .reset
  heater := .reset
  tanks := .reset
  drive := .reset
  motion := .reset
  act := .reset
  wind := .reset
  pins := Vector.replicate 16 .reset
  time := .reset
  link := .reset
  params := .defaults
  pending := []

end Sys2Proof.Machine
end

