-- ==== Sys2Proof/Machine/Operands.lean ====
section
/-! DEFINITION. The operand forms of the link: how a request's payload is read and a reply's payload is
written (R215, R217, R218), and the numeric codes of the choices the manual names. A choice without a
code in the central layouts is coded by its position, from 0, in the list in which its state table
gives it (R215). -/

namespace Sys2Proof.Machine

/-! ## Fields -/

/-- An unsigned field, high byte first (R215). -/
def beNat (bs : List Byte) : Nat := bs.foldl (fun acc b => acc * 256 + b.toNat) 0

/-- A signed four-byte field, two's complement, high byte first (R215). -/
def beInt (bs : List Byte) : Int := (BitVec.ofNat 32 (beNat bs)).toInt

/-- The byte at a place of a payload; 0 beyond its end (no length that R217 allows is that short). -/
def byteAt (p : List Byte) (i : Nat) : Byte := p.getD i 0

/-- `n` bytes of a payload from a place on. -/
def bytesAt (p : List Byte) (i n : Nat) : List Byte := (p.drop i).take n

def u8 (n : Nat) : List Byte := [BitVec.ofNat 8 n]
def u16 (n : Nat) : List Byte := u8 (n / 256) ++ u8 n
def u24 (n : Nat) : List Byte := u8 (n / 65536) ++ u16 n
def u32 (n : Nat) : List Byte := u16 (n / 65536) ++ u16 n
def i16 (x : Int) : List Byte := u16 (BitVec.ofInt 16 x).toNat
def i32 (x : Int) : List Byte := u32 (BitVec.ofInt 32 x).toNat
/-- An item that the manual words as a question (whether something holds) or lays out as 0 or 1: 1 for yes
(log 10). -/
def flag8 (b : Bool) : List Byte := u8 (if b then 1 else 0)

/-- R215: an item whose two values a state table names, the one that `b` says first (set or clear, present or
absent, held or not held, active or inactive), coded by its position: 0 for the first, 1 for the second. -/
def named8 (b : Bool) : List Byte := u8 (if b then 0 else 1)

/-- A field that is absent, unknown or empty (R215): all ones in an unsigned field of one to three bytes, and
−2,147,483,648 in a field of four, since a quantity in a payload is signed (00_scope.md, Units). -/
def opt8 (x : Option Nat) : List Byte := u8 (x.getD 255)
def opt16 (x : Option Nat) : List Byte := u16 (x.getD 65535)
def opt24 (x : Option Nat) : List Byte := u24 (x.getD 16777215)
def opt32 (x : Option Nat) : List Byte := u32 (x.getD 2147483648)
def optI32 (x : Option Int) : List Byte := i32 (x.getD (-2147483648))

/-- Bits of one byte: the value of a Bool at a bit place. -/
def bitOf (b : Bool) (place : Nat) : Nat := if b then 2 ^ place else 0

/-- A set as one byte of bits, bit 0 for the first of its list, 1 where it is in the set (log 10: the model's
choice, R215 gives sets no coding). -/
def set8 (l : List Bool) : List Byte := u8 (l.zipIdx.map (fun a => bitOf a.1 a.2)).sum

/-! ## Codes -/

def Band.code : Band → Nat
  | .normal => 0
  | .economy => 1
  | .reserve => 2
  | .critical => 3

def PowerState.code : PowerState → Nat
  | .active => 0
  | .entering => 1
  | .dormant => 2
  | .leaving => 3

def Actuator.code : Actuator → Nat
  | .step => 0
  | .awning => 1

def Actuator.ofCode (b : Byte) : Option Actuator :=
  if b.toNat = 0 then some .step else if b.toNat = 1 then some .awning else none

def MoveAction.code : MoveAction → Nat
  | .extend => 0
  | .retract => 1
  | .moveTo => 2

def MoveAction.ofCode (b : Byte) : Option MoveAction :=
  if b.toNat = 0 then some .extend else if b.toNat = 1 then some .retract
  else if b.toNat = 2 then some .moveTo else none

def HeatMode.code : HeatMode → Nat
  | .off => 0
  | .frost => 1
  | .economy => 2
  | .comfort => 3

def HeatMode.ofCode (b : Byte) : Option HeatMode :=
  if b.toNat = 0 then some .off else if b.toNat = 1 then some .frost
  else if b.toNat = 2 then some .economy else if b.toNat = 3 then some .comfort else none

def HeaterState.code : HeaterState → Nat
  | .off => 0
  | .waitGrant => 1
  | .starting => 2
  | .running => 3
  | .purging => 4
  | .lockout => 5

def FrostState.code : FrostState → Nat
  | .safe => 0
  | .watch => 1
  | .guard => 2
  | .danger => 3
  | .drained => 4

def StageState.code : StageState → Nat
  | .idle => 0
  | .claimed => 1
  | .waking => 2
  | .running => 3
  | .backing => 4
  | .retryWait => 5
  | .braking => 6
  | .gap => 7

def SensorState.code : SensorState → Nat
  | .unread => 0
  | .present => 1
  | .absent => 2

def Thermostat.code : Thermostat → Nat
  | .satisfied => 0
  | .calling => 1

def SyncState.code : SyncState → Nat
  | .estimating => 0
  | .unsynced => 1
  | .synced => 2

def FloorState.code : FloorState → Nat
  | .normal => 0
  | .forced => 1

def FadeState.code : FadeState → Nat
  | .steady => 0
  | .rising => 1
  | .falling => 2

def Direction.code : Direction → Nat
  | .extend => 0
  | .retract => 1

def SlotState.code : SlotState → Nat
  | .free => 0
  | .ready => 1
  | .active => 2
  | .complete => 3

def MoveOrigin.code : MoveOrigin → Nat
  | .host => 0
  | .schedule => 1
  | .switch => 2

def OverrideState.code : OverrideState → Nat
  | .none => 0
  | .raised => 1
  | .active => 2

def OverrideCause.code : OverrideCause → Nat
  | .ignition => 0
  | .wind => 1

def EntryState.code : EntryState → Nat
  | .free => 0
  | .armed => 1
  | .spent => 2

def TimeBase.code : TimeBase → Nat
  | .fast => 0
  | .slow => 1

def CrystalState.code : CrystalState → Nat
  | .unchecked => 0
  | .good => 1
  | .fault => 2

def Attended.code : Attended → Nat
  | .attended => 0
  | .unattended => 1

def FlagLevel.code : FlagLevel → Nat
  | .safety => 0
  | .energy => 1
  | .service => 2

/-- R216. -/
def Result.code : Result → Nat
  | .accepted => 0
  | .clamped => 1
  | .unknown => 2
  | .length => 3
  | .range => 4
  | .busy => 5
  | .full => 6
  | .interlock => 7
  | .condition => 8
  | .estop => 9
  | .notReady => 10

/-- R216. -/
def MotionResult.code : MotionResult → Nat
  | .doneEndSwitch => 1
  | .doneTarget => 2
  | .doneEndByStall => 3
  | .failedStallLimit => 4
  | .failedLateStall => 5
  | .failedTimeout => 6
  | .refusedInterlock => 7
  | .refusedBudget => 8
  | .refusedNotReady => 9
  | .abortedCancelled => 10
  | .abortedPreempted => 11
  | .abortedEstop => 12

/-- A motion result is one byte, 0 when absent (R215). -/
def motionResult8 (r : Option MotionResult) : List Byte := u8 ((r.map MotionResult.code).getD 0)

def PinMode.code : PinMode → Nat
  | .off => 0
  | .input => 1
  | .inputPullup => 2
  | .pushPull => 3
  | .openDrain => 4

def PinMode.ofCode (b : Byte) : Option PinMode :=
  match b.toNat with
  | 0 => some .off
  | 1 => some .input
  | 2 => some .inputPullup
  | 3 => some .pushPull
  | 4 => some .openDrain
  | _ => none

def Polarity.code : Polarity → Nat
  | .activeHigh => 0
  | .activeLow => 1

def Polarity.ofCode (b : Byte) : Option Polarity :=
  if b.toNat = 0 then some .activeHigh else if b.toNat = 1 then some .activeLow else none

/-- The catalog number of an input event (R164). -/
def InputEvent.code : InputEvent → Nat
  | .ignitionOn => 1
  | .shorePresent => 2
  | .doorOpen => 3
  | .estop => 4
  | .loadLimit => 5
  | .windPulse => 6
  | .stepSwitch => 7
  | .awningOutSwitch => 8
  | .awningInSwitch => 9
  | .lightSwitch n => 10 + n.val
  | .sceneSelect => 16
  | .pumpDemand => 17
  | .heaterFlame => 18
  | .stepInLimit => 19
  | .stepOutLimit => 20
  | .awningInLimit => 21
  | .wake => 22

/-- The twenty-two input events in the order of their numbers (R164). -/
def inputEvents : List InputEvent :=
  [.ignitionOn, .shorePresent, .doorOpen, .estop, .loadLimit, .windPulse, .stepSwitch,
   .awningOutSwitch, .awningInSwitch, .lightSwitch 0, .lightSwitch 1, .lightSwitch 2,
   .lightSwitch 3, .lightSwitch 4, .lightSwitch 5, .sceneSelect, .pumpDemand, .heaterFlame,
   .stepInLimit, .stepOutLimit, .awningInLimit, .wake]

/-- The catalog number of an output event (R165). -/
def OutputEvent.code : OutputEvent → Nat
  | .lowBattery => 32
  | .bandBit0 => 33
  | .bandBit1 => 34
  | .roadWarning => 35
  | .attention => 36
  | .chargeInhibit => 37
  | .drainValve => 38
  | .pumpRelay => 39
  | .freshPadOn => 40
  | .greyPadOn => 41
  | .heaterRun => 42
  | .aux0Out => 43
  | .aux1Out => 44
  | .motorSupply => 45
  | .stepSelect => 46
  | .awningSelect => 47

/-- The sixteen output events in the order of their numbers (R165). -/
def outputEvents : List OutputEvent :=
  [.lowBattery, .bandBit0, .bandBit1, .roadWarning, .attention, .chargeInhibit, .drainValve,
   .pumpRelay, .freshPadOn, .greyPadOn, .heaterRun, .aux0Out, .aux1Out, .motorSupply, .stepSelect,
   .awningSelect]

def PinEvent.code : Option PinEvent → Nat
  | none => 0
  | some (.input e) => e.code
  | some (.output e) => e.code

/-- The event field of a PIN_MAP: outer none for a number that is neither in the catalog nor 0 (R158,
R164: numbers 23 to 31 and above 47 are not in the catalog). -/
def PinEvent.ofCode (b : Byte) : Option (Option PinEvent) :=
  if b.toNat = 0 then some none
  else
    match inputEvents.find? (fun e => decide (e.code = b.toNat)) with
    | some e => some (some (.input e))
    | none =>
      match outputEvents.find? (fun e => decide (e.code = b.toNat)) with
      | some e => some (some (.output e))
      | none => none

/-! ## The flag set's table (R201, R216) -/

/-- The kind of a flag decides how it is cleared (R201). -/
inductive FlagKind where
  | occurrence
  | condition
  | latch
  deriving DecidableEq, Repr

def FlagKind.code : FlagKind → Nat
  | .occurrence => 0
  | .condition => 1
  | .latch => 2

/-- The flags in the order of their numbers 1 to 21. -/
def allFlags : List Flag :=
  [.estopActive, .roadUnsafe, .frostDanger, .drained, .moveFailed, .overdrawShed, .sensorLost,
   .pumpFault, .heaterLockout, .bandChange, .accountSynced, .chargeInhibit, .loadShed,
   .unsyncedLong, .moveDone, .schedFired, .freshLow, .greyFull, .blackFull, .windLockout,
   .hostSilence]

def Flag.number : Flag → Nat
  | .estopActive => 1
  | .roadUnsafe => 2
  | .frostDanger => 3
  | .drained => 4
  | .moveFailed => 5
  | .overdrawShed => 6
  | .sensorLost => 7
  | .pumpFault => 8
  | .heaterLockout => 9
  | .bandChange => 10
  | .accountSynced => 11
  | .chargeInhibit => 12
  | .loadShed => 13
  | .unsyncedLong => 14
  | .moveDone => 15
  | .schedFired => 16
  | .freshLow => 17
  | .greyFull => 18
  | .blackFull => 19
  | .windLockout => 20
  | .hostSilence => 21

def Flag.ofNumber (n : Nat) : Option Flag := if n = 0 then none else allFlags[n - 1]?

/-- The flag's place in `Link.flags`. -/
def Flag.index (f : Flag) : Fin 21 := Fin.ofNat 21 (f.number - 1)

/-- Flags 1 to 9 are SAFETY, 10 to 14 ENERGY, 15 to 21 SERVICE (R216). -/
def Flag.level (f : Flag) : FlagLevel :=
  if f.number ≤ 9 then .safety else if f.number ≤ 14 then .energy else .service

def Flag.kind : Flag → FlagKind
  | .estopActive => .condition
  | .roadUnsafe => .condition
  | .frostDanger => .condition
  | .drained => .condition
  | .moveFailed => .occurrence
  | .overdrawShed => .occurrence
  | .sensorLost => .condition
  | .pumpFault => .latch
  | .heaterLockout => .latch
  | .bandChange => .occurrence
  | .accountSynced => .occurrence
  | .chargeInhibit => .condition
  | .loadShed => .occurrence
  | .unsyncedLong => .condition
  | .moveDone => .occurrence
  | .schedFired => .occurrence
  | .freshLow => .condition
  | .greyFull => .condition
  | .blackFull => .condition
  | .windLockout => .condition
  | .hostSilence => .occurrence

/-- A flag byte: number in the low five bits, kind in the next two, mark in the highest (R215). -/
def flagByte (f : Flag) (mark : Bool) : Byte :=
  BitVec.ofNat 8 (f.number + f.kind.code * 32 + bitOf mark 7)

/-! ## Request payloads (R217) -/

/-- The request kind codes of R217. -/
def kindCodes : List Nat := (List.range 31).drop 1

/-- The payload lengths that R217 allows for a request kind; every length for other codes. -/
def lengthAllowed (kind : Nat) (n : Nat) : Bool :=
  match kind with
  | 1 => n == 0
  | 2 => decide (n % 5 = 0) && decide (5 ≤ n) && decide (n ≤ 40)
  | 3 => decide (1 ≤ n) && decide (n ≤ 8)
  | 4 => n == 2
  | 5 => n == 1
  | 6 => n == 1
  | 7 => n == 5
  | 8 => n == 2
  | 9 => n == 2
  | 10 => n == 15
  | 11 => n == 1
  | 12 => n == 1
  | 13 => n == 5
  | 14 => n == 1
  | 15 => n == 1
  | 16 => n == 0
  | 17 => decide (1 ≤ n) && decide (n ≤ 21)
  | 18 => n == 3
  | 19 => n == 0
  | 20 => n == 0
  | 21 => n == 2
  | 22 => n == 0
  | 23 => n == 1
  | 24 => n == 1
  | 25 => n == 4
  | 26 => n == 0
  | 27 => n == 0
  | 28 => n == 0
  | 29 => n == 0
  | 30 => n == 2
  | _ => true

/-- The pairs of a PARAM_WRITE: identifier (1), value (4, signed) (R217). -/
def parsePairs : List Byte → List (Nat × Int)
  | i :: a :: b :: c :: d :: rest => (i.toNat, beInt [a, b, c, d]) :: parsePairs rest
  | _ => []

/-- The notify byte and the wake flag byte are 0 or 1; any other is out of range (R217). -/
def parseFlag (b : Byte) : Option Bool :=
  if b.toNat = 0 then some false else if b.toNat = 1 then some true else none

/-- The action of a SCHED_WRITE, bytes 10 to 14 of its payload (R217). -/
def parseAction (kind a b c d : Byte) : Option SchedAction :=
  match kind.toNat with
  | 0 => some (.load a b)
  | 1 => some (.heat a)
  | 2 => some (.scene a)
  | 3 => some (.move a b (beNat [c, d]))
  | 4 => some .note
  | _ => none

/-- An action as in the request: kind and four argument bytes, unused bytes 0 (R215, R218). -/
def actionBytes : SchedAction → List Byte
  | .load ch lvl => u8 0 ++ [ch, lvl] ++ u16 0
  | .heat m => u8 1 ++ [m] ++ u24 0
  | .scene n => u8 2 ++ [n] ++ u24 0
  | .move r a t => u8 3 ++ [r, a] ++ u16 t
  | .note => u8 4 ++ u32 0

/-! ## Reply payloads -/

/-- The parts of a reply in `room` bytes: each part whole while it fits. The first one that does not fit
and all behind it are sent in the free coding, in the bytes that are left (log 11). -/
def fitParts : Nat → List (List Byte) → List Byte
  | _, [] => []
  | room, p :: rest =>
    if p.length ≤ room then p ++ fitParts (room - p.length) rest
    else (Config.overlongCoding (p :: rest).flatten).take room

/-- A reply of a layout that R215 gives by its general rule: the result code, then the parts of the
report, in the 58 bytes of a payload (R195). -/
def packParts (r : Result) (parts : List (List Byte)) : List Byte := u8 r.code ++ fitParts 57 parts

/-- A reply of one part. -/
def packReply (r : Result) (items : List Byte) : List Byte := packParts r [items]

/-- How many whole records fit in `room` bytes. -/
def fitCount : List (List Byte) → Nat → Nat
  | [], _ => 0
  | r :: rs, room => if r.length ≤ room then fitCount rs (room - r.length) + 1 else 0

/-- The records of an all-items reply: all of them if the payload stays within 58 bytes, otherwise
after the fixed items a record count and as many whole records as fit (R215). Fixed items that do not fit
themselves are sent in the free coding (log 11). -/
def packRecords (r : Result) (recs : List (List Byte)) (fixed : List Byte) : List Byte :=
  let all := recs.flatten
  if 1 + all.length + fixed.length ≤ 58 then u8 r.code ++ all ++ fixed
  else
    let head := fitParts 56 [fixed]
    let k := fitCount recs (56 - head.length)
    u8 r.code ++ head ++ u8 k ++ (recs.take k).flatten

/-- The bytes of a frame on the line, START to CRC (R195, R216). -/
def frameBytes (f : Frame) : List Byte :=
  let covered := u8 (2 + f.payload.length) ++ [f.kind, f.tag] ++ f.payload
  u8 165 ++ covered ++ u16 (crc16 covered).toNat

end Sys2Proof.Machine
end

