-- ==== Sys2Proof/Machine/Ops.lean ====
section
/-! DEFINITION. The operations the blocks share: replacing one block of the state, device time, the
hand-off order, the state of a catalog event, and the wake. -/

namespace Sys2Proof.Machine

/-! ## Replacing one block -/

def State.setMeter (s : State) (x : Meter) : State := { s with meter := x }
def State.setTable (s : State) (x : LoadTable) : State := { s with table := x }
def State.setLamps (s : State) (x : Lamps) : State := { s with lamps := x }
def State.setHeater (s : State) (x : Heater) : State := { s with heater := x }
def State.setTanks (s : State) (x : Tanks) : State := { s with tanks := x }
def State.setDrive (s : State) (x : DriveStage) : State := { s with drive := x }
def State.setMotion (s : State) (x : MotionTable) : State := { s with motion := x }
def State.setAct (s : State) (x : Actuators) : State := { s with act := x }
def State.setWind (s : State) (x : Wind) : State := { s with wind := x }
def State.setPins (s : State) (x : Vector Pin 16) : State := { s with pins := x }
def State.setTime (s : State) (x : TimeUnit) : State := { s with time := x }
def State.setLink (s : State) (x : Link) : State := { s with link := x }
def State.setParams (s : State) (x : Params) : State := { s with params := x }
def State.setPending (s : State) (x : List Instr) : State := { s with pending := x }

/-! ## Device time -/

/-- Device time means the tick count (R172). -/
def State.now (s : State) : Tick := s.time.tick

/-- The instant `n` ticks ahead. -/
def State.ahead (s : State) (n : Nat) : Tick := s.now + BitVec.ofNat 32 n

/-- The time base is FAST in ACTIVE and SLOW in the other power states (R172). -/
def timeBase (s : State) : TimeBase := if s.time.power = .active then .fast else .slow

/-- ENTERING or DORMANT: the power states in which a wake cause acts (R190). -/
def asleep (s : State) : Bool := s.time.power = .entering || s.time.power = .dormant

/-! ## Hand-offs without an order of their own -/

/-- Take the hand-offs `acts` in the order that the command names, and those it does not name after
them in the order of the list (log 3). -/
def inOrder : List HandOff → List (HandOff × (State → State)) → State → State
  | [], acts, s => acts.foldl (fun t a => a.2 t) s
  | h :: rest, acts, s =>
    match acts.find? (fun a => decide (a.1 = h)) with
    | some a => inOrder rest (acts.filter (fun a => decide (a.1 ≠ h))) (a.2 s)
    | none => inOrder rest acts s

/-! ## Catalog events (R161) -/

/-- The contribution of a pin that is JOINED to the input event `e`. -/
def Pin.joinedTo (p : Pin) (e : InputEvent) : Option Bool :=
  match p.event, p.binding with
  | some (.input e'), .joined c _ => if e' = e then some c else none
  | _, _ => none

/-- An input event is mapped while at least one pin bound to it is JOINED (R161). -/
def eventMapped (s : State) (e : InputEvent) : Bool :=
  (vlist s.pins).any (fun p => (p.joinedTo e).isSome)

/-- An input event is active while at least one of its JOINED pins has an active contribution; an
unmapped event is inactive (R161). -/
def eventActive (s : State) (e : InputEvent) : Bool :=
  (vlist s.pins).any (fun p => (p.joinedTo e).getD false)

/-! ## Restarting the debounce and the wake -/

/-- Every count of a JOINED or SETTLING pin is set to 0; a SETTLING pin keeps its reference level
(R162). -/
def Pin.clearCount (p : Pin) : Pin :=
  match p.binding with
  | .unbound => p
  | .settling r _ => { p with binding := .settling r 0 }
  | .joined c _ => { p with binding := .joined c 0 }

def restartDebounce (s : State) : State := s.setPins (vmap (fun _ p => p.clearCount) s.pins)

/-- The power state becoming LEAVING from DORMANT: the debounce counts restart at the fast rate (R162,
R190), the sender conversions resume (R90), and the cabin and tank temperature conversions take the
interval of the new state (R75, R100). -/
def wakeFromDormant (s : State) : State :=
  let t := restartDebounce s
  (t.setTanks { t.tanks with senderDue := some (t.ahead 16), tempDue := t.ahead 16 }).setHeater
    { t.heater with cabinDue := t.ahead 16 }

/-- R190: a wake cause taken in DORMANT or ENTERING makes the power state LEAVING at once; in ACTIVE or
LEAVING it changes nothing. -/
def wake (s : State) : State :=
  match s.time.power with
  | .dormant => (wakeFromDormant s).setTime { s.time with power := .leaving }
  | .entering => s.setTime { s.time with power := .leaving }
  | .active => s
  | .leaving => s

/-- The idle due instant is set anew from this event, if its conditions then hold: it is removed here,
and `settle` sets it at the end of the command (R187, log 24). -/
def touchIdle (s : State) : State := s.setTime { s.time with idleDue := none }

end Sys2Proof.Machine
end

