-- ==== Sys2Proof/Machine/Positions.lean ====
section
/-! DEFINITION. The positions of the awning and the entry step, their stowed states, road safety
(R137, R138, R140, R141, R146), and the direction, destination and remaining travel of a motion
(R125). -/

namespace Sys2Proof.Machine

/-- R138: floor(pos_ms × 1000 / awning travel time), present only while HOMED. -/
def reportedPosition (s : State) : Option Nat :=
  s.act.posMs.map (fun p => p * 1000 / s.params.awningTravel)

/-- R137: HOMED, pos_ms 0, and AWNING_IN_LIMIT active where it is mapped. -/
def awningStowed (s : State) : Bool :=
  decide (s.act.posMs = some 0) &&
    (!eventMapped s .awningInLimit || eventActive s .awningInLimit)

/-- STOWED, DEPLOYED, BETWEEN, UNKNOWN. -/
inductive StepPosition where
  | stowed
  | deployed
  | between
  | unknown
  deriving DecidableEq, Repr

def StepPosition.code : StepPosition → Nat
  | .stowed => 0
  | .deployed => 1
  | .between => 2
  | .unknown => 3

/-- R140, its conditions tested in the order of the table. -/
def stepPosition (s : State) : StepPosition :=
  if eventActive s .stepInLimit && eventActive s .stepOutLimit then .unknown
  else if eventActive s .stepInLimit then .stowed
  else if eventActive s .stepOutLimit then .deployed
  else
    match s.act.stepMs with
    | none => .unknown
    | some ms =>
      if decide (ms = 0) && !eventMapped s .stepInLimit then .stowed
      else if decide (ms = s.params.stepTravel) && !eventMapped s .stepOutLimit then .deployed
      else .between

def stepStowed (s : State) : Bool := decide (stepPosition s = .stowed)

def stowed (s : State) : Actuator → Bool
  | .step => stepStowed s
  | .awning => awningStowed s

/-- R146. -/
def roadUnsafe (s : State) : Bool :=
  eventActive s .ignitionOn && (!stepStowed s || !awningStowed s)

/-! ## The motion of an owner -/

def overrideOf (s : State) : Actuator → OverrideSlot
  | .step => s.motion.stepOverride
  | .awning => s.motion.awningOverride

def setOverride (s : State) (a : Actuator) (o : OverrideSlot) : State :=
  match a with
  | .step => s.setMotion { s.motion with stepOverride := o }
  | .awning => s.setMotion { s.motion with awningOverride := o }

def setSlot (s : State) (i : Fin 16) (x : Slot) : State :=
  s.setMotion { s.motion with slots := vput s.motion.slots i x }

/-- The action of an override is always RETRACT (R117). -/
def ownerAction (s : State) (o : Owner) : MoveAction :=
  match o.motion with
  | .slot i => s.motion.slots[i].action
  | .override => .retract

def ownerTarget (s : State) (o : Owner) : Nat :=
  match o.motion with
  | .slot i => s.motion.slots[i].target.getD 0
  | .override => 0

def ownerRunTime (s : State) (o : Owner) : Nat :=
  match o.motion with
  | .slot i => s.motion.slots[i].runTime
  | .override => (overrideOf s o.actuator).runTime

def ownerRetries (s : State) (o : Owner) : Nat :=
  match o.motion with
  | .slot i => s.motion.slots[i].retries
  | .override => (overrideOf s o.actuator).retries

/-- Set the retries used and the run time of the owner's motion. -/
def setOwnerCounts (s : State) (o : Owner) (retries runTime : Nat) : State :=
  match o.motion with
  | .slot i => setSlot s i { s.motion.slots[i] with retries := retries, runTime := runTime }
  | .override =>
    setOverride s o.actuator { overrideOf s o.actuator with retries := retries, runTime := runTime }

def travelTime (s : State) : Actuator → Nat
  | .step => s.params.stepTravel
  | .awning => s.params.awningTravel

/-- R125: EXTEND, RETRACT, or for a MOVE_TO EXTEND if the target is above the reported position at the
start and RETRACT otherwise. -/
def motionDirection (s : State) (o : Owner) : Direction :=
  match ownerAction s o with
  | .extend => .extend
  | .retract => .retract
  | .moveTo => if (reportedPosition s).getD 0 < ownerTarget s o then .extend else .retract

/-- The destination-end limit switch of a motion, by actuator and direction of its action (R125). -/
def destinationSwitch (s : State) (o : Owner) : Option InputEvent :=
  match o.actuator, ownerAction s o with
  | .step, .extend => some .stepOutLimit
  | .step, .retract => some .stepInLimit
  | .awning, .retract => some .awningInLimit
  | _, _ => none

def destinationSwitchMapped (s : State) (o : Owner) : Bool :=
  match destinationSwitch s o with
  | some e => eventMapped s e
  | none => false

/-- R125: whether the motion's destination is reached, and by a limit switch or by the position model.
A MOVE_TO without a direction (before WAKING) has reached its target when the reported position equals
it (check 3 of R124, log 37). -/
def destinationReached (s : State) (o : Owner) : Option MotionResult :=
  match o.actuator, ownerAction s o with
  | .step, .extend =>
    if eventMapped s .stepOutLimit then
      if eventActive s .stepOutLimit then some .doneEndSwitch else none
    else if stepPosition s = .deployed then some .doneTarget else none
  | .step, .retract =>
    if stepPosition s = .stowed then
      if eventActive s .stepInLimit then some .doneEndSwitch else some .doneTarget
    else none
  | .step, .moveTo => none
  | .awning, .extend => if reportedPosition s = some 1000 then some .doneTarget else none
  | .awning, .retract =>
    if awningStowed s then
      if eventMapped s .awningInLimit then some .doneEndSwitch else some .doneTarget
    else none
  | .awning, .moveTo =>
    match reportedPosition s with
    | none => none
    | some r =>
      match s.drive.direction with
      | none => if r = ownerTarget s o then some .doneTarget else none
      | some .extend => if ownerTarget s o ≤ r then some .doneTarget else none
      | some .retract => if r ≤ ownerTarget s o then some .doneTarget else none

/-- The remaining travel in permille (R138, R141). It is unknown while the position is UNKNOWN (R125), so while
both switches of the step are active (R140) whatever step_ms is. -/
def remainingTravel (s : State) (o : Owner) : Option Nat :=
  match o.actuator with
  | .step =>
    if stepPosition s = .unknown then none
    else
      s.act.stepMs.map fun ms =>
        match ownerAction s o with
        | .extend => (s.params.stepTravel - ms) * 1000 / s.params.stepTravel
        | .retract => ms * 1000 / s.params.stepTravel
        | .moveTo => 0
  | .awning =>
    (reportedPosition s).map fun r =>
      match ownerAction s o with
      | .extend => 1000 - r
      | .retract => r
      | .moveTo => (r - ownerTarget s o) + (ownerTarget s o - r)

/-- The stage states in which a motion holds the stage, from CLAIMED to the end of RETRY_WAIT (R125). -/
def holdsStage : StageState → Bool
  | .claimed => true
  | .waking => true
  | .running => true
  | .backing => true
  | .retryWait => true
  | .idle => false
  | .braking => false
  | .gap => false

/-- The motion in progress: the owner's, from CLAIMED to the end of RETRY_WAIT (R125, R131). -/
def motionInProgress (s : State) : Option StageMotion :=
  if holdsStage s.drive.stage then
    s.drive.owner.map (fun o => ⟨ownerAction s o, ownerRetries s o, ownerRunTime s o⟩)
  else none

/-- The stage states after WAKING has been entered in which the motion still runs (R116). -/
def afterWaking : StageState → Bool
  | .waking => true
  | .running => true
  | .backing => true
  | .retryWait => true
  | .idle => false
  | .claimed => false
  | .braking => false
  | .gap => false

end Sys2Proof.Machine
end

