-- ==== Sys2Proof/Machine/Flags.lean ====
section
/-! DEFINITION. The flag set: setting and clearing a flag and its mark, the conditions of the condition
flags, the ATTENTION output, and the pass at the end of a command that lets conditions arise and keeps
the idle due instant (R187, R201 to R205, log 24). -/

namespace Sys2Proof.Machine

/-! ## One flag -/

def flagBits (s : State) (f : Flag) : FlagBits := s.link.flags[f.index]

def flagSet (s : State) (f : Flag) : Bool := (flagBits s f).set

def putFlag (s : State) (f : Flag) (b : FlagBits) : State :=
  s.setLink { s.link with flags := vput s.link.flags f.index b }

/-- R202: setting a flag makes it set and sets its unreported mark, whether or not it was set. -/
def raiseFlag (s : State) (f : Flag) : State := putFlag s f ⟨true, true⟩

/-- A flag that is clear has no mark (R202). -/
def clearFlag (s : State) (f : Flag) : State := putFlag s f ⟨false, false⟩

def levelMasked (s : State) : FlagLevel → Bool
  | .safety => s.link.masked.safety
  | .energy => s.link.masked.energy
  | .service => s.link.masked.service

/-- The set flags in ascending number. -/
def setFlags (s : State) : List Flag := allFlags.filter (flagSet s)

/-- ATTENTION is active while at least one flag of an UNMASKED level is set (R165, R205). -/
def attention (s : State) : Bool := (setFlags s).any (fun f => !levelMasked s f.level)

/-! ## The conditions of the condition flags -/

/-- The Charge Meter's contribution to SENSOR_LOST: the last metered interval had the SHUNT_SATURATED or
the temperature-absent mark (R6). -/
def meterSensorLost (s : State) : Bool :=
  match s.meter.readings with
  | none => false
  | some r => r.saturated || r.absent

/-- The tank senders' and tank temperature sensors' contributions (R95, R100). -/
def tankSensorLost (s : State) : Bool :=
  (vlist s.tanks.recs).any (fun t => decide (t.sender = .absent)) ||
    decide (s.tanks.fresh.sensor = .absent) || decide (s.tanks.grey.sensor = .absent)

/-- The step switches' contribution: both active (R140). -/
def stepSensorLost (s : State) : Bool :=
  eventActive s .stepInLimit && eventActive s .stepOutLimit

/-- SENSOR_LOST holds while any of its owners' contributions holds (R202). -/
def sensorLost (s : State) : Bool :=
  meterSensorLost s || decide (s.heater.sensor = .absent) || tankSensorLost s || stepSensorLost s

/-- Whether the condition of a condition flag holds (R201); false for the other kinds. -/
def conditionHolds (s : State) : Flag → Bool
  | .estopActive => eventActive s .estop
  | .roadUnsafe => roadUnsafe s
  | .frostDanger => decide (s.tanks.fresh.state = .danger) || decide (s.tanks.grey.state = .danger)
  | .drained => decide (s.tanks.fresh.state = .drained)
  | .sensorLost => sensorLost s
  | .chargeInhibit => s.meter.chargeInhibit
  | .unsyncedLong => s.meter.unsyncedLong
  | .freshLow => s.tanks.recs[(0 : Fin 3)].threshold
  | .greyFull => s.tanks.recs[(1 : Fin 3)].threshold
  | .blackFull => s.tanks.recs[(2 : Fin 3)].threshold
  | .windLockout => s.wind.lockout
  | .moveFailed => false
  | .overdrawShed => false
  | .pumpFault => false
  | .heaterLockout => false
  | .bandChange => false
  | .accountSynced => false
  | .loadShed => false
  | .moveDone => false
  | .schedFired => false
  | .hostSilence => false

/-- The condition flags. -/
def conditionFlags : List Flag := allFlags.filter (fun f => decide (f.kind = .condition))

/-- R202: a condition flag is set when its condition passes from not holding (in `before`) to holding,
and it is set while its condition holds. -/
def ariseFlag (before s : State) (f : Flag) : State :=
  if conditionHolds s f && (!conditionHolds before f || !flagSet s f) then raiseFlag s f else s

def ariseFlags (before s : State) : State := conditionFlags.foldl (ariseFlag before) s

/-! ## The idle due instant (R186, R187) -/

/-- The activity conditions of R186, in its order. -/
def lampActive (s : State) : Bool := s.table.granted.any (fun ch => decide (ch.val < 6))
def heaterActive (s : State) : Bool :=
  decide (s.heater.state ≠ .off) && decide (s.heater.state ≠ .lockout)
def pumpActive (s : State) : Bool := s.table.granted.any (fun ch => decide (ch.val = 7))
def driveActive (s : State) : Bool :=
  decide (s.drive.stage ≠ .idle) || s.drive.gap.isSome ||
    decide (s.motion.stepOverride.state ≠ .none) || decide (s.motion.awningOverride.state ≠ .none)
def ringActive (s : State) : Bool :=
  (vlist s.motion.slots).any (fun x => decide (x.state = .ready) || decide (x.state = .active))
def calibActive (s : State) : Bool := decide (s.time.calib ≠ .idle)

def activities (s : State) : List Bool :=
  [lampActive s, heaterActive s, pumpActive s, driveActive s, ringActive s, calibActive s]

/-- R187: when the idle due instant is present. -/
def idleConditions (s : State) : Bool :=
  decide (s.time.power = .active) && decide (0 < s.params.autoDormant) &&
    decide (s.time.crystal ≠ .fault) && !(activities s).any id

/-- R187: set when it becomes present, removed when any of its conditions ends. -/
def settleIdle (s : State) : State :=
  if idleConditions s then
    if s.time.idleDue.isSome then s
    else s.setTime { s.time with idleDue := some (s.ahead (s.params.autoDormant * 16)) }
  else s.setTime { s.time with idleDue := none }

/-- The end of every command: conditions that have arisen since `before` set their flags, and the idle
due instant follows its conditions (log 24). -/
def settle (before s : State) : State := settleIdle (ariseFlags before s)

/-- The outcome of a command whose condition is `enabled` and whose effect is `t`: without its condition
it changes nothing (log 1). -/
def perform (s : State) (enabled : Bool) (t : State) : Host.Outcome State Fault Refusal :=
  .next (if enabled then settle s t else s)

end Sys2Proof.Machine
end

