-- ==== Sys2Proof/Machine/Owners.lean ====
section
/-! DEFINITION. What the owners of loads do when a walk hands them a grant, a shed or a release, and the
figures they present to the table: lamp outputs, fades and draws (R55 to R60), the heater's entry to
STARTING and to PURGING (R78, R82), the pump run timer (R99), and the Drive Stage's entry to WAKING
(R115, R142). -/

namespace Sys2Proof.Machine

/-! ## Load records as the owners see them -/

def chHeater : Channel := 6
def chPump : Channel := 7
def chFreshPad : Channel := 8
def chGreyPad : Channel := 9
def chAux0 : Channel := 10
def chAux1 : Channel := 11
def chDrive : Channel := 12
def chLamp (i : Fin 6) : Channel := ⟨i.val, by omega⟩

/-- The thirteen channels in ascending number. -/
def channels : List Channel := List.finRange 13

def isGranted (s : State) (ch : Channel) : Bool := s.table.granted.contains ch
def isWaiting (s : State) (ch : Channel) : Bool := s.table.waiting.contains ch

def OriginSet.get (o : OriginSet) : Origin → Option Nat
  | .host => o.host
  | .schedule => o.schedule
  | .switch => o.switch
  | .scene => o.scene
  | .entry => o.entry
  | .frost => o.frost
  | .thermostat => o.thermostat
  | .motion => o.motion
  | .override => o.override

def OriginSet.put (o : OriginSet) (k : Origin) (v : Option Nat) : OriginSet :=
  match k with
  | .host => { o with host := v }
  | .schedule => { o with schedule := v }
  | .switch => { o with switch := v }
  | .scene => { o with scene := v }
  | .entry => { o with entry := v }
  | .frost => { o with frost := v }
  | .thermostat => { o with thermostat := v }
  | .motion => { o with motion := v }
  | .override => { o with override := v }

/-- The nine origins in the order of the terms list (00_scope.md). -/
def allOrigins : List Origin :=
  [.host, .schedule, .switch, .scene, .entry, .frost, .thermostat, .motion, .override]

/-- The origins present. -/
def OriginSet.present (o : OriginSet) : List Origin := allOrigins.filter (fun k => (o.get k).isSome)

def OriginSet.isEmpty (o : OriginSet) : Bool := allOrigins.all (fun k => (o.get k).isNone)

/-- The largest level over the origins present, 0 when there is none (R33, R55). -/
def OriginSet.level (o : OriginSet) : Nat :=
  allOrigins.foldl (fun m k => max m ((o.get k).getD 0)) 0

def origins (s : State) (ch : Channel) : OriginSet := s.table.recs[ch].origins

/-- A record is demanded while its origin set is non-empty (R30). -/
def demanded (s : State) (ch : Channel) : Bool := !(origins s ch).isEmpty

def setRec (s : State) (ch : Channel) (r : LoadRec) : State :=
  s.setTable { s.table with recs := vput s.table.recs ch r }

def setOrigins (s : State) (ch : Channel) (o : OriginSet) : State :=
  setRec s ch { s.table.recs[ch] with origins := o }

/-- Add an origin (with its level), or withdraw it (none) (R31). -/
def putOrigin (s : State) (ch : Channel) (k : Origin) (v : Option Nat) : State :=
  setOrigins s ch ((origins s ch).put k v)

/-! ## Lamps -/

def lampCap (s : State) (b : Band) : Nat := s.params.nat (43 + b.code)

/-- R55: the largest origin level, 0 when the record is IDLE. -/
def lampTarget (s : State) (i : Fin 6) : Nat := (origins s (chLamp i)).level

def setLamp (s : State) (i : Fin 6) (x : Lamp) : State :=
  s.setLamps { s.lamps with chans := vput s.lamps.chans i x }

/-- The level L of R56. -/
def Lamp.drawLevel (x : Lamp) : Nat :=
  match x.fade with
  | .falling => max (x.fallStart.getD 0) x.applied
  | .steady => x.applied
  | .rising => x.applied

/-- R56: lamp draw × L / 100 mA, rounded up in magnitude. -/
def Lamp.withDraw (x : Lamp) (lampDraw : Nat) : Lamp :=
  { x with presented := ceilDiv (lampDraw * x.drawLevel) 100 }

/-- R58: applied level × 256 while the record is GRANTED, and 0 otherwise. -/
def fadeTarget (s : State) (i : Fin 6) : Nat :=
  if isGranted s (chLamp i) then s.lamps.chans[i].applied * 256 else 0

/-- R59: the fade of a lamp whose output goes to `target`. A fall that has begun keeps its fall start
level; a fall that begins takes it from the output, rounded up in magnitude. -/
def Lamp.fadeTo (x : Lamp) (target : Nat) : Lamp :=
  if x.output < target then { x with fade := .rising, fallStart := none }
  else if x.output = target then { x with fade := .steady, fallStart := none }
  else if x.fade = .falling then x
  else { x with fade := .falling, fallStart := some (ceilDiv x.output 256) }

/-- The output at once at `level`, STEADY. -/
def Lamp.jumpTo (x : Lamp) (level : Nat) : Lamp :=
  { x with output := level, fade := .steady, fallStart := none }

/-- R58, R59, R67: what a new fade target does. Outside ACTIVE the output is held at 0; with a fade rate
of 0 it takes the target at once. -/
def retarget (s : State) (i : Fin 6) : State :=
  let x := s.lamps.chans[i]
  let y :=
    if s.time.power ≠ .active then x.jumpTo 0
    else if s.params.fadeRate = 0 then x.jumpTo (fadeTarget s i)
    else x.fadeTo (fadeTarget s i)
  setLamp s i (y.withDraw s.params.lampDraw)

/-- R60: a shed or a release sets the output to 0 at once, STEADY. -/
def darken (s : State) (i : Fin 6) : State :=
  setLamp s i ((s.lamps.chans[i].jumpTo 0).withDraw s.params.lampDraw)

/-- R55: the applied level is min(target, band cap), by the band last published. -/
def recomputeLamp (s : State) (i : Fin 6) : State :=
  let x := { s.lamps.chans[i] with applied := min (lampTarget s i) (lampCap s s.meter.band) }
  retarget (setLamp s i x) i

def allLamps : List (Fin 6) := List.finRange 6

def recomputeLamps (s : State) : State := allLamps.foldl recomputeLamp s

/-- What a walk hands the Lamp Controller for one channel (R44, R60); `before` is the grant order before
the walk. A lamp of `again`, shed and granted again by the one walk, is handed the shed and then the grant:
it goes dark at once and fades up (log 40: the model's choice). -/
def lampHandOff (before again : List Channel) (s : State) (i : Fin 6) : State :=
  if isGranted s (chLamp i) then
    if again.contains (chLamp i) then retarget (darken s i) i
    else if before.contains (chLamp i) then s
    else retarget s i
  else darken s i

/-! ## Heater -/

/-- The phase that the Heater Sequencer presents (R71). -/
inductive HeaterPhase where
  | none
  | glow
  | run
  | purge
  deriving DecidableEq, Repr

def heaterPhase (s : State) : HeaterPhase :=
  match s.heater.state with
  | .off => .none
  | .waitGrant => .glow
  | .starting => .glow
  | .running => .run
  | .purging => .purge
  | .lockout => .none

/-- R78: a grant in WAIT_GRANT enters STARTING and sets the glow due instant. -/
def heaterHandOff (s : State) : State :=
  if s.heater.state = .waitGrant && isGranted s chHeater then
    s.setHeater
      { s.heater with state := .starting, glowDue := some (s.ahead (s.params.glowTime * 16)) }
  else s

/-- R82: entering PURGING removes the glow due instant and sets the purge due instant. -/
def enterPurging (s : State) : State :=
  s.setHeater
    { s.heater with
      state := .purging
      glowDue := none
      purgeDue := some (s.ahead (s.params.purgeTime * 16)) }

/-! ## Pump run timer -/

/-- R99: the pump due instant is set when the record is granted and removed when it is not. A pump of
`again`, shed and granted again by the one walk, starts a new run. -/
def pumpHandOff (again : List Channel) (s : State) : State :=
  if isGranted s chPump then
    if s.tanks.pumpDue.isSome && !again.contains chPump then s
    else s.setTanks { s.tanks with pumpDue := some (s.ahead (s.params.pumpMaxRun * 16)) }
  else s.setTanks { s.tanks with pumpDue := none }

/-! ## Drive Stage -/

/-- R115, R142: entry to WAKING sets the direction and the settle time; a step motion with step_ms
unknown starts a homing count at 0. -/
def enterWaking (s : State) (o : Owner) : State :=
  let t := s.setDrive
    { s.drive with
      stage := .waking
      direction := some (motionDirection s o)
      phaseTimer := s.params.settleTime }
  if o.actuator = .step && s.act.stepMs.isNone then t.setAct { t.act with homing := some 0 } else t

/-- R114: a grant handed to the stage in CLAIMED enters WAKING. -/
def driveHandOff (s : State) : State :=
  if s.drive.stage = .claimed && isGranted s chDrive then
    match s.drive.owner with
    | some o => enterWaking s o
    | none => s
  else s

/-- R44: the hand-offs of one walk. They change different blocks, so their order does not matter. `again`
lists the records that the walk has shed and granted again: each is handed to its owner as a shed and then
as a grant, although it is GRANTED before and after (log 40: R44 does not say so plainly). Only a lamp's
output and the pump's run timer show it: the record of HEATER keeps its grant through a shed (R40), that of
DRIVE is committed, and a pad or an AUX channel has nothing but its output event, which follows the record. -/
def handOff (before again : List Channel) (s : State) : State :=
  driveHandOff (pumpHandOff again (heaterHandOff (allLamps.foldl (lampHandOff before again) s)))

end Sys2Proof.Machine
end

