-- ==== Sys2Proof/Machine/Loads.lean ====
section
/-! DEFINITION. The Load Table and Budget Arbiter: class and draw of a record, the budget, the waiting
list, the three steps of the walk, re-evaluation events, and the overdraw check (R29 to R54). -/

namespace Sys2Proof.Machine

/-! ## Class, draw, committed mark -/

/-- The class parameter of a channel (R32). -/
def classParam (s : State) (ch : Channel) : Nat :=
  if ch.val < 6 then s.params.lampClass
  else if ch.val = 6 then s.params.heaterClass
  else if ch.val = 7 then s.params.pumpClass
  else if ch.val < 10 then s.params.padClass
  else if ch.val < 12 then s.params.auxClass
  else s.params.driveClass

/-- The class that one origin carries: 0 for FROST and OVERRIDE, the class parameter for any other
(R32). -/
def originClass (s : State) (ch : Channel) (k : Origin) : Nat :=
  if k = .frost || k = .override then 0 else classParam s ch

/-- R32: the minimum over the origins in the set; none for an IDLE record. -/
def demandClass (s : State) (ch : Channel) : Option Nat :=
  ((origins s ch).present.map (originClass s ch)).min?

/-- The class of a demanded record. -/
def classOf (s : State) (ch : Channel) : Nat := (demandClass s ch).getD 0

/-- R33: the draw of the phase presented. While no phase is presented the figure is 0 (log 41: the model's
choice, seen in a LOAD_QUERY reply alone, since the record is then IDLE). -/
def heaterDraw (s : State) : Nat :=
  match heaterPhase s with
  | .none => 0
  | .glow => s.params.glowDraw
  | .run => s.params.runDraw
  | .purge => s.params.purgeDraw

/-- R33: the draw of the owner's actuator. While the stage has no owner the figure is 0 (log 41: the
model's choice, seen in a LOAD_QUERY reply alone). -/
def driveDraw (s : State) : Nat :=
  match s.drive.owner with
  | none => 0
  | some o =>
    match o.actuator with
    | .step => s.params.stepDraw
    | .awning => s.params.awningDraw

/-- R33. An AUX record without origins has no largest level; its figure is 0 (log 41: the model's choice, seen
in a LOAD_QUERY reply alone). -/
def demandDraw (s : State) (ch : Channel) : Nat :=
  if h : ch.val < 6 then s.lamps.chans[(⟨ch.val, h⟩ : Fin 6)].presented
  else if ch.val = 6 then heaterDraw s
  else if ch.val = 7 then s.params.pumpDraw
  else if ch.val < 10 then s.params.padDraw
  else if ch.val = 10 then ceilDiv (s.params.aux0Draw * (origins s ch).level) 100
  else if ch.val = 11 then ceilDiv (s.params.aux1Draw * (origins s ch).level) 100
  else driveDraw s

/-- A grant that is committed (R36): HEATER in the purge phase, DRIVE always. -/
def commits (s : State) (ch : Channel) : Bool :=
  (decide (ch = chHeater) && decide (heaterPhase s = .purge)) || decide (ch = chDrive)

def committed (s : State) (ch : Channel) : Bool := isGranted s ch && commits s ch

/-- R30: the demand draw while GRANTED, 0 otherwise. -/
def grantedDraw (s : State) (ch : Channel) : Nat := if isGranted s ch then demandDraw s ch else 0

/-- IDLE, WAITING, GRANTED. -/
inductive RecordState where
  | idle
  | waiting
  | granted
  deriving DecidableEq, Repr

def RecordState.code : RecordState → Nat
  | .idle => 0
  | .waiting => 1
  | .granted => 2

/-- R30: WAITING exactly while in the waiting list, GRANTED exactly while in the grant order. -/
def recordState (s : State) (ch : Channel) : RecordState :=
  if isGranted s ch then .granted else if isWaiting s ch then .waiting else .idle

/-! ## Budget and served classes -/

/-- R35. -/
def servedClasses : Band → List Nat
  | .normal => [0, 1, 2, 3]
  | .economy => [0, 1, 2, 3]
  | .reserve => [0, 1, 2]
  | .critical => [0, 1]

def served (s : State) (ch : Channel) : Bool := (servedClasses s.table.band).contains (classOf s ch)

/-- The allowance of a band (R34). -/
def allowance (s : State) (b : Band) : Nat := s.params.nat (19 + b.code)

/-- R34. -/
def budgetNow (s : State) : Nat :=
  let a := allowance s s.table.band
  let b := if eventActive s .shorePresent then max a s.params.shoreAllowance else a
  if eventActive s .loadLimit then min b s.params.limitCap else b

/-! ## The sums (R38, R39, R41) -/

/-- A GRANTED record that counts as class 0: of class 0, or committed. -/
def countsAsZero (s : State) (ch : Channel) : Bool := decide (classOf s ch = 0) || commits s ch

/-- C0: the granted draws of class 0 and committed records. -/
def c0 (s : State) : Nat := ((s.table.granted.filter (countsAsZero s)).map (demandDraw s)).sum

/-- S: the granted draws of the other records. -/
def s13 (s : State) : Nat :=
  ((s.table.granted.filter (fun ch => !countsAsZero s ch)).map (demandDraw s)).sum

/-- A = max(0, B − C0). -/
def allowed (s : State) : Nat := s.table.budget - c0 s

/-- The remainder A − S. -/
def remainder (s : State) : Nat := allowed s - s13 s

/-! ## The waiting list (R42) -/

def waitTicks (s : State) (ch : Channel) : Nat :=
  ticksSince s.now (s.table.recs[ch].waitStart.getD s.now)

/-- A shed record goes to the front of its class group. -/
def insertShed (s : State) (ch : Channel) (l : List Channel) : List Channel :=
  l.takeWhile (fun x => decide (classOf s x < classOf s ch)) ++
    ch :: l.dropWhile (fun x => decide (classOf s x < classOf s ch))

/-- Whether a waiting record stands ahead of an unshed record `ch`: a lower class, or in the same class
a shed record or one that has waited as long or longer. -/
def aheadOf (s : State) (ch x : Channel) : Bool :=
  decide (classOf s x < classOf s ch) ||
    (decide (classOf s x = classOf s ch) &&
      (s.table.recs[x].shedMark || decide (waitTicks s ch ≤ waitTicks s x)))

def insertUnshed (s : State) (ch : Channel) (l : List Channel) : List Channel :=
  l.takeWhile (aheadOf s ch) ++ ch :: l.dropWhile (aheadOf s ch)

def setWaiting (s : State) (l : List Channel) : State := s.setTable { s.table with waiting := l }
def setGranted (s : State) (l : List Channel) : State := s.setTable { s.table with granted := l }

/-- Into the waiting list at the place R42 gives: by the shed mark, to the front of the class group or by
the wait start. -/
def putInOrder (s : State) (ch : Channel) : State :=
  if s.table.recs[ch].shedMark then setWaiting s (insertShed s ch s.table.waiting)
  else setWaiting s (insertUnshed s ch s.table.waiting)

/-- A record enters the waiting list now. -/
def startWaiting (s : State) (ch : Channel) : State :=
  putInOrder (setRec s ch { s.table.recs[ch] with waitStart := some s.now }) ch

/-- R38, R41: the record leaves the waiting list and joins the end of the grant order. -/
def grant (s : State) (ch : Channel) : State :=
  let t := setRec s ch { s.table.recs[ch] with waitStart := none, shedMark := false }
  t.setTable
    { t.table with waiting := t.table.waiting.erase ch, granted := t.table.granted ++ [ch] }

/-! ## The walk -/

/-- Step 1 for one channel (R38, R36): a demanded record of class 0, or a purge that is presented, that
is not GRANTED is granted. -/
def grantIfZero (s : State) (ch : Channel) : State :=
  if demanded s ch && !isGranted s ch &&
      (decide (classOf s ch = 0) || (decide (ch = chHeater) && commits s ch)) then grant s ch
  else s

/-- Step 1; several such records are granted in ascending channel number (log 12). -/
def walkStep1 (s : State) : State := channels.foldl grantIfZero s

/-- The records that a shed may take: GRANTED, class 1 to 3, not committed. -/
def candidates (s : State) : List Channel := s.table.granted.filter (fun ch => !countsAsZero s ch)

/-- The most recently granted record of the highest class present (R39, R46). -/
def pickShed (s : State) (l : List Channel) : Option Channel :=
  l.foldl
    (fun best ch =>
      match best with
      | none => some ch
      | some b => if classOf s b ≤ classOf s ch then some ch else some b)
    none

/-- R40: shed one record. A HEATER in glow or run phase enters PURGING and keeps its grant, committed,
with its shed mark; any other record leaves the grant order for the front of its class group. -/
def shedRecord (s : State) (ch : Channel) : State :=
  if ch = chHeater && (decide (heaterPhase s = .glow) || decide (heaterPhase s = .run)) then
    let t := enterPurging s
    setRec t ch { t.table.recs[ch] with shedMark := true }
  else
    let t := setGranted s (s.table.granted.erase ch)
    startWaiting (setRec t ch { t.table.recs[ch] with shedMark := true }) ch

/-- Shed the records that `pick` names, one at a time, at most `fuel` of them. -/
def shedWhile (pick : State → Option Channel) : Nat → State → State
  | 0, s => s
  | n + 1, s =>
    match pick s with
    | none => s
    | some ch => shedWhile pick n (shedRecord s ch)

/-- The next grant to shed because the band does not serve its class. -/
def pickUnserved (s : State) : Option Channel :=
  pickShed s ((candidates s).filter (fun ch => !served s ch))

/-- The next grant to shed because S exceeds A. -/
def pickOver (s : State) : Option Channel :=
  if allowed s < s13 s then pickShed s (candidates s) else none

/-- Step 2 (R39, R40); LOAD_SHED is flagged once if at least one record was shed. -/
def walkStep2 (s : State) : State :=
  let t := shedWhile pickOver 13 (shedWhile pickUnserved 13 s)
  if (pickUnserved s).isSome || (pickOver s).isSome then raiseFlag t .loadShed else t

/-- R41: a record that does not fit is a blocker once it has waited longer than the wait-block time. By this
formula a wait-block time of 0 makes it one after a tick, where the rule's last sentence says at once (log
45: the model's choice). -/
def blocker (s : State) (ch : Channel) : Bool :=
  decide (s.params.waitBlock * 16 < waitTicks s ch)

/-- Step 3 over the waiting records from the front (R41). -/
def walkStep3 : List Channel → State → State
  | [], s => s
  | ch :: rest, s =>
    if s.table.recs[ch].overdrawHold || !served s ch then walkStep3 rest s
    else if demandDraw s ch ≤ remainder s then walkStep3 rest (grant s ch)
    else if blocker s ch then s
    else walkStep3 rest s

/-- R37: the grant walk, in its three steps. -/
def walk (s : State) : State :=
  let t := walkStep2 (walkStep1 s)
  walkStep3 t.table.waiting t

/-- The records that a walk from `s` sheds in step 2 and grants again in step 3 (R39, R41): a small grant
is shed before a large one of a lower class, and fits the room that the large one leaves. -/
def regranted (s : State) : List Channel :=
  s.table.granted.filter
    (fun ch => !isGranted (walkStep2 (walkStep1 s)) ch && isGranted (walk s) ch)

/-- R41, R47, R49: a WAITING record is a blocker while its draw exceeds the remainder and it has waited
longer than the wait-block time. The walk passes over a record under an overdraw hold or of a class that
the band does not serve, and such a record blocks nothing. -/
def blocks (s : State) (ch : Channel) : Bool :=
  isWaiting s ch && !s.table.recs[ch].overdrawHold && served s ch &&
    decide (remainder s < demandDraw s ch) && blocker s ch

/-! ## Re-evaluation events (R37) -/

/-- What a walk's outcome can depend on, less the passing of time: a change in it is a re-evaluation
event (R31, R32, R33, R34, R35). -/
def tableView (s : State) :
    List (Option (OriginSet × Nat × Nat)) × HeaterPhase × Nat × List Nat :=
  (channels.map fun ch =>
      if demanded s ch then some (origins s ch, classOf s ch, demandDraw s ch) else none,
    heaterPhase s, s.table.budget, servedClasses s.table.band)

/-- R30: a record without origins is IDLE at once; its marks are cleared. -/
def dropIdle (s : State) : State :=
  s.setTable
    { s.table with
      waiting := s.table.waiting.filter (demanded s)
      granted := s.table.granted.filter (demanded s)
      recs := vmap
        (fun _ r => if r.origins.isEmpty then { r with
            waitStart := none, shedMark := false, overdrawHold := false } else r)
        s.table.recs }

/-- R32, R42: WAITING records whose class has changed since `before` move to their new class group. The
shed ones are placed from the last to the first, so that they keep their order, and so do unshed ones of the
same wait start (log 13: the model's choice). -/
def moveReclassed (before s : State) : State :=
  let movers := s.table.waiting.filter (fun ch => decide (classOf before ch ≠ classOf s ch))
  let shed := movers.filter (fun ch => s.table.recs[ch].shedMark)
  let unshed := movers.filter (fun ch => !s.table.recs[ch].shedMark)
  let t := setWaiting s (s.table.waiting.filter (fun ch => !movers.contains ch))
  unshed.foldl putInOrder (shed.reverse.foldl putInOrder t)

/-- R30: a newly demanded record that step 1 will not grant enters the waiting list. -/
def enterIfNew (s : State) (ch : Channel) : State :=
  if demanded s ch && !isWaiting s ch && !isGranted s ch &&
      !(decide (classOf s ch = 0) || (decide (ch = chHeater) && commits s ch)) then
    startWaiting s ch
  else s

/-- Apply a change to the lists, before the walk (R30, R32, R64: ascending channel number). -/
def relist (before s : State) : State :=
  channels.foldl enterIfNew (moveReclassed before (dropIdle s))

/-- The walk with its hand-offs. A hand-off that changes a presented draw (a lamp shed while its fall
held a larger draw, R56, R60) is a re-evaluation event of its own, with its own walk (log 14). `n`
bounds their number: each such walk ends the fall of a lamp, and there are six. -/
def runWalk : Nat → List Channel → State → State
  | 0, _, s => s
  | n + 1, before, s =>
    let w := walk s
    let h := handOff before (regranted s) w
    if tableView h = tableView w then h
    else runWalk n h.table.granted (relist w h)

/-- How many walks `runWalk` may need. -/
def walkFuel : Nat := 8

/-- R37: take the change from `before` to `s` as one event: the lists follow the change, and if it is a
re-evaluation event, the walk runs once. -/
def reevaluate (before s : State) : State :=
  let t := relist before s
  if tableView before = tableView s then t else runWalk walkFuel before.table.granted t

/-- R37: an event that is a re-evaluation whatever it changes (an overdraw shed, a release of holds). -/
def reevaluateAlways (before s : State) : State :=
  runWalk walkFuel before.table.granted (relist before s)

/-- Recompute the lamps whose origin sets have changed since `before`: the draw change belongs to the
event that caused it (R56). -/
def followLamps (before s : State) : State :=
  allLamps.foldl
    (fun t i =>
      if origins before (chLamp i) = origins t (chLamp i) then t else recomputeLamp t i)
    s

/-- A change of origins as one re-evaluation event (R31, R37, R56). -/
def originEvent (before s : State) : State := reevaluate before (followLamps before s)

/-! ## Budget events -/

/-- R34: B is recomputed; if it differs, a walk follows. -/
def recomputeBudget (s : State) : State :=
  reevaluate s (s.setTable { s.table with budget := budgetNow s })

/-- R34, R35: a band change handed on by the Charge Meter. -/
def bandToTable (s : State) : State :=
  let t := s.setTable { s.table with band := s.meter.band }
  reevaluate s (t.setTable { t.table with budget := budgetNow t })

/-! ## Overdraw (R46, R47) -/

/-- R46: shed the most recently granted candidate of the highest class, with its overdraw hold. -/
def overdrawShed (s : State) : State :=
  match pickShed s (candidates s) with
  | none => s
  | some ch =>
    let t := shedRecord s ch
    let t := setRec t ch { t.table.recs[ch] with overdrawHold := true }
    reevaluateAlways s (raiseFlag t .overdrawShed)

/-- R47: every overdraw hold is cleared; a re-evaluation event if at least one was set. -/
def releaseHolds (s : State) : State :=
  if (vlist s.table.recs).any (fun r => r.overdrawHold) then
    reevaluateAlways s
      (s.setTable
        { s.table with recs := vmap (fun _ r => { r with overdrawHold := false }) s.table.recs })
  else s

/-- R46, R47: the check of one metered interval's current. -/
def overdrawCheck (current : Int) (s : State) : State :=
  if current ≤ -((s.table.budget : Int) + s.params.overdrawMargin) then
    if 5 ≤ s.table.overdraw + 1 then
      overdrawShed (s.setTable { s.table with overdraw := 0, clear := 0 })
    else s.setTable { s.table with overdraw := s.table.overdraw + 1, clear := 0 }
  else
    if 5 ≤ s.table.clear + 1 then
      releaseHolds (s.setTable { s.table with overdraw := 0, clear := 0 })
    else s.setTable { s.table with overdraw := 0, clear := s.table.clear + 1 }

/-! ## The pump guard (R97, R98) -/

/-- R92: the filtered level is the floor of the mean of a window of 8 levels. -/
def filteredLevel (t : TankRec) : Option Nat :=
  if t.window.length = 8 then some (t.window.sum / 8) else none

/-- R92, R93: the filtered level while PARKED, the held level while HELD; none = unknown. -/
def levelInUse (t : TankRec) : Option Nat :=
  match t.source with
  | .parked => filteredLevel t
  | .held l => l

/-- The four conditions of R97, in its order. -/
def guardDry (s : State) : Bool :=
  decide (0 < s.params.dryLimit) &&
    match levelInUse s.tanks.recs[(0 : Fin 3)] with
    | none => true
    | some l => decide (l < s.params.dryLimit)
def guardDrained (s : State) : Bool := decide (s.tanks.fresh.state = .drained)
def guardFault (s : State) : Bool := s.tanks.pumpFault
def guardGrey (s : State) : Bool := s.params.greyGuard && s.tanks.recs[(1 : Fin 3)].threshold

/-- R97. -/
def pumpGuard (s : State) : Bool := guardDry s || guardDrained s || guardFault s || guardGrey s

/-- R98: while the guard holds every origin of the PUMP record is withdrawn, as one re-evaluation event
(log 31). -/
def enforcePumpGuard (s : State) : State :=
  if pumpGuard s && demanded s chPump then originEvent s (setOrigins s chPump .empty) else s

/-! ## LOAD_DEMAND and the schedule's LOAD action (R48) -/

/-- R48, with `k` the origin HOST or SCHEDULE: the result code and the state after the walk. -/
def loadDemandOp (k : Origin) (channel level : Byte) (s : State) : Result × State :=
  let lvl := level.toNat
  if h : channel.toNat < 13 then
    let ch : Channel := ⟨channel.toNat, h⟩
    if ch.val < 6 || ch.val = 10 || ch.val = 11 then
      if lvl = 0 then (.accepted, originEvent s (putOrigin s ch k none))
      else
        (if lvl ≤ 100 then .accepted else .clamped,
          originEvent s (putOrigin s ch k (some (min lvl 100))))
    else if ch = chPump then
      if lvl = 0 then (.accepted, originEvent s (putOrigin s ch k none))
      else if pumpGuard s then (.condition, s)
      else
        (if lvl ≤ 100 then .accepted else .clamped, originEvent s (putOrigin s ch k (some 0)))
    else (.range, s)
  else (.range, s)

/-- R50: HOST is withdrawn from every record whose demand class is 3, as one re-evaluation event. -/
def withdrawSilentHost (s : State) : State :=
  originEvent s
    (channels.foldl
      (fun t ch => if demandClass s ch = some 3 then putOrigin t ch .host none else t) s)

end Sys2Proof.Machine
end

