-- ==== Sys2Proof/Machine/Rings.lean ====
section
/-! DEFINITION. The Motion Rings: the geometry of the rings, posting, completing a motion, the stage's
part in it, and the arbiter (R114 to R125, R129). -/

namespace Sys2Proof.Machine

/-! ## Geometry (R120, R121, R123) -/

def otherActuator : Actuator → Actuator
  | .step => .awning
  | .awning => .step

def ringFirst (s : State) : Actuator → Nat
  | .step => 0
  | .awning => s.params.ringSplit

/-- The slot after the last one of the ring. -/
def ringEnd (s : State) : Actuator → Nat
  | .step => s.params.ringSplit
  | .awning => 16

def ringSize (s : State) (a : Actuator) : Nat := ringEnd s a - ringFirst s a

def inRing (s : State) (a : Actuator) (i : Fin 16) : Bool :=
  decide (ringFirst s a ≤ i.val) && decide (i.val < ringEnd s a)

/-- The ring to which a slot belongs. -/
def ringOf (s : State) (i : Fin 16) : Actuator := if i.val < s.params.ringSplit then .step else .awning

/-- The slots of a ring in ascending index. -/
def ringSlots (s : State) (a : Actuator) : List (Fin 16) := (List.finRange 16).filter (inRing s a)

def tailOf (s : State) : Actuator → Fin 16
  | .step => s.motion.stepTail
  | .awning => s.motion.awningTail

def setTail (s : State) (a : Actuator) (i : Fin 16) : State :=
  match a with
  | .step => s.setMotion { s.motion with stepTail := i }
  | .awning => s.setMotion { s.motion with awningTail := i }

/-- The slot after `i` in circular order (R120). -/
def nextSlot (s : State) (a : Actuator) (i : Fin 16) : Fin 16 :=
  if i.val + 1 < ringEnd s a then Fin.ofNat 16 (i.val + 1) else Fin.ofNat 16 (ringFirst s a)

/-- `n` slots of the ring in circular order from `i` on. -/
def slotsFrom (s : State) (a : Actuator) : Nat → Fin 16 → List (Fin 16)
  | 0, _ => []
  | n + 1, i => i :: slotsFrom s a n (nextSlot s a i)

def slotAt (s : State) (i : Fin 16) : Slot := s.motion.slots[i]

/-- READY or ACTIVE. -/
def Slot.holdsMotion (x : Slot) : Bool := decide (x.state = .ready) || decide (x.state = .active)

/-- R121: the first READY or ACTIVE slot from the slot after the tail, once round. -/
def ringHead (s : State) (a : Actuator) : Option (Fin 16) :=
  (slotsFrom s a (ringSize s a) (nextSlot s a (tailOf s a))).find? (fun i => (slotAt s i).holdsMotion)

/-- The ring's head while it is READY, that is, while it is a claimant (R118). -/
def readyHead (s : State) (a : Actuator) : Option (Fin 16) :=
  (ringHead s a).filter (fun i => decide ((slotAt s i).state = .ready))

/-! ## Completion (R129) -/

def MotionResult.isDone : MotionResult → Bool
  | .doneEndSwitch => true
  | .doneTarget => true
  | .doneEndByStall => true
  | .failedStallLimit => false
  | .failedLateStall => false
  | .failedTimeout => false
  | .refusedInterlock => false
  | .refusedBudget => false
  | .refusedNotReady => false
  | .abortedCancelled => false
  | .abortedPreempted => false
  | .abortedEstop => false

/-- R129: MOVE_DONE for a DONE result, MOVE_FAILED for any other. -/
def flagResult (r : MotionResult) (s : State) : State :=
  raiseFlag s (if r.isDone then .moveDone else .moveFailed)

/-- R129: the slot becomes COMPLETE with its result, or the override slot NONE with its last result;
the flag where notify is set, and always for an override. -/
def finishMotion (o : Owner) (r : MotionResult) (s : State) : State :=
  match o.motion with
  | .slot i =>
    let x := slotAt s i
    let t := setSlot s i { x with state := .complete, result := some r }
    if x.notify then flagResult r t else t
  | .override =>
    flagResult r
      (setOverride s o.actuator
        { overrideOf s o.actuator with state := .none, cause := none, lastResult := some r })

/-- The stage IDLE without owner, direction, phase timer and motion (R116). -/
def DriveStage.idled (d : DriveStage) : DriveStage :=
  { d with stage := .idle, owner := none, direction := none, phaseTimer := 0, braked := none }

/-- The stage becomes IDLE and its origin leaves the DRIVE record, as one re-evaluation event. -/
def releaseStage (s : State) : State :=
  reevaluate s ((setOrigins s chDrive .empty).setDrive s.drive.idled)

/-- R116: BRAKING with the brake hold, the motion `m` having ended; the homing count of a step motion is
removed with its motion (R142). -/
def brakeAfter (m : Option StageMotion) (s : State) : State :=
  let t := s.setDrive
    { s.drive with stage := .braking, phaseTimer := s.params.brakeHold, braked := m }
  if s.drive.owner.any (fun o => decide (o.actuator = .step)) then
    t.setAct { t.act with homing := none }
  else t

/-- R116: the motion that holds the stage ends in BRAKING. -/
def brake (s : State) : State := brakeAfter (motionInProgress s) s

/-- The stage's part of a completion: from CLAIMED back to IDLE, after WAKING into BRAKING (R114, R116,
R119, R129). -/
def endMotion (s : State) : State :=
  if s.drive.stage = .claimed then releaseStage s
  else if afterWaking s.drive.stage then brake s
  else s

/-- The motion that holds the stage completes with a result. -/
def completeOwner (r : MotionResult) (s : State) : State :=
  match s.drive.owner with
  | none => s
  | some o => if holdsStage s.drive.stage then endMotion (finishMotion o r s) else s

/-! ## Claim and arbiter (R114, R118, R124) -/

/-- R114: the stage is CLAIMED with the grant wait, and the origin placed, as one re-evaluation event
whose walk may hand the grant on at once. -/
def claim (o : Owner) (k : Origin) (s : State) : State :=
  let t := s.setDrive
    { s.drive with stage := .claimed, owner := some o, phaseTimer := s.params.grantWait }
  reevaluate s (putOrigin t chDrive k (some 0))

/-- R124: the start checks of a ring head, in order; the first that applies completes the slot. -/
def startCheck (s : State) (a : Actuator) (i : Fin 16) : Option MotionResult :=
  let retract := decide ((slotAt s i).action = .retract)
  if !retract &&
      (eventActive s .ignitionOn || eventActive s .estop || decide (s.meter.band = .critical) ||
        (decide (a = .awning) && s.wind.lockout)) then some .refusedInterlock
  else if decide (a = .awning) && s.act.posMs.isNone && !retract then some .refusedNotReady
  else destinationReached s ⟨a, .slot i⟩

/-- The arbiter takes a ring head (R118, R124): its ring becomes the last served one. -/
def takeSlot (a : Actuator) (i : Fin 16) (s : State) : State :=
  let t := s.setDrive { s.drive with lastServed := a }
  match startCheck t a i with
  | some r => finishMotion ⟨a, .slot i⟩ r t
  | none => claim ⟨a, .slot i⟩ .motion (setSlot t i { slotAt t i with state := .active })

/-- The arbiter takes an override: check 3 alone is made (R124). -/
def takeOverride (a : Actuator) (s : State) : State :=
  match destinationReached s ⟨a, .override⟩ with
  | some r => finishMotion ⟨a, .override⟩ r s
  | none => claim ⟨a, .override⟩ .override (setOverride s a { overrideOf s a with state := .active })

/-- R118: the claimant that the arbiter chooses: the step override, the awning override, then the ring
heads, the ring other than the last served one first. -/
def chosen (s : State) : Option Owner :=
  if s.motion.stepOverride.state = .raised then some ⟨.step, .override⟩
  else if s.motion.awningOverride.state = .raised then some ⟨.awning, .override⟩
  else
    match readyHead s (otherActuator s.drive.lastServed), readyHead s s.drive.lastServed with
    | some i, _ => some ⟨otherActuator s.drive.lastServed, .slot i⟩
    | none, some i => some ⟨s.drive.lastServed, .slot i⟩
    | none, none => none

/-- R118: whether the running gap timer keeps this claimant waiting. -/
def gapHolds (s : State) (o : Owner) : Bool :=
  s.drive.gap.any (fun g => decide (g.actuator ≠ o.actuator))

/-- R118: GAP, or the claimant is taken. -/
def takeClaimant (o : Owner) (s : State) : State :=
  if gapHolds s o then s.setDrive { s.drive with stage := .gap }
  else
    match o.motion with
    | .slot i => takeSlot o.actuator i s
    | .override => takeOverride o.actuator s

/-- R118, R124: the arbiter chooses again after each completion at the checks, at most `n` times. -/
def arbitrateN : Nat → State → State
  | 0, s => s
  | n + 1, s =>
    if s.drive.stage = .idle && s.time.power = .active then
      match chosen s with
      | none => s
      | some o => arbitrateN n (takeClaimant o s)
    else s

/-- The arbiter acts: two overrides and sixteen slots are all the claimants there can be. -/
def arbitrate (s : State) : State := arbitrateN 19 s

/-! ## Posting (R122) -/

/-- R122, for codes that are known: the ring, the action and the target are judged, then ESTOP, then the
slot after the tail. The new READY slot is a wake cause and a claimant (R118, R190). -/
def postMotion (a : Actuator) (act : MoveAction) (target : Nat) (notify : Bool) (origin : MoveOrigin)
    (s : State) : Result × Option (Fin 16) × State :=
  let i := nextSlot s a (tailOf s a)
  if act = .moveTo && (decide (a = .step) || decide (1000 < target)) then (.range, none, s)
  else if eventActive s .estop then (.estop, none, s)
  else if (slotAt s i).holdsMotion then (.full, none, s)
  else
    let x : Slot :=
      { state := .ready
        action := act
        target := if act = .moveTo then some target else none
        notify := notify
        origin := origin
        result := none
        retries := 0
        runTime := 0 }
    (.accepted, some i, arbitrate (wake (setTail (setSlot s i x) a i)))

/-- R122, from the bytes of a request or of a stored action. -/
def postCodes (ring action : Byte) (target : Nat) (notify : Option Bool) (origin : MoveOrigin)
    (s : State) : Result × Option (Fin 16) × State :=
  match Actuator.ofCode ring, MoveAction.ofCode action, notify with
  | some a, some act, some n => postMotion a act target n origin s
  | _, _, _ => (.range, none, s)

/-- A post by a switch or the door: origin SWITCH, notify set; a refused post is dropped (R150, R151,
R152). -/
def switchPost (a : Actuator) (act : MoveAction) (s : State) : State :=
  (postMotion a act 0 true .switch s).2.2

/-! ## Cancelling (R130) -/

/-- R130: one slot; the arbiter acts afterwards. -/
def cancelSlot (i : Fin 16) (s : State) : State :=
  match (slotAt s i).state with
  | .ready => finishMotion ⟨ringOf s i, .slot i⟩ .abortedCancelled s
  | .active => completeOwner .abortedCancelled s
  | .free => s
  | .complete => s

/-- R130: a FREE or COMPLETE slot refuses CONDITION. -/
def cancelOne (i : Fin 16) (s : State) : Result × State :=
  if (slotAt s i).holdsMotion then (.accepted, arbitrate (cancelSlot i s)) else (.condition, s)

/-- R130: the ring's ACTIVE slot and every READY slot. -/
def cancelAll (a : Actuator) (s : State) : State :=
  arbitrate ((ringSlots s a).foldl (fun t i => cancelSlot i t) s)

/-! ## Ring split (R123) -/

/-- All slots FREE and the tails at the ends of the rings (R123, R135, R136). -/
def freeRings (s : State) : State :=
  s.setMotion
    { s.motion with
      slots := Vector.replicate 16 .free
      stepTail := Fin.ofNat 16 (s.params.ringSplit - 1)
      awningTail := 15 }

/-- Whether either ring has a READY or ACTIVE slot. -/
def anyMotionHeld (s : State) : Bool := (vlist s.motion.slots).any Slot.holdsMotion

end Sys2Proof.Machine
end

