-- ==== Sys2Proof/Machine/Drive.lean ====
section
/-! DEFINITION. The Drive Stage: overrides and preemption, the phases of a motion, the millisecond of
drive, stall and timeout, the emergency stop and the ignition, the actuators' edges and the wind monitor
(R115 to R119, R125 to R149). -/

namespace Sys2Proof.Machine

/-! ## Overrides (R117, R119, R143) -/

/-- R117, R119: raise an override; it preempts a comfort motion that holds the stage and is a wake cause.
The arbiter acts afterwards (log 23). -/
def raiseOverride (a : Actuator) (c : OverrideCause) (s : State) : State :=
  if eventActive s .estop || decide ((overrideOf s a).state ≠ .none) then s
  else
    let t := wake (setOverride s a
      { overrideOf s a with state := .raised, cause := some c, retries := 0, runTime := 0 })
    match t.drive.owner with
    | some ⟨_, .slot _⟩ => completeOwner .abortedPreempted t
    | some ⟨_, .override⟩ => t
    | none => t

/-- R143: the override of an actuator that is not stowed, cause IGNITION. -/
def raiseIfOut (s : State) (a : Actuator) : State :=
  if stowed s a then s else raiseOverride a .ignition s

/-- R143: both actuators, the step first. -/
def raiseAllOut (s : State) : State := raiseIfOut (raiseIfOut s .step) .awning

/-- R143: while IGNITION_ON is active, an actuator that has stopped being stowed since `before`. -/
def raiseIfLeft (before s : State) (a : Actuator) : State :=
  if eventActive s .ignitionOn && stowed before a && !stowed s a then raiseOverride a .ignition s else s

def stowWatch (before s : State) : State :=
  raiseIfLeft before (raiseIfLeft before s .step) .awning

/-- R125: the destination test while a motion holds the stage. -/
def testDestination (s : State) : State :=
  match s.drive.owner with
  | none => s
  | some o =>
    if holdsStage s.drive.stage then
      match destinationReached s o with
      | some r => completeOwner r s
      | none => s
    else s

/-- What follows a change of a limit switch or of a position: destination, stowed state, arbiter
(R118, R125, R143). -/
def positionFollow (before s : State) : State := arbitrate (stowWatch before (testDestination s))

/-- R139: the awning runs an EXTEND or a MOVE_TO. -/
def awningRunsOn (s : State) : Bool :=
  s.drive.owner.any (fun o => decide (o.actuator = .awning) && decide (ownerAction s o ≠ .retract))

/-- R139: what follows an edge of AWNING_IN_LIMIT. A rising one ends a RETRACT or an override at its
destination, and leaves an EXTEND or a MOVE_TO running from the new zero (log 44). -/
def awningEdgeFollow (rising : Bool) (before s : State) : State :=
  if rising && awningRunsOn s then arbitrate (stowWatch before s) else positionFollow before s

/-! ## Phases (R115, R116, R127) -/

/-- R115, R126: RUNNING is entered with a stall count of 0 and the inrush blank of that moment. -/
def enterRunning (s : State) : State :=
  s.setDrive
    { s.drive with
      stage := .running
      phaseTimer := 0
      stallCount := 0
      legTime := 0
      blank := s.params.inrushBlank
      stallDue := false }

/-- R127: RETRY_WAIT for 1,000 × 2^(r − 1) ms. -/
def enterRetryWait (s : State) : State :=
  let r := (s.drive.owner.map (ownerRetries s)).getD 0
  s.setDrive { s.drive with stage := .retryWait, phaseTimer := 1000 * 2 ^ (r - 1) }

/-- R116: the end of the brake hold. -/
def brakeEndOp (s : State) : State :=
  match s.drive.owner with
  | none => arbitrate (releaseStage s)
  | some o =>
    let t := releaseStage s
    let gap := if s.params.gapTime = 0 then t.drive.gap else some ⟨s.params.gapTime, o.actuator⟩
    arbitrate (t.setDrive { t.drive with lastActuator := o.actuator, gap := gap })

/-- R118: the gap timer is removed, and a stage in GAP becomes IDLE for the arbiter. -/
def gapEndOp (s : State) : State :=
  let t := s.setDrive { s.drive with gap := none }
  if s.drive.stage = .gap then arbitrate (t.setDrive t.drive.idled) else t

/-! ## Drive and positions (R115, R126, R138, R141, R142) -/

/-- One millisecond of a count between 0 and `travel`. -/
def moveCount (extend : Bool) (travel n : Nat) : Nat := if extend then min travel (n + 1) else n - 1

/-- The destination end of a step motion. -/
def stepEnd (s : State) (o : Owner) : Nat :=
  match ownerAction s o with
  | .extend => s.params.stepTravel
  | .retract => 0
  | .moveTo => 0

/-- R142: one millisecond of the homing count. Where the destination switch is unmapped, a count that
reaches the travel time sets step_ms to the destination end. A count that stood there already when the switch
became unmapped reaches it at the next millisecond of drive, in either sense (log 53: the model's choice). -/
def moveHoming (toward : Bool) (o : Owner) (h : Nat) (s : State) : State :=
  let n := if toward then h + 1 else h - 1
  if s.params.stepTravel ≤ n && !destinationSwitchMapped s o then
    s.setAct { s.act with stepMs := some (stepEnd s o), homing := none }
  else s.setAct { s.act with homing := some n }

/-- R138, R141: one millisecond of drive, toward the destination (RUNNING) or against it (BACKING). -/
def moveActuator (toward : Bool) (o : Owner) (d : Direction) (s : State) : State :=
  let extend := decide (d = .extend) == toward
  match o.actuator with
  | .awning =>
    s.setAct { s.act with posMs := s.act.posMs.map (moveCount extend s.params.awningTravel) }
  | .step =>
    match s.act.stepMs, s.act.homing with
    | some n, _ => s.setAct { s.act with stepMs := some (moveCount extend s.params.stepTravel n) }
    | none, some h => moveHoming toward o h s
    | none, none => s

def stallThreshold (s : State) : Actuator → Nat
  | .awning => s.params.awningStall
  | .step => s.params.stepStall

/-- R126: at or above the owner's threshold; the upper rail counts so. -/
def overThreshold (s : State) (a : Actuator) : MotorSample → Bool
  | .current mA => decide (stallThreshold s a ≤ mA)
  | .rail => true

/-- R126: a counted sample makes the stall count; the motion has stalled when the count then reaches the
stall time in force at that sample (R134). -/
def countSample (high : Bool) (stallTime : Nat) (d : DriveStage) : DriveStage :=
  let n := if high then min 200 (d.stallCount + 1) else 0
  { d with stallCount := n, stallDue := decide (stallTime ≤ n * 10) }

/-- R126: one millisecond of RUNNING; every tenth takes a sample, those within the inrush blank are not
counted. -/
def sampleMotor (o : Owner) (x : MotorSample) (s : State) : State :=
  let d := { s.drive with legTime := s.drive.legTime + 1 }
  s.setDrive
    (if d.legTime % 10 = 0 && decide (d.blank < d.legTime) then
      countSample (overThreshold s o.actuator x) s.params.stallTime d
    else d)

/-- R115: each millisecond in RUNNING adds to the run time of the motion. -/
def addRunTime (o : Owner) (s : State) : State :=
  setOwnerCounts s o (ownerRetries s o) (ownerRunTime s o + 1)

/-- The motor's part of one millisecond. -/
def driveMotor (x : MotorSample) (s : State) : State :=
  match s.drive.owner, s.drive.direction, s.drive.stage with
  | some o, some d, .running => moveActuator true o d (addRunTime o (sampleMotor o x s))
  | some o, some d, .backing => moveActuator false o d s
  | _, _, _ => s

/-- The stage's timers count milliseconds (06_..., the stage's table; log 4). -/
def runTimers (s : State) : State :=
  s.setDrive
    { s.drive with
      phaseTimer := s.drive.phaseTimer - 1
      gap := s.drive.gap.map (fun g => { g with ms := g.ms - 1 }) }

/-- One millisecond: timers, motor, and the overrides that a departure from the stowed state raises
(R143). The end of the motion at its destination is DESTINATION_REACHED. -/
def driveMs (x : MotorSample) (s : State) : State :=
  arbitrate (stowWatch s (driveMotor x (runTimers s)))

/-! ## Stall and timeout (R127, R128) -/

/-- R126, R134: in RUNNING, and the last counted sample brought the count to the stall time. A write of the
stall time acts at the next sample. -/
def stalled (s : State) : Bool := decide (s.drive.stage = .running) && s.drive.stallDue

/-- R125, R127: in the end zone; with the remaining travel unknown, when no destination-end switch is
mapped. -/
def inEndZone (s : State) (o : Owner) : Bool :=
  match remainingTravel s o with
  | some r => decide (r ≤ s.params.endZone)
  | none => !destinationSwitchMapped s o

/-- R127, R139, R142: the position model at the destination end. The step's position is R140's all the same, so
a step override that ends here with STEP_OUT_LIMIT still active leaves it DEPLOYED, where R145 says stowed
(log 54: the model follows R140). -/
def setAtEnd (o : Owner) (s : State) : State :=
  match o.actuator, ownerAction s o with
  | .step, .extend => s.setAct { s.act with stepMs := some s.params.stepTravel }
  | .step, .retract => s.setAct { s.act with stepMs := some 0 }
  | .step, .moveTo => s
  | .awning, .extend => s.setAct { s.act with posMs := some s.params.awningTravel }
  | .awning, .retract => s.setAct { s.act with posMs := some 0 }
  | .awning, .moveTo =>
    s.setAct { s.act with posMs := some (ceilDiv (ownerTarget s o * s.params.awningTravel) 1000) }

/-- R127: a retry. -/
def retry (o : Owner) (s : State) : State :=
  let t := setOwnerCounts s o (ownerRetries s o + 1) (ownerRunTime s o)
  t.setDrive { t.drive with stage := .backing, phaseTimer := s.params.backoffTime }

/-- R127. A stall with more retries used than a write has left as max retries fails as one with as many (log
47: the model's choice). -/
def stallOp (s : State) : State :=
  match s.drive.owner with
  | none => s
  | some o =>
    if inEndZone s o then
      if destinationSwitchMapped s o then completeOwner .failedLateStall s
      else completeOwner .doneEndByStall (setAtEnd o s)
    else if ownerRetries s o < s.params.maxRetries then retry o s
    else completeOwner .failedStallLimit s

/-- R128: the run time has passed floor(travel time × 3 / 2) ms. -/
def timedOut (s : State) : Bool :=
  decide (s.drive.stage = .running) &&
    s.drive.owner.any (fun o => decide (travelTime s o.actuator * 3 / 2 < ownerRunTime s o))

/-! ## Emergency stop and ignition (R132, R133) -/

/-- R132: a READY or ACTIVE slot completes ABORTED(ESTOP). -/
def estopSlot (s : State) (i : Fin 16) : State :=
  if (slotAt s i).holdsMotion then finishMotion ⟨ringOf s i, .slot i⟩ .abortedEstop s else s

/-- R132: a RAISED or ACTIVE override completes ABORTED(ESTOP). -/
def estopOverride (s : State) (a : Actuator) : State :=
  if (overrideOf s a).state = .none then s else finishMotion ⟨a, .override⟩ .abortedEstop s

/-- R132: every slot and override ends, and the stage brakes or becomes IDLE. -/
def emergencyStop (s : State) : State :=
  endMotion ([Actuator.step, .awning].foldl estopOverride ((List.finRange 16).foldl estopSlot s))

/-- R133: an ACTIVE EXTEND or MOVE_TO slot completes ABORTED(PREEMPTED) at an ignition edge. -/
def ignitionAbort (s : State) : State :=
  match s.drive.owner with
  | some ⟨_, .slot i⟩ =>
    if (slotAt s i).action = .retract then s else completeOwner .abortedPreempted s
  | some ⟨_, .override⟩ => s
  | none => s

/-! ## Edges of the actuators' inputs (R139, R141, R150 to R152) -/

/-- R141: the edges of the step's limit switches. -/
def stepInEdge (rising : Bool) (s : State) : State :=
  if rising then s.setAct { s.act with stepMs := some 0, homing := none }
  else if eventActive s .stepOutLimit then
    s.setAct { s.act with stepMs := some s.params.stepTravel, homing := none }
  else s

def stepOutEdge (rising : Bool) (s : State) : State :=
  if rising then s.setAct { s.act with stepMs := some s.params.stepTravel, homing := none }
  else if eventActive s .stepInLimit then s.setAct { s.act with stepMs := some 0, homing := none }
  else s

/-- R139: homing. -/
def awningInEdge (rising : Bool) (s : State) : State :=
  if rising then s.setAct { s.act with posMs := some 0 } else s

/-- R150: a press judges the step position. -/
def stepPress (s : State) : State :=
  match stepPosition s with
  | .deployed => switchPost .step .retract s
  | .between => switchPost .step .retract s
  | .stowed => switchPost .step .extend s
  | .unknown => switchPost .step .extend s

/-- R152: auto-step. -/
def doorStep (rising : Bool) (s : State) : State :=
  if rising && s.params.autoStep && !eventActive s .ignitionOn && stepStowed s then
    switchPost .step .extend s
  else s

/-! ## Wind (R147 to R149) -/

/-- R147: one rising edge. -/
def windCount (s : State) : State :=
  s.setWind { s.wind with count := min 65535 (s.wind.count + 1) }

/-- R149: WIND_PULSE mapped to no pin ends the lockout. -/
def windUnmapped (s : State) : State :=
  s.setWind { s.wind with lockout := false, high := 0, calm := 0, count := 0 }

/-- R147: the speed of the window that ends. -/
def windSpeed (s : State) : Nat := min 65535 (s.wind.count * s.params.windFactor)

/-- R148: the judgement of one window. -/
def windJudge (speed : Nat) (s : State) : State :=
  let w := s.wind
  if s.params.tripSpeed ≤ speed then
    let h := min 2 (w.high + 1)
    if h = 2 then
      let t := s.setWind { w with high := 2, lockout := true, calm := 0 }
      if !w.lockout && !awningStowed s then raiseOverride .awning .wind t else t
    else s.setWind { w with high := h, calm := 0 }
  else if w.lockout then
    let calm := w.calm + ticksSince s.now w.start
    if s.params.lockoutRelease * 16 ≤ calm then
      s.setWind { w with high := 0, lockout := false, calm := 0 }
    else s.setWind { w with high := 0, calm := calm }
  else s.setWind { w with high := 0 }

/-- R147: the next window begins: 48 ticks after the instant just reached, from the present time. -/
def nextWindow (speed : Nat) (s : State) : State :=
  s.setWind { s.wind with count := 0, due := s.wind.due + 48, start := s.now, speed := speed }

/-- R147 to R149: the end of a window. While WIND_PULSE is unmapped the last speed becomes 0 and nothing
is judged (log 32). -/
def windowEndOp (s : State) : State :=
  if eventMapped s .windPulse then
    arbitrate (nextWindow (windSpeed s) (windJudge (windSpeed s) s))
  else nextWindow 0 s

/-! ## Parameters (R153) and restart (R136) -/

/-- R153: the actuator holds the stage, CLAIMED to the end of BRAKING, or its override is ACTIVE. -/
def actuatorBusy (s : State) (a : Actuator) : Bool :=
  s.drive.owner.any (fun o => decide (o.actuator = a)) || decide ((overrideOf s a).state = .active)

/-- R153: a count keeps its position in permille of the travel. -/
def rescale (old new n : Nat) : Nat := n * new / old

/-- R136: the stage's restart, before its DRIVE record is presented. -/
def driveRestart (s : State) : State :=
  let t := freeRings s
  let t := t.setMotion { t.motion with stepOverride := .reset, awningOverride := .reset }
  let t := t.setDrive { t.drive with lastServed := .awning }
  let t := t.setAct { t.act with homing := none }
  if s.drive.stage = .claimed then t.setDrive t.drive.idled
  else if afterWaking s.drive.stage then brakeAfter (motionInProgress s) t
  else t

/-- R136, R54: a braking that the restart leaves holds OVERRIDE, granted and committed at once. -/
def presentBraking (s : State) : State :=
  if s.drive.stage = .braking then
    reevaluate s (setOrigins s chDrive { OriginSet.empty with override := some 0 })
  else s

end Sys2Proof.Machine
end

