-- ==== Sys2Proof/Machine/Link.lean ====
section
/-! DEFINITION. The Link Interface: the receiver, the arrival of a frame, the taking of a request and its
reply, the transmitter and the notices, masks and silence (R194 to R209). -/

namespace Sys2Proof.Machine

/-! ## Receiver (R194, R195) -/

/-- What one byte brings about. -/
inductive RxEvent where
  | nothing
  | started
  | discarded
  | frame (f : Frame)
  deriving DecidableEq, Repr

/-- The receiver in HUNT with no partial frame. -/
def Link.hunting (l : Link) : Link := { l with rx := .hunt, received := [], expected := 0 }

/-- The frame whose LEN byte and body are `covered`. -/
def frameOf (covered : List Byte) : Frame where
  kind := byteAt covered 1
  tag := byteAt covered 2
  payload := covered.drop 3

/-- R195: one byte. `received` holds the LEN byte, the body and the first CRC byte. -/
def Link.feed (l : Link) (b : Byte) : Link × RxEvent :=
  match l.rx with
  | .hunt =>
    if b.toNat = 165 then ({ l with rx := .length, received := [], expected := 0 }, .started)
    else (l, .nothing)
  | .length =>
    if 2 ≤ b.toNat ∧ b.toNat ≤ 60 then
      ({ l with rx := .body, received := [b], expected := b.toNat }, .nothing)
    else (l.hunting, .discarded)
  | .body =>
    let r := l.received ++ [b]
    ({ l with rx := if l.expected + 1 ≤ r.length then .check else .body, received := r }, .nothing)
  | .check =>
    if l.received.length ≤ l.expected + 1 then ({ l with received := l.received ++ [b] }, .nothing)
    else
      let covered := l.received.take (l.expected + 1)
      let high := byteAt l.received (l.expected + 1)
      if (crc16 covered).toNat = high.toNat * 256 + b.toNat then (l.hunting, .frame (frameOf covered))
      else (l.hunting, .discarded)

/-- How a run of bytes ends. `early`: a frame or a discard before the last byte. -/
inductive RxEnd where
  | open
  | early
  | discarded
  | frame (f : Frame)
  deriving DecidableEq, Repr

/-- A run of bytes through the receiver: its state, whether a START byte was taken, and its end. -/
def rxRun : List Byte → Link → Bool → Link × Bool × RxEnd
  | [], l, started => (l, started, .open)
  | b :: rest, l, started =>
    match l.feed b with
    | (l', .nothing) => rxRun rest l' started
    | (l', .started) => rxRun rest l' true
    | (l', .discarded) => (l', started, if rest = [] then .discarded else .early)
    | (l', .frame f) => (l', started, if rest = [] then .frame f else .early)

/-- R190, R196: a START byte taken while ENTERING or DORMANT is a wake cause at once. -/
def wakeIfStarted (started : Bool) (s : State) : State := if started then wake s else s

/-! ## Replies and the transmitter (R197, R198, R200) -/

/-- R198: the kind of a reply is the request's with its highest bit set. -/
def replyKind (kind : Byte) : Byte := kind ||| 128#8

/-- R200: a FREE transmitter takes the oldest reply; it sends nothing in DORMANT. -/
def chooseFrame (s : State) : State :=
  if s.link.tx = .free && s.time.power ≠ .dormant && s.link.replies ≠ [] then
    s.setLink { s.link with tx := .reply }
  else s

/-- A reply joins the end of the reply queue. -/
def queueReply (f : Frame) (s : State) : State :=
  chooseFrame (s.setLink { s.link with replies := s.link.replies ++ [f] })

/-- R210: the reply to an accepted RESTART. -/
def isRestartReply (f : Frame) : Bool := decide (f.kind = 157#8) && decide (f.payload = [0#8])

/-- R210: the RESTART reply has been sent. -/
def restartDue (s : State) : Bool := s.link.restartPending && !s.link.replies.any isRestartReply

/-- R198: when the oldest frame of the inbox is this request and the Link Interface takes it (log 2). -/
def requestReady (kind : Byte) (tag : Byte) (payload : List Byte) (s : State) : Bool :=
  decide (s.link.inbox.head? = some ⟨kind, tag, payload⟩) && decide (s.link.replies.length < 4) &&
    decide (s.time.power ≠ .dormant) && !s.link.restartPending

/-- R198: the reply is queued and the frame leaves the inbox. -/
def answer (kind tag : Byte) (reply : List Byte) (s : State) : State :=
  queueReply ⟨replyKind kind, tag, reply⟩ (s.setLink { s.link with inbox := s.link.inbox.tail })

/-- R198, R217: a request of a known kind: its length is judged, then its rule acts, and the reply is
formed from the outcome. -/
def takeRequest (kind : Nat) (tag : Byte) (payload : List Byte)
    (act : State → List Byte × State) (s : State) : Host.Outcome State Fault Refusal :=
  let k := BitVec.ofNat 8 kind
  perform s (requestReady k tag payload s)
    (if lengthAllowed kind payload.length then
      let r := act s
      answer k tag r.1 r.2
    else answer k tag (u8 Result.length.code) s)

/-! ## Arrival (R196, R197, R208) -/

/-- R208, R209, R210: the silence count at the timeout, absent while the timeout is 0. -/
def silenceStart (p : Params) : Option Nat :=
  if p.silenceTimeout = 0 then none else some (p.silenceTimeout * 16)

/-- R208: each valid frame restarts the timer and makes the host ATTENDED. -/
def attend (s : State) : State :=
  s.setLink { s.link with attended := .attended, silence := silenceStart s.params }

/-- R196, R197: the arrival of a valid frame. -/
def arrive (f : Frame) (s : State) : State :=
  let t := touchIdle (attend s)
  if t.link.inbox.length < 4 then t.setLink { t.link with inbox := t.link.inbox ++ [f] }
  else if t.link.replies.length < 4 then
    queueReply ⟨replyKind f.kind, f.tag, u8 Result.busy.code⟩ t
  else t

/-- R195, R196: the bytes of VALID_FRAME; none where they do not end in a valid frame. -/
def receiveFrame (bytes : List Byte) (s : State) : Option State :=
  match rxRun bytes s.link false with
  | (l, started, .frame f) => some (arrive f (wakeIfStarted started (s.setLink l)))
  | _ => none

/-- R194, R195: the bytes of FRAME_DISCARD, with a framing error after them where `framing` is set; none
where nothing is discarded at their end. -/
def discardFrame (bytes : List Byte) (framing : Bool) (s : State) : Option State :=
  match rxRun bytes s.link false, framing with
  | (l, started, .discarded), false => some (wakeIfStarted started (s.setLink l))
  | (l, started, .open), true =>
    if l.rx = .hunt then none else some (wakeIfStarted started (s.setLink l.hunting))
  | _, _ => none

/-! ## Notices (R204, R205) -/

def flagLevels : List FlagLevel := [.safety, .energy, .service]

/-- A level holds a flag with its unreported mark set. -/
def levelMarked (s : State) (l : FlagLevel) : Bool :=
  allFlags.any (fun f => decide (f.level = l) && (flagBits s f).mark)

/-- R204: the highest UNMASKED level with a marked flag. -/
def noticeLevel (s : State) : Option FlagLevel :=
  flagLevels.find? (fun l => !levelMasked s l && levelMarked s l)

/-- R200, R204: the transmitter could begin a notice. -/
def mayNotice (s : State) : Bool :=
  decide (s.link.tx = .free) && decide (s.link.replies = []) &&
    (decide (s.time.power = .active) || decide (s.time.power = .leaving)) &&
    decide (s.link.hold = 0) && !s.link.restartPending

/-- R204, R220: the notice of a level, its content as the flags stand. -/
def noticeFrame (s : State) (l : FlagLevel) : Frame :=
  let fs := (setFlags s).filter (fun f => decide (f.level = l))
  { kind := 64#8
    tag := s.link.noticeCounter
    payload := u8 l.code ++ u8 fs.length ++ fs.map (fun f => flagByte f (flagBits s f).mark) }

/-- R204: at the beginning of a notice the level's marks and occurrence flags are cleared. -/
def reportFlag (l : FlagLevel) (s : State) (f : Flag) : State :=
  if f.level = l then
    if f.kind = .occurrence then clearFlag s f else putFlag s f { flagBits s f with mark := false }
  else s

/-- R204. -/
def beginNotice (l : FlagLevel) (s : State) : State :=
  let t := allFlags.foldl (reportFlag l) s
  t.setLink
    { t.link with tx := .notice (noticeFrame s l), noticeCounter := s.link.noticeCounter + 1 }

/-- R200: the last byte of a frame has been sent; the transmitter chooses, unless the restart is due. -/
def transmitEndOp (s : State) : State :=
  let t :=
    match s.link.tx with
    | .reply => s.setLink { s.link with tx := .free, replies := s.link.replies.tail }
    | .notice _ => s.setLink { s.link with tx := .free }
    | .free => s
  if restartDue t then t else chooseFrame t

/-! ## Masks (R205) and silence (R208, R209) -/

/-- R205, R217: a setting code: 0 MASKED, 1 UNMASKED, 2 unchanged. -/
def maskSetting (old : Bool) (b : Byte) : Option Bool :=
  if b.toNat = 0 then some true
  else if b.toNat = 1 then some false
  else if b.toNat = 2 then some old
  else none

/-- R205: the mark is set on every set flag of a level that becomes UNMASKED. -/
def remark (l : FlagLevel) (s : State) : State :=
  allFlags.foldl
    (fun t f => if f.level = l && flagSet t f then putFlag t f ⟨true, true⟩ else t) s

/-- R205: one level's new setting. -/
def setMask (l : FlagLevel) (masked : Bool) (s : State) : State :=
  let m := s.link.masked
  let m' : LevelMask :=
    match l with
    | .safety => { m with safety := masked }
    | .energy => { m with energy := masked }
    | .service => { m with service := masked }
  let t := s.setLink { s.link with masked := m' }
  if levelMasked s l && !masked then remark l t else t

/-- R205: NOTICE_MASK; none for an unknown setting code. -/
def noticeMaskOp (p : List Byte) (s : State) : Option State :=
  match maskSetting s.link.masked.safety (byteAt p 0), maskSetting s.link.masked.energy (byteAt p 1),
      maskSetting s.link.masked.service (byteAt p 2) with
  | some a, some b, some c => some (setMask .service c (setMask .energy b (setMask .safety a s)))
  | _, _, _ => none

/-- R208: an advance of device time takes its ticks from the silence count while the part is not
DORMANT. -/
def silenceFall (ticks : Nat) (s : State) : State :=
  if s.time.power = .dormant then s
  else s.setLink { s.link with silence := s.link.silence.map (fun n => n - ticks) }

/-- R206: one slot of 640 bit times. -/
def holdSlot (s : State) : State :=
  if s.time.power = .dormant then s else s.setLink { s.link with hold := s.link.hold - 1 }

/-! ## Restart (R210) -/

/-- R210: what the restart does at the Link Interface before the conditions and latches set their flags
again. -/
def linkRestart (s : State) : State :=
  let l := s.link.hunting
  attend
    (s.setLink
      { l with
        inbox := []
        replies := []
        tx := .free
        restartPending := false
        flags := Vector.replicate 21 ⟨false, false⟩
        hold := 0 })

end Sys2Proof.Machine
end

