-- ==== Sys2Proof/Machine/Heater.lean ====
section
/-! DEFINITION. The Heater Sequencer: modes and ceiling, thermostat and demand, the sequence of states,
failed starts and lockout (R71 to R89). -/

namespace Sys2Proof.Machine

/-! ## Modes (R73, R74) -/

/-- The higher of two modes, OFF < FROST < ECONOMY < COMFORT. -/
def HeatMode.sup (a b : HeatMode) : HeatMode := if a.code ≤ b.code then b else a

/-- The lower of two modes. -/
def HeatMode.inf (a b : HeatMode) : HeatMode := if a.code ≤ b.code then a else b

/-- R73. -/
def requestedMode (h : Heater) : HeatMode :=
  (h.hostMode.sup h.schedMode).sup (if h.frostOrigin then .frost else .off)

/-- R74. -/
def ceilingOf : Band → HeatMode
  | .normal => .comfort
  | .economy => .comfort
  | .reserve => .economy
  | .critical => .frost

/-- The setpoint of a mode, absent for OFF. -/
def setpointOf (p : Params) : HeatMode → Option Int
  | .off => none
  | .frost => some p.frostSetpoint
  | .economy => some p.economySetpoint
  | .comfort => some p.comfortSetpoint

/-! ## Thermostat and demand (R76) -/

/-- R76: one test of the thermostat. `afresh`: the first PRESENT conversion after UNREAD or ABSENT. -/
def thermostatTest (p : Params) (afresh : Bool) (h : Heater) : Thermostat :=
  match setpointOf p h.effective, h.sensor, h.reading with
  | none, _, _ => .satisfied
  | some sp, .present, some t =>
    if t ≤ sp - p.thermostatHysteresis then .calling
    else if afresh || decide (sp + p.thermostatHysteresis ≤ t) then .satisfied
    else h.thermostat
  | some _, _, _ => h.thermostat

/-- R76: the two cases in which the demand holds. -/
def demandOf (h : Heater) : Bool :=
  (decide (h.sensor = .present) && decide (h.effective ≠ .off) && decide (h.thermostat = .calling)) ||
    (decide (h.sensor = .absent) && h.frostOrigin)

/-- R73, R74: ceiling, effective mode, thermostat and demand, in this order. -/
def heaterRecompute (afresh : Bool) (s : State) : State :=
  let h1 := { s.heater with ceiling := ceilingOf s.meter.band }
  let h2 := { h1 with effective := (requestedMode h1).inf h1.ceiling }
  let h3 := { h2 with thermostat := thermostatTest s.params afresh h2 }
  s.setHeater { h3 with demand := demandOf h3 }

/-! ## The sequence -/

/-- R77, R81: what the demand makes of the state. -/
def heaterAct (s : State) : State :=
  match s.heater.state, s.heater.demand with
  | .off, true => s.setHeater { s.heater with state := .waitGrant }
  | .waitGrant, false => s.setHeater { s.heater with state := .off }
  | .starting, false => enterPurging s
  | .running, false => enterPurging s
  | .off, false => s
  | .waitGrant, true => s
  | .starting, true => s
  | .running, true => s
  | .purging, _ => s
  | .lockout, _ => s

/-- The states in which THERMOSTAT is on the record (R71). -/
def holdsThermostat : HeaterState → Bool
  | .off => false
  | .waitGrant => true
  | .starting => true
  | .running => true
  | .purging => true
  | .lockout => false

/-- R71: the origins that the sequencer holds on the HEATER record. -/
def heaterOrigins (h : Heater) : OriginSet :=
  { OriginSet.empty with
    thermostat := if holdsThermostat h.state then some 0 else none
    frost := if holdsThermostat h.state && h.frostOrigin then some 0 else none }

def syncHeater (s : State) : State := setOrigins s chHeater (heaterOrigins s.heater)

/-- R72: a change of the state, of the phase presented or of the origins is one re-evaluation event of the
table, with its walk. LOCKOUT and OFF look alike to the table, so a change of state is an event of itself. -/
def heaterSettle (before s : State) : State :=
  if before.heater.state = s.heater.state then reevaluate before (syncHeater s)
  else reevaluateAlways before (syncHeater s)

/-- R73: a change of the sequencer's inputs, from `before` to `s`: everything is recomputed and the
sequence acts within the same event. -/
def heaterFollow (before s : State) : State :=
  heaterSettle before (heaterAct (heaterRecompute false s))

/-- R73: the HOST mode. -/
def setHostMode (m : HeatMode) (s : State) : State :=
  heaterFollow s (s.setHeater { s.heater with hostMode := m })

/-- R73: the SCHEDULE mode. -/
def setSchedMode (m : HeatMode) (s : State) : State :=
  heaterFollow s (s.setHeater { s.heater with schedMode := m })

/-- R73: the FROST origin, added or withdrawn by the Tank and Frost Unit. -/
def setFrostOrigin (b : Bool) (s : State) : State :=
  if s.heater.frostOrigin = b then s
  else heaterFollow s (s.setHeater { s.heater with frostOrigin := b })

/-- R74: a band change handed on by the Charge Meter. -/
def bandToHeater (s : State) : State := heaterFollow s s

/-- The schedule's HEAT action (R73, R180): the mode code as stored, judged when the entry fires. The
unchanged code sets nothing (R73, R217). -/
def heatOp (set : HeatMode → State → State) (code : Byte) (s : State) : Result × State :=
  if code.toNat = 255 then (.accepted, s)
  else
    match HeatMode.ofCode code with
    | some m => (.accepted, set m s)
    | none => (.range, s)

/-! ## Conversions (R75) -/

/-- −400 and +850 are rail readings (R5, R75, R100). -/
def railTemperature (t : Int) : Bool := decide (t = -400) || decide (t = 850)

/-- The ticks between conversions (R75, R100). -/
def conversionTicks (s : State) : Nat := if s.time.power = .dormant then 128 else 16

/-- R75, R76. -/
def cabinConvert (t : Int) (s : State) : State :=
  let due := s.ahead (conversionTicks s)
  if railTemperature t then
    heaterFollow s (s.setHeater { s.heater with sensor := .absent, cabinDue := due })
  else
    let c := s.setHeater { s.heater with sensor := .present, reading := some t, cabinDue := due }
    heaterSettle s (heaterAct (heaterRecompute (decide (s.heater.sensor ≠ .present)) c))

/-! ## Flame and purge (R79 to R84) -/

/-- R83: one failure; the third sets the latch and flags HEATER_LOCKOUT. -/
def addFailure (s : State) : State :=
  let n := min 3 (s.heater.failed + 1)
  if n = 3 then raiseFlag (s.setHeater { s.heater with failed := 3, latch := true }) .heaterLockout
  else s.setHeater { s.heater with failed := n }

/-- R79: the test at the end of the glow. -/
def glowEndOp (s : State) : State :=
  if eventMapped s .heaterFlame && !eventActive s .heaterFlame then
    heaterSettle s (enterPurging (addFailure s))
  else
    heaterSettle s (s.setHeater { s.heater with state := .running, glowDue := none, failed := 0 })

/-- R80: a falling edge of HEATER_FLAME that leaves the event mapped. -/
def flameLoss (s : State) : State :=
  if s.heater.state = .running && eventMapped s .heaterFlame then
    heaterSettle s (enterPurging (addFailure s))
  else s

/-- R82: the three rows of the purge end. A heater still demanded leaves the grant order and enters the
waiting list at its place, with its marks (R36, R40). -/
def purgeEndOp (s : State) : State :=
  let leave := fun st => s.setHeater { s.heater with state := st, purgeDue := none }
  if 3 ≤ s.heater.failed then heaterSettle s (leave .lockout)
  else if s.heater.demand then
    let t := leave .waitGrant
    heaterSettle s (setGranted t (t.table.granted.erase chHeater))
  else heaterSettle s (leave .off)

/-- R84: FLAG_CLEAR of HEATER_LOCKOUT while the latch is set. -/
def lockoutClear (s : State) : State :=
  if s.heater.latch then
    let h := { s.heater with latch := false, failed := 0 }
    if h.state = .lockout then heaterSettle s (heaterAct (s.setHeater { h with state := .off }))
    else s.setHeater h
  else s

/-! ## Restart (R89) -/

/-- R89: the modes become OFF, everything is recomputed, and the state follows the table of the rule,
after the Load Table has withdrawn THERMOSTAT. The thermostat is tested with it, as at any change of the
effective mode (R76), where R89 has its state kept (log 52: the model's reading). -/
def heaterRestart (s : State) : State :=
  let t := heaterRecompute false
    (s.setHeater { s.heater with hostMode := .off, schedMode := .off })
  match t.heater.state with
  | .starting => heaterSettle s (enterPurging t)
  | .running => heaterSettle s (enterPurging t)
  | .purging => heaterSettle s t
  | .waitGrant => heaterSettle s (heaterAct t)
  | .off => heaterSettle s (heaterAct t)
  | .lockout => heaterSettle s t

end Sys2Proof.Machine
end

