-- ==== Sys2Proof/Machine/Lamps.lean ====
section
/-! DEFINITION. The Lamp Controller's own events: the cap, the fades, the wall switches, the entry light,
the scenes, and the lamps at the changes of power state (R55 to R68). -/

namespace Sys2Proof.Machine

/-! ## Cap, draw and fades -/

/-- R55, R57: the applied levels follow the band last published; the cap change and its draw change are
one re-evaluation event. -/
def lampsFollowCap (s : State) : State := reevaluate s (recomputeLamps s)

/-- R52, R56: the presented draws follow the lamp draw. -/
def lampsFollowDraw (s : State) : State :=
  reevaluate s
    (s.setLamps
      { s.lamps with chans := vmap (fun _ x => x.withDraw s.params.lampDraw) s.lamps.chans })

/-- Every lamp meets its fade target anew: a fade rate of 0 ends the fades (R58, R68), and the granted
lamps fade up when the part becomes ACTIVE (R67, R191). -/
def lampsRetarget (s : State) : State := reevaluate s (allLamps.foldl retarget s)

/-- R67: every output is 0 at once, STEADY, when the part becomes ENTERING. -/
def lampsDark (s : State) : State := reevaluate s (allLamps.foldl darken s)

/-- R58: one tick moves the output toward its target by 16 × fade rate and not past it. -/
def Lamp.step (x : Lamp) (target rate : Nat) : Lamp :=
  if x.output < target then { x with output := min target (x.output + 16 * rate) }
  else { x with output := max target (x.output - 16 * rate) }

/-- R58: the tick of every lamp. The end of a fade is a command of its own (FADE_END, log 28). -/
def lampsTick (s : State) : State :=
  s.setLamps
    { s.lamps with chans := vmap (fun i x => x.step (fadeTarget s i) s.params.fadeRate) s.lamps.chans }

/-- A fade has reached its target and has not yet ended. -/
def fadeDone (s : State) (i : Fin 6) : Bool :=
  decide (s.lamps.chans[i].fade ≠ .steady) && decide (s.lamps.chans[i].output = fadeTarget s i)

/-- R59: the fade ends STEADY; the draw of a finished fall becomes that of the applied level. -/
def fadeEndOp (i : Fin 6) (s : State) : State :=
  let x := { s.lamps.chans[i] with fade := .steady, fallStart := none }
  reevaluate s (setLamp s i (x.withDraw s.params.lampDraw))

/-! ## Wall switches (R61) -/

/-- R61: a press withdraws every origin but ENTRY where the target is above 0, and adds SWITCH where it
is 0. -/
def wallPress (i : Fin 6) (s : State) : State :=
  if 0 < lampTarget s i then
    let o := origins s (chLamp i)
    originEvent s
      (setOrigins s (chLamp i) { o with host := none, schedule := none, switch := none, scene := none })
  else originEvent s (putOrigin s (chLamp i) .switch (some (s.params.switchLevel i)))

/-! ## Entry light (R62, R63) -/

/-- The entry channel; none is the value −1 (R213). -/
def entryChannel (s : State) : Option (Fin 6) :=
  if h : 0 ≤ s.params.entryChannel ∧ s.params.entryChannel.toNat < 6 then
    some ⟨s.params.entryChannel.toNat, h.2⟩
  else none

/-- An ENTRY origin stands exactly while the entry due instant is present. -/
def entryStands (s : State) : Bool := s.lamps.entryDue.isSome

def setEntryDue (s : State) (t : Option Tick) : State := s.setLamps { s.lamps with entryDue := t }

def entryDueFromNow (s : State) : Option Tick := some (s.ahead (s.params.entryHold * 16))

/-- R62: what a DOOR_OPEN edge does to the entry light. A falling edge restarts the hold, and leaves the origin
at the level it was set to (log 50: the model's choice). -/
def entryDoor (rising : Bool) (s : State) : State :=
  if eventActive s .ignitionOn then s
  else
    match entryChannel s with
    | none => s
    | some i =>
      if rising then
        originEvent s
          (putOrigin (setEntryDue s (entryDueFromNow s)) (chLamp i) .entry (some s.params.entryLevel))
      else if entryStands s then setEntryDue s (entryDueFromNow s)
      else s

/-- R63: ENTRY is withdrawn from the entry channel and the due instant removed. -/
def entryWithdraw (s : State) : State :=
  match entryChannel s with
  | none => setEntryDue s none
  | some i => originEvent s (putOrigin (setEntryDue s none) (chLamp i) .entry none)

/-! ## Scenes (R64 to R66) -/

/-- A recalled entry: 0 withdraws SCENE, a level sets it, no entry leaves it. -/
def recallEntry (scene : Vector (Option Nat) 6) (s : State) (i : Fin 6) : State :=
  match scene[i] with
  | none => s
  | some l => putOrigin s (chLamp i) .scene (if l = 0 then none else some l)

/-- R64: the recall, one re-evaluation event for all six records. -/
def sceneRecallOp (number : Byte) (s : State) : Result × State :=
  if h : number.toNat < 4 then
    (.accepted, originEvent s (allLamps.foldl (recallEntry s.lamps.scenes[number.toNat]) s))
  else (.range, s)

/-- R66: the recall of one edge of SCENE_SELECT; none (−1) does nothing. -/
def sceneSelectEdge (rising : Bool) (s : State) : State :=
  let n := if rising then s.params.sceneOn else s.params.sceneOff
  if n < 0 then s else (sceneRecallOp (BitVec.ofNat 8 n.toNat) s).2

/-- R65: every entry of the scene becomes the present target of its channel. -/
def sceneStoreOp (number : Byte) (s : State) : Result × State :=
  if h : number.toNat < 4 then
    (.accepted,
      s.setLamps
        { s.lamps with
          scenes := vput s.lamps.scenes ⟨number.toNat, h⟩ (Vector.ofFn (fun i => some (lampTarget s i))) })
  else (.range, s)

end Sys2Proof.Machine
end

