-- ==== Sys2Proof/Machine/Meter.lean ====
section
/-! DEFINITION. The Charge Meter: the derived figures, the readings of an interval, the nine steps of the
interval end and its hand-offs, and the requests that act on the account (R1 to R28). -/

namespace Sys2Proof.Machine

/-! ## Derived figures (R1, R11, R12, R14, R15) -/

/-- R1: Q_nom = C × 57,600 mA·ticks. -/
def qNom (p : Params) : Nat := p.capacity * 57600

/-- R1: I_ref = floor(C / 20) mA. -/
def iRef (p : Params) : Nat := p.capacity / 20

/-- R15: floor(C × t / 1000) mA. -/
def tailCurrent (p : Params) : Nat := p.capacity * p.tail / 1000

/-- R11: the derating factor in permille. -/
def deratingOf (p : Params) (t : Int) : Nat :=
  if t < 250 then max 500 (1000 - floorDiv ((p.coldCoefficient : Int) * (250 - t)) 10).toNat else 1000

/-- R11: Q_full. -/
def qFull (s : State) : Nat := qNom s.params * s.meter.derating / 1000

/-- R11: U = max(0, Q − (Q_nom − Q_full)). -/
def usable (s : State) : Nat := s.meter.q - (qNom s.params - qFull s)

/-- R12. -/
def storedSoc (s : State) : Nat := s.meter.q * 1000 / qNom s.params

/-- R12. -/
def usableSoc (s : State) : Nat := usable s * 1000 / qFull s

/-- R12: the charge reported to the host, mAh. -/
def reportedCharge (s : State) : Nat := s.meter.q / 57600

/-- R14: R = floor(r × Q_full / 1000). -/
def reserveCharge (s : State) : Nat := s.params.reserve * qFull s / 1000

/-- R14: minutes to the reserve at the filtered current; 65,535 = not discharging. -/
def runtime (s : State) : Nat :=
  if s.meter.filtered < 0 then
    if reserveCharge s < usable s then
      min 65535 ((usable s - reserveCharge s) / 57600 * 60 / s.meter.filtered.natAbs)
    else 0
  else 65535

/-! ## Readings (R3 to R6) -/

/-- R3, R4: one sample; the clamped current at either rail sets the saturation mark. -/
def IntervalAcc.add (a : IntervalAcc) (x : MeterSample) : IntervalAcc where
  sumCurrent := a.sumCurrent + clampInt x.current (-250000) 250000
  sumVoltage := a.sumVoltage + (clampInt x.voltage 0 20000).toNat
  count := a.count + 1
  saturated := a.saturated || decide (x.current ≤ -250000) || decide (250000 ≤ x.current)

def accumulate (xs : List MeterSample) (s : State) : State :=
  s.setMeter { s.meter with acc := xs.foldl IntervalAcc.add s.meter.acc }

/-- The closed readings of an interval: step 1 of R7. -/
structure Closed where
  n : Nat
  current : Int
  voltage : Nat
  battery : Int
  saturated : Bool
  absent : Bool
  inhibit : Bool
  /-- the first metered interval after a power-on reset -/
  first : Bool
  deriving DecidableEq, Repr

/-- R3, R4, R5. -/
def closeReadings (m : Meter) (n : Nat) (t : Int) : Closed where
  n := n
  current := truncDiv m.acc.sumCurrent m.acc.count
  voltage := (floorDiv m.acc.sumVoltage m.acc.count).toNat
  battery := if railTemperature t then 250 else t
  saturated := m.acc.saturated
  absent := railTemperature t
  inhibit := railTemperature t || decide (t < 0)
  first := m.readings.isNone

/-! ## The steps of the interval end (R7) -/

/-- R9: the rate penalty in permille. -/
def ratePenalty (p : Params) (current : Int) : Nat :=
  if iRef p < current.natAbs then
    min 500 ((current.natAbs - iRef p) * p.rateCoefficient / iRef p)
  else 0

/-- R8, R9: step 2, the effective charge. -/
def effectiveCharge (p : Params) (current : Int) (n : Nat) : Int :=
  let raw := current * n
  if 0 ≤ raw then truncDiv (raw * p.efficiency) 1000
  else awayDiv (raw * ((1000 + ratePenalty p current : Nat) : Int)) 1000

/-- R26: the estimated SOC in permille. -/
def estimatedSoc (p : Params) (c : Closed) : Nat :=
  if c.current.natAbs ≤ iRef p / 4 then
    (clampInt (floorDiv (((c.voltage : Int) - 12000) * 1000) 1400) 0 1000).toNat
  else 500

/-- The readings that the interval publishes. -/
def Closed.readings (c : Closed) (empty : Bool) : Readings where
  current := c.current
  voltage := c.voltage
  battery := c.battery
  saturated := c.saturated
  absent := c.absent
  empty := empty

/-- R10, R26: steps 1 to 3, the readings and the account. -/
def stepAccount (p : Params) (c : Closed) (m : Meter) : Meter :=
  let m := { m with chargeInhibit := c.inhibit }
  if c.first && m.sync = .estimating then
    { m with
      q := qNom p * estimatedSoc p c / 1000
      sync := .unsynced
      readings := some (c.readings false) }
  else
    let q := (m.q : Int) + effectiveCharge p c.current c.n
    { m with
      q := (clampInt q 0 (qNom p)).toNat
      readings := some (c.readings (decide (q < 0))) }

/-- R15: the charge-tail condition of the interval. -/
def tailHolds (p : Params) (c : Closed) : Bool :=
  decide (p.syncVoltage ≤ c.voltage) && decide (0 ≤ c.current) &&
    decide (c.current ≤ (tailCurrent p : Int))

/-- R15, R16: what synchronising makes of the account. -/
def Meter.synchronised (p : Params) (m : Meter) : Meter :=
  { m with q := qNom p, sync := .synced, age := 0, dayAcc := 0, syncTimer := 0, spent := true }

/-- R15: step 4 synchronises at this interval end. -/
def syncNow (p : Params) (c : Closed) (m : Meter) : Bool :=
  tailHolds p c && !m.spent && decide (p.syncHold * 16 ≤ m.syncTimer + c.n)

/-- R15: step 4. -/
def stepSync (p : Params) (c : Closed) (m : Meter) : Meter :=
  if tailHolds p c then
    if m.spent then m
    else if p.syncHold * 16 ≤ m.syncTimer + c.n then m.synchronised p
    else { m with syncTimer := m.syncTimer + c.n }
  else { m with syncTimer := 0, spent := false }

/-- R11, R13: steps 5 and 6. -/
def stepFigures (p : Params) (c : Closed) (m : Meter) : Meter :=
  { m with
    derating := deratingOf p c.battery
    filtered := if c.first then c.current else m.filtered + truncDiv (c.current - m.filtered) 8 }

/-- R18: step 7; n is at most 4,096, so at most one day passes. -/
def stepAge (p : Params) (c : Closed) (m : Meter) : Meter :=
  let d := m.dayAcc + c.n
  let m := if 1382400 ≤ d then { m with dayAcc := d - 1382400, age := min 255 (m.age + 1) }
    else { m with dayAcc := d }
  { m with unsyncedLong := decide (p.syncAgeLimit < m.age) }

/-- R21: step 8. -/
def stepFloor (p : Params) (c : Closed) (m : Meter) : Meter :=
  match m.floor with
  | .normal =>
    if c.voltage < p.floorVoltage then
      if p.floorTime * 16 ≤ m.belowTimer + c.n then
        { m with floor := .forced, belowTimer := 0, recoveryTimer := 0 }
      else { m with belowTimer := m.belowTimer + c.n }
    else { m with belowTimer := 0 }
  | .forced =>
    if p.releaseVoltage ≤ c.voltage then
      if p.releaseTime * 16 ≤ m.recoveryTimer + c.n then
        { m with floor := .normal, belowTimer := 0, recoveryTimer := 0 }
      else { m with recoveryTimer := m.recoveryTimer + c.n }
    else { m with recoveryTimer := 0 }

/-- R19: what UNSYNCED_LONG raises the thresholds by. -/
def margin (p : Params) (m : Meter) : Nat := if m.unsyncedLong then p.unsyncedMargin else 0

/-- R19: the effective threshold whose crossing upwards leaves a band (Normal has none above it). -/
def thresholdAbove (p : Params) (m : Meter) : Band → Nat
  | .normal => p.economyThreshold + margin p m
  | .economy => p.economyThreshold + margin p m
  | .reserve => p.reserveThreshold + margin p m
  | .critical => p.criticalThreshold + margin p m

/-- R19: the threshold band of a usable SOC. -/
def thresholdBand (p : Params) (m : Meter) (soc : Nat) : Band :=
  if soc < thresholdAbove p m .critical then .critical
  else if soc < thresholdAbove p m .reserve then .reserve
  else if soc < thresholdAbove p m .economy then .economy
  else .normal

def Band.up : Band → Band
  | .normal => .normal
  | .economy => .normal
  | .reserve => .economy
  | .critical => .reserve

/-- R19, R20: the SOC band falls at once, rises by at most one step with the hysteresis, and is set
directly at the first metered interval. The boundary crossed is the effective threshold (log 16). -/
def nextSocBand (p : Params) (m : Meter) (first : Bool) (soc : Nat) : Band :=
  let t := thresholdBand p m soc
  if first then t
  else if m.socBand.code < t.code then t
  else if t.code < m.socBand.code then
    if thresholdAbove p m m.socBand + p.bandHysteresis ≤ soc then m.socBand.up else m.socBand
  else m.socBand

/-- R19, R20, R22: step 9. -/
def stepBand (p : Params) (first : Bool) (soc : Nat) (m : Meter) : Meter :=
  let b := nextSocBand p m first soc
  { m with socBand := b, band := if m.floor = .forced then .critical else b }

/-- R7: the nine steps over one interval. -/
def meterSteps (c : Closed) (s : State) : State :=
  let m := stepFloor s.params c (stepAge s.params c (stepFigures s.params c
    (stepSync s.params c (stepAccount s.params c s.meter))))
  let t := s.setMeter m
  t.setMeter (stepBand s.params c.first (usableSoc t) t.meter)

/-- R7, R22: what an interval end hands on, in the order given. -/
def meterHandOffs (c : Closed) (changed : Bool) (order : List HandOff) (s : State) : State :=
  let always : List (HandOff × (State → State)) := [(.bandOverdraw, overdrawCheck c.current)]
  let onChange : List (HandOff × (State → State)) :=
    [(.bandBudget, bandToTable), (.bandLamps, lampsFollowCap), (.bandHeater, bandToHeater),
      (.bandWake, wake)]
  inOrder order (if changed then always ++ onChange else always) s

/-- R7: the flags that the steps decide beside the conditions. -/
def meterFlags (synced changed : Bool) (s : State) : State :=
  let t := if synced then raiseFlag s .accountSynced else s
  if changed then raiseFlag t .bandChange else t

/-- The interval in progress ends: its readings go, and the next one begins at `start` (R2, R3, R10). -/
def nextInterval (start : Tick) (s : State) : State :=
  s.setMeter { s.meter with acc := .empty, intervalStart := start }

/-- R2: n = (end − interval start) modulo 2^32, capped at 4,096. -/
def intervalTicks (s : State) : Nat := min 4096 (ticksSince s.now s.meter.intervalStart)

/-- R2, R7: the interval in progress closes at the present device time and is metered, or discarded
where it has no tick or no sample; the next one begins at `start`. -/
def closeInterval (t : Int) (order : List HandOff) (start : Tick) (s : State) : State :=
  if intervalTicks s = 0 || s.meter.acc.count = 0 then nextInterval start s
  else
    let c := closeReadings s.meter (intervalTicks s) t
    let synced := syncNow s.params c (stepAccount s.params c s.meter)
    let u := nextInterval start (meterSteps c s)
    let changed := decide (u.meter.band ≠ s.meter.band)
    meterHandOffs c changed order (meterFlags synced changed u)

/-- R2: the interval length. -/
def intervalLength (s : State) : Nat := if s.time.power = .dormant then 128 else 16

/-- R2, R174: the end of the metering interval is reached. -/
def intervalDue (s : State) : Bool :=
  reached s.now (s.meter.intervalStart + BitVec.ofNat 32 (intervalLength s))

/-! ## Requests and parameters that act on the account (R16, R17, R24) -/

/-- R16. -/
def accountFullOp (s : State) : State :=
  raiseFlag (s.setMeter (s.meter.synchronised s.params)) .accountSynced

/-- R17. -/
def accountSetOp (permille : Nat) (s : State) : State :=
  s.setMeter
    { s.meter with
      q := qNom s.params * permille / 1000
      sync := .unsynced
      syncTimer := 0
      spent := false }

/-- R24: the account after a capacity write from `old` to a different value already in force. -/
def capacityFollow (old : Nat) (s : State) : State :=
  if s.params.capacity = old then s
  else
    s.setMeter
      { s.meter with
        q := s.meter.q * s.params.capacity / old
        sync := if s.meter.sync = .estimating then .estimating else .unsynced
        syncTimer := 0
        spent := false }

end Sys2Proof.Machine
end

