-- ==== Sys2Proof/Machine/TimeBase.lean ====
section
/-! DEFINITION. Device time and the power states: the advances, the calibration, the entry to and the
return from the Dormant state, and the moving of instants at a time set (R172 to R177, R186 to R191). -/

namespace Sys2Proof.Machine

/-! ## Advances (R172) -/

/-- The tick count and the fraction as one number of 48 bits (R172). -/
def timeNumber (t : TimeUnit) : BitVec 48 := t.tick ++ t.fraction

/-- R172: Inc is added to the 48-bit number. -/
def addInc (s : State) : State :=
  let n := timeNumber s.time + BitVec.ofNat 48 s.time.inc
  s.setTime { s.time with tick := n.extractLsb' 16 32, fraction := n.extractLsb' 0 16 }

/-- The ticks that the next slow step adds. -/
def incTicks (s : State) : Nat := ticksSince (addInc s).now s.now

/-! ## Calibration (R175, R176) -/

/-- R175: the start. -/
def startCalibration (s : State) : State := s.setTime { s.time with calib := .running 0 0 0 }

/-- R175: candidate = floor((M + 128) / 256). -/
def candidateInc (measured : Nat) : Nat := (measured + 128) / 256

/-- R175: the end of the measurement: success within 98,304..163,840, FAULT outside. -/
def endCalibration (measured : Nat) (s : State) : State :=
  let c := candidateInc measured
  if 98304 ≤ c ∧ c ≤ 163840 then
    s.setTime { s.time with calib := .idle, crystal := .good, inc := c }
  else s.setTime { s.time with calib := .idle, crystal := .fault }

/-- R175: 256 steps not counted within 768 ticks. -/
def failCalibration (s : State) : State :=
  s.setTime { s.time with calib := .idle, crystal := .fault }

/-- R175: the next slow step is the 256th after the first, so it ends the measurement (log 8). -/
def calibrationLast (s : State) : Bool :=
  match s.time.calib with
  | .running steps _ _ => decide (256 ≤ steps)
  | .idle => false

/-- R175: a slow step of a calibration. The first one only begins the measurement. -/
def calibrationStep (fastTime : Nat) (s : State) : State :=
  match s.time.calib with
  | .idle => s
  | .running steps measured ticks =>
    if 256 ≤ steps then endCalibration (measured + fastTime) s
    else if steps = 0 then s.setTime { s.time with calib := .running 1 0 ticks }
    else s.setTime { s.time with calib := .running (steps + 1) (measured + fastTime) ticks }

/-- R175: the no-steps outcome is due: 768 ticks of fast time have passed and the 256 steps of the
measurement have not ended it (log 8). -/
def calibrationStopped (s : State) : Bool :=
  match s.time.calib with
  | .running _ _ ticks => decide (768 ≤ ticks)
  | .idle => false

/-- The fast ticks since the start of a calibration (R175). -/
def calibrationTick (s : State) : State :=
  match s.time.calib with
  | .idle => s
  | .running steps measured ticks =>
    s.setTime { s.time with calib := .running steps measured (ticks + 1) }

/-! ## Power states (R173, R186 to R191) -/

/-- R188, R67: ENTERING: the time base becomes SLOW, and the lamp outputs 0. -/
def enterEntering (s : State) : State := lampsDark (s.setTime { s.time with power := .entering })

/-- R188: the Link Interface holds no frame and sends none. A restart that has been taken holds ENTERING
until it is performed (R192, R210). -/
def linkQuiet (s : State) : Bool :=
  decide (s.link.inbox = []) && decide (s.link.replies = []) && decide (s.link.tx = .free) &&
    !s.link.restartPending

/-- R188: the part becomes DORMANT: the debounce restarts (R162), the senders are no longer converted
(R90), the temperature conversions take the long interval (R75, R100), the receiver watches for a START
byte only, so a partial frame is lost (R189, R194, log 43), and the Charge Meter closes its interval
(R2). -/
def becomeDormant (input : MeterInput) (s : State) : State :=
  let t := restartDebounce (s.setTime { s.time with power := .dormant })
  let t := t.setLink t.link.hunting
  let t := t.setTanks { t.tanks with senderDue := none, tempDue := t.ahead 128 }
  let t := t.setHeater { t.heater with cabinDue := t.ahead 128 }
  closeInterval input.temperature input.order t.now t

/-- R191: the part becomes ACTIVE; the hand-offs in the order given. -/
def becomeActive (input : MeterInput) (s : State) : State :=
  let t := s.setTime { s.time with power := .active }
  inOrder input.order
    [(.activeMeter, fun u => closeInterval input.temperature input.order u.now u),
      (.activeLamps, lampsRetarget), (.activeArbiter, arbitrate)] t

/-- The advance of one slow step outside ACTIVE: Inc, the silence count (R208), and the samples that came
with it (R3). -/
def slowAdvance (input : MeterInput) (s : State) : State :=
  accumulate input.samples (silenceFall (incTicks s) (addInc s))

/-- R172, R175, R188, R191: one slow step, whatever it brings about (log 7). -/
def slowStep (fastTime : Nat) (input : MeterInput) (s : State) : State :=
  match s.time.power with
  | .active => calibrationStep fastTime (accumulate input.samples s)
  | .entering =>
    if linkQuiet s then becomeDormant input (slowAdvance input s) else slowAdvance input s
  | .dormant => slowAdvance input s
  | .leaving => becomeActive input (slowAdvance input s)

/-- R172: one tick of the fast oscillator in ACTIVE, with the lamp fades (R58), the silence count (R208)
and the calibration's fast time (R175). -/
def fastTick (input : MeterInput) (s : State) : State :=
  let t := accumulate input.samples s
  calibrationTick
    (lampsTick (silenceFall 1 (t.setTime { t.time with tick := t.time.tick + 1 })))

/-! ## A time set (R177) -/

/-- An instant that is present moves by the amount, modulo 2^32. -/
def moveInstant (delta : Tick) (t : Option Tick) : Option Tick := t.map (· + delta)

/-- R43, R63, R75, R85, R108, R147, R177: every instant but those of the schedule moves. -/
def moveInstants (delta : Tick) (s : State) : State :=
  let t := s.setTable
    { s.table with
      recs := vmap (fun _ r => { r with waitStart := moveInstant delta r.waitStart }) s.table.recs }
  let t := t.setLamps { t.lamps with entryDue := moveInstant delta t.lamps.entryDue }
  let t := t.setHeater
    { t.heater with
      glowDue := moveInstant delta t.heater.glowDue
      purgeDue := moveInstant delta t.heater.purgeDue
      cabinDue := t.heater.cabinDue + delta }
  let t := t.setTanks
    { t.tanks with
      fresh := { t.tanks.fresh with dangerDue := moveInstant delta t.tanks.fresh.dangerDue }
      grey := { t.tanks.grey with dangerDue := moveInstant delta t.tanks.grey.dangerDue }
      senderDue := moveInstant delta t.tanks.senderDue
      tempDue := t.tanks.tempDue + delta
      pumpDue := moveInstant delta t.tanks.pumpDue }
  let t := t.setWind { t.wind with due := t.wind.due + delta, start := t.wind.start + delta }
  t.setTime { t.time with idleDue := moveInstant delta t.time.idleDue }

/-- R177, before the schedule: the interval closes on the old time, the time is set with fraction 0, and
the instants move. -/
def setTimeOp (new : Tick) (input : MeterInput) (s : State) : State :=
  let t := closeInterval input.temperature input.order new (accumulate input.samples s)
  moveInstants (new - s.now) (t.setTime { t.time with tick := new, fraction := 0 })

end Sys2Proof.Machine
end

