-- ==== Sys2Proof/Machine/Schedule.lean ====
section
/-! DEFINITION. The schedule: writing, firing, rescheduling and freeing entries (R179 to R185). -/

namespace Sys2Proof.Machine

def entryAt (s : State) (i : Fin 16) : SchedEntry := s.time.schedule[i]

def setEntry (s : State) (i : Fin 16) (e : SchedEntry) : State :=
  s.setTime { s.time with schedule := vput s.time.schedule i e }

/-- R180: the entry is ARMED and its due instant reached. -/
def entryReached (s : State) (i : Fin 16) : Bool :=
  decide ((entryAt s i).state = .armed) && dueReached s.now (entryAt s i).due

/-- R180: the action, taken through the rule that owns the equivalent request, with its result code. -/
def runAction (a : SchedAction) (s : State) : Result × State :=
  match a with
  | .load ch level => loadDemandOp .schedule ch level s
  | .heat mode => heatOp setSchedMode mode s
  | .scene n => sceneRecallOp n s
  | .move ring act target =>
    let r := postCodes ring act target (some true) .schedule s
    (r.1, r.2.2)
  | .note => (.accepted, s)

/-- R182: SPENT, or the first due instant not yet reached, with the missed periods counted. The periods
between are added at once: d / p of them have been missed (log 30). -/
def SchedEntry.reschedule (now : Tick) (e : SchedEntry) : SchedEntry :=
  if e.period = 0 then { e with state := .spent }
  else
    match e.due with
    | none => e
    | some t =>
      let k := ticksSince now t / e.period
      { e with
        due := some (t + BitVec.ofNat 32 ((k + 1) * e.period))
        missed := min 255 (e.missed + k) }

/-- R180, R182, R190: a firing with its rescheduling: the action, the outcome, the flag and the wake. -/
def fireEntry (i : Fin 16) (s : State) : State :=
  match (entryAt s i).action with
  | none => s
  | some a =>
    let r := runAction a s
    let e := { entryAt r.2 i with outcome := some r.1 }
    let t := setEntry r.2 i (e.reschedule s.now)
    wake (if e.notify then raiseFlag t .schedFired else t)

/-- R181: no ARMED entry of a lower index has its due instant reached. -/
def firesNext (s : State) (i : Fin 16) : Bool :=
  entryReached s i && !(List.finRange 16).any (fun j => decide (j < i) && entryReached s j)

/-- A firing as one event among several of a command. -/
def fireIfReached (s : State) (i : Fin 16) : State :=
  if entryReached s i then settle s (fireEntry i s) else s

/-- R183: at a time set every ARMED entry is judged, in ascending index. -/
def fireAll (s : State) : State := (List.finRange 16).foldl fireIfReached s

/-- R177, R183: the whole of a time set. -/
def timeSetOp (new : Tick) (input : MeterInput) (s : State) : State :=
  fireAll (settle s (setTimeOp new input s))

/-- R179: an accepted write replaces every field; an entry already reached fires within it. -/
def schedWriteOp (i : Fin 16) (due : Tick) (period : Nat) (a : SchedAction) (notify : Bool)
    (s : State) : State :=
  let t := setEntry s i
    { state := .armed
      due := some due
      period := period
      action := some a
      notify := notify
      outcome := none
      missed := 0 }
  if entryReached t i then fireEntry i t else t

/-- R179: 0, or 16..2,147,483,647 ticks. -/
def periodOk (n : Nat) : Bool :=
  decide (n = 0) || (decide (16 ≤ n) && decide (n ≤ 2147483647))

/-- R184: the entry becomes FREE, without due instant, action, outcome and missed count (0 stands for none, log
25). Its period and notify setting are without meaning there. -/
def SchedEntry.freed (e : SchedEntry) : SchedEntry :=
  { e with state := .free, due := none, action := none, outcome := none, missed := 0 }

def schedFreeOp (i : Fin 16) (s : State) : State := setEntry s i (entryAt s i).freed

def schedFreeAll (s : State) : State :=
  s.setTime { s.time with schedule := vmap (fun _ e => e.freed) s.time.schedule }

end Sys2Proof.Machine
end

