-- ==== Sys2Proof/Machine/Tanks.lean ====
section
/-! DEFINITION. The Tank and Frost Unit: sender conversions and levels, threshold states, the pump, the
two frost controllers with their demands, and the drain (R90 to R112). -/

namespace Sys2Proof.Machine

/-! ## Tank records (R90 to R94) -/

def allTanks : List (Fin 3) := List.finRange 3

def tankRec (s : State) (i : Fin 3) : TankRec := s.tanks.recs[i]

def setTank (s : State) (i : Fin 3) (t : TankRec) : State :=
  s.setTanks { s.tanks with recs := vput s.tanks.recs i t }

/-- 0 and 4095 are rail readings (R90). -/
def railSender (raw : Nat) : Bool := decide (raw = 0) || decide (raw = 4095)

/-- R91: clamp(floor((raw − empty_raw) × 1000 / (full_raw − empty_raw)), 0, 1000). -/
def levelOf (p : Params) (i : Fin 3) (raw : Nat) : Nat :=
  (clampInt (floorDiv (((raw : Int) - p.emptyRaw i) * 1000) (p.fullRaw i - p.emptyRaw i)) 0 1000).toNat

/-- R92: the level enters the window at its end; the oldest of 8 is removed first. A window of 8 levels
makes the source PARKED. -/
def TankRec.enter (t : TankRec) (level : Nat) : TankRec :=
  let w := (if t.window.length < 8 then t.window else t.window.drop 1) ++ [level]
  { t with window := w, source := if w.length = 8 then .parked else t.source }

/-- R90, R92, R93: one conversion of one sender. -/
def TankRec.convert (p : Params) (i : Fin 3) (ignition : Bool) (raw : Nat) (t : TankRec) : TankRec :=
  if railSender raw then { t with raw := raw, sender := .absent }
  else
    let u := { t with raw := raw, sender := .present }
    if ignition then u else u.enter (levelOf p i raw)

/-- R94: the bounds of a tank's threshold state: set, and clear. -/
def thresholdSets (p : Params) (i : Fin 3) (l : Nat) : Bool :=
  if i = 0 then decide (l ≤ p.freshLow)
  else if i = 1 then decide (p.greyFull ≤ l)
  else decide (p.blackFull ≤ l)

def thresholdClears (p : Params) (i : Fin 3) (l : Nat) : Bool :=
  if i = 0 then decide (p.freshLow + p.levelHysteresis ≤ l)
  else if i = 1 then decide (l + p.levelHysteresis ≤ p.greyFull)
  else decide (l + p.levelHysteresis ≤ p.blackFull)

/-- R94: an unknown level in use sets no threshold state and clears none. -/
def TankRec.judge (p : Params) (i : Fin 3) (t : TankRec) : TankRec :=
  match levelInUse t with
  | none => t
  | some l =>
    if thresholdSets p i l then { t with threshold := true }
    else if thresholdClears p i l then { t with threshold := false }
    else t

/-- Every threshold state is decided again; with an unchanged level in use this changes nothing. -/
def judgeTanks (s : State) : State :=
  s.setTanks { s.tanks with recs := vmap (fun i t => t.judge s.params i) s.tanks.recs }

/-- R90: the three senders are converted together. -/
def senderConvert (raw : Fin 3 → Nat) (s : State) : State :=
  let ignition := eventActive s .ignitionOn
  let t := s.setTanks
    { s.tanks with
      recs := vmap (fun i x => x.convert s.params i ignition (raw i)) s.tanks.recs
      senderDue := some (s.ahead 16) }
  enforcePumpGuard (judgeTanks t)

/-- The source becomes HELD with the present level in use; a HELD source keeps its level (R91, R93). -/
def TankRec.hold (t : TankRec) : TankRec :=
  match t.source with
  | .parked => { t with source := .held (levelInUse t) }
  | .held _ => t

/-- R93: a rising edge of IGNITION_ON holds every level. -/
def ignitionHold (s : State) : State :=
  s.setTanks { s.tanks with recs := vmap (fun _ t => t.hold) s.tanks.recs }

/-- R93: a falling edge empties every window. -/
def ignitionRefill (s : State) : State :=
  s.setTanks { s.tanks with recs := vmap (fun _ t => { t with window := [] }) s.tanks.recs }

/-- R91: an accepted calibration write empties the window and holds the level in use. -/
def recalibrateTank (i : Fin 3) (s : State) : State :=
  setTank s i { (tankRec s i).hold with window := [] }

/-- R94, R98: a write of a threshold, of the hysteresis, of the dry limit or of the grey guard. -/
def tankParamsFollow (s : State) : State := enforcePumpGuard (judgeTanks s)

/-! ## Pump (R96, R98, R99) -/

/-- R96: the edges of PUMP_DEMAND. -/
def pumpEdge (rising : Bool) (s : State) : State :=
  if rising then
    if pumpGuard s then s else originEvent s (putOrigin s chPump .switch (some 0))
  else originEvent s (putOrigin s chPump .switch none)

/-- R99: every origin is withdrawn, the latch set and PUMP_FAULT flagged. -/
def pumpExpire (s : State) : State :=
  let t := originEvent s (setOrigins s chPump .empty)
  raiseFlag (t.setTanks { t.tanks with pumpFault := true, pumpDue := none }) .pumpFault

/-- R99: FLAG_CLEAR of PUMP_FAULT while the latch is set. -/
def pumpFaultClear (s : State) : State := s.setTanks { s.tanks with pumpFault := false }

/-! ## Frost controllers (R100 to R105) -/

def frostCtl (s : State) : FrostTank → FrostCtl
  | .fresh => s.tanks.fresh
  | .grey => s.tanks.grey

def setFrost (s : State) (k : FrostTank) (c : FrostCtl) : State :=
  match k with
  | .fresh => s.setTanks { s.tanks with fresh := c }
  | .grey => s.setTanks { s.tanks with grey := c }

/-- R101: the rule of the table that applies to a state and a reading, if any. -/
def frostRule (p : Params) (st : FrostState) (t : Int) : Option FrostState :=
  match st with
  | .safe => if t ≤ p.watchEntry then some .watch else none
  | .watch =>
    if t ≤ p.guardEntry then some .guard else if p.watchExit ≤ t then some .safe else none
  | .guard => if p.guardExit ≤ t then some .watch else none
  | .danger => if p.dangerRelease ≤ t then some .guard else none
  | .drained => none

/-- R101: the rules in turn until none applies. The six temperatures ascend strictly (R109), so a
reading crosses at most three states. -/
def frostMove (p : Params) (t : Int) : Nat → FrostState → FrostState
  | 0, st => st
  | n + 1, st =>
    match frostRule p st t with
    | none => st
    | some st' => frostMove p t n st'

/-- R103: the danger due instant after a conversion with reading `t`. -/
def coldRun (p : Params) (now : Tick) (t : Int) (c : FrostCtl) : FrostCtl :=
  if c.state = .guard && decide (t ≤ p.dangerTemperature) then
    if c.dangerDue.isSome then c
    else { c with dangerDue := some (now + BitVec.ofNat 32 (p.drainDelay * 16)) }
  else { c with dangerDue := none }

/-- R104: an absent sensor is treated as GUARD at least, and no cold run is timed. -/
def FrostCtl.lost (c : FrostCtl) : FrostCtl :=
  { c with
    sensor := .absent
    dangerDue := none
    state :=
      match c.state with
      | .safe => .guard
      | .watch => .guard
      | .guard => .guard
      | .danger => .danger
      | .drained => .drained }

/-- R100, R101, R103, R104: one conversion of one controller's sensor. -/
def FrostCtl.convert (p : Params) (now : Tick) (t : Int) (c : FrostCtl) : FrostCtl :=
  if railTemperature t then c.lost
  else
    coldRun p now t
      { c with sensor := .present, reading := some t, state := frostMove p t 4 c.state }

/-- GUARD or DANGER: the states that place FROST (R102). -/
def asksFrost (st : FrostState) : Bool := decide (st = .guard) || decide (st = .danger)

/-- R102: the origins of a tank's pad record. -/
def padOrigins (st : FrostState) : OriginSet :=
  { OriginSet.empty with
    thermostat := if st = .watch then some 0 else none
    frost := if asksFrost st then some 0 else none }

def padChannel : FrostTank → Channel
  | .fresh => chFreshPad
  | .grey => chGreyPad

/-- R102: the pad record follows its controller, as one re-evaluation event. -/
def syncPad (k : FrostTank) (s : State) : State :=
  reevaluate s (setOrigins s (padChannel k) (padOrigins (frostCtl s k).state))

/-- R102: the heater's FROST origin follows both controllers. -/
def syncHeaterFrost (s : State) : State :=
  setFrostOrigin (asksFrost s.tanks.fresh.state || asksFrost s.tanks.grey.state) s

/-- R102: the demands of both controllers, in the order given. -/
def frostDemands (order : List HandOff) (s : State) : State :=
  inOrder order
    [(.padFresh, syncPad .fresh), (.padGrey, syncPad .grey), (.frostHeater, syncHeaterFrost)] s

/-- R102: a move to a later state of either controller. -/
def escalated (before s : State) : Bool :=
  decide (before.tanks.fresh.state.code < s.tanks.fresh.state.code) ||
    decide (before.tanks.grey.state.code < s.tanks.grey.state.code)

/-- R102, R105: what follows a move of the controllers from `before`: the hand-offs, in the order given,
and the wake of an escalation (R190). The pump's withdrawal comes before them, so that no walk of theirs
grants a pump that the guard holds (R98, log 46). -/
def frostFollow (before : State) (order : List HandOff) (s : State) : State :=
  let t := frostDemands order (enforcePumpGuard s)
  if escalated before s then wake t else t

/-- R100: both sensors are converted together. -/
def temperatureConvert (fresh grey : Int) (order : List HandOff) (s : State) : State :=
  frostFollow s order
    (s.setTanks
      { s.tanks with
        fresh := s.tanks.fresh.convert s.params s.now fresh
        grey := s.tanks.grey.convert s.params s.now grey
        tempDue := s.ahead (conversionTicks s) })

/-- R105: the fresh controller enters DRAINED. -/
def enterDrained (s : State) : State :=
  s.setTanks { s.tanks with fresh := { s.tanks.fresh with state := .drained, dangerDue := none } }

/-- R106: DRAIN_OPEN. -/
def drainOpenOp (order : List HandOff) (s : State) : State :=
  if s.tanks.fresh.state = .drained then s else frostFollow s order (enterDrained s)

/-- R107: the condition of DRAIN_CLOSE. -/
def drainMayClose (s : State) : Bool :=
  decide (s.tanks.fresh.sensor = .present) &&
    s.tanks.fresh.reading.any (fun t => decide (s.params.watchExit ≤ t))

/-- R107: a DRAINED controller enters SAFE. -/
def drainCloseOp (order : List HandOff) (s : State) : State :=
  if s.tanks.fresh.state = .drained then
    frostFollow s order
      (s.setTanks { s.tanks with fresh := { s.tanks.fresh with state := .safe } })
  else s

/-- R103: the danger due instant of a controller is reached. -/
def dangerOp (k : FrostTank) (order : List HandOff) (s : State) : State :=
  if k = .fresh && s.params.autoDrain then frostFollow s order (enterDrained s)
  else frostFollow s order (setFrost s k { frostCtl s k with state := .danger, dangerDue := none })

/-- R103: auto-drain written to on while the fresh controller is in DANGER. -/
def autoDrainFollow (order : List HandOff) (s : State) : State :=
  if s.params.autoDrain && s.tanks.fresh.state = .danger then
    frostFollow s order (enterDrained s)
  else s

/-! ## Restart (R112) -/

/-- R112: the unit re-asserts what its controllers' states require. R54 and R112 give the pads and the heater no
order among themselves, so it is that of the operand (log 3). -/
def tanksRestart (order : List HandOff) (s : State) : State := frostDemands order s

end Sys2Proof.Machine
end

