-- ==== Sys2Proof/Machine/Restart.lean ====
section
/-! DEFINITION. The restart of every block (R27, R54, R70, R89, R112, R136, R155, R170, R185, R192,
R210). -/

namespace Sys2Proof.Machine

/-- R54: only FROST origins stay, with their records in the grant order; marks and counters go, and B is
recomputed from the kept band and event states. -/
def tableRestart (s : State) : State :=
  let t := s.setTable
    { s.table with
      recs := vmap
        (fun _ r => { LoadRec.reset with origins := { OriginSet.empty with frost := r.origins.frost } })
        s.table.recs
      waiting := []
      granted := s.table.granted.filter (fun ch => (origins s ch).frost.isSome)
      overdraw := 0
      clear := 0 }
  t.setTable { t.table with budget := budgetNow t }

/-- R70: every lamp dark and STEADY; the scenes are kept. -/
def lampsRestart (s : State) : State :=
  s.setLamps { s.lamps with chans := Vector.replicate 6 .reset, entryDue := none }

/-- R54, R112: the pump's origins are withdrawn, which removes its due instant. -/
def pumpRestart (s : State) : State := s.setTanks { s.tanks with pumpDue := none }

/-- R185, R192: the schedule is FREE, an entry to the Dormant state is abandoned, and the idle due
instant is set anew. -/
def timeRestart (s : State) : State :=
  touchIdle
    (s.setTime
      { s.time with
        schedule := Vector.replicate 16 .free
        power := if s.time.power = .entering then .leaving else s.time.power })

/-- R89, R112: each owner whose latch is set sets its latch flag again. -/
def reflagLatches (s : State) : State :=
  let t := if s.heater.latch then raiseFlag s .heaterLockout else s
  if t.tanks.pumpFault then raiseFlag t .pumpFault else t

/-- R54: what the owners present as they restart, in the order given. -/
def presentAll (order : List HandOff) (s : State) : State :=
  inOrder order
    [(.restartTanks, tanksRestart order), (.restartHeater, heaterRestart), (.restartDrive, presentBraking)] s

/-- R143: while IGNITION_ON is active, the override of each actuator not stowed is raised as the restart
completes. -/
def restartOverrides (s : State) : State := if eventActive s .ignitionOn then raiseAllOut s else s

/-- R210: the restart of every block (log 21). -/
def restartOp (order : List HandOff) (s : State) : State :=
  let t := timeRestart (pumpRestart (driveRestart (lampsRestart (tableRestart (linkRestart s)))))
  arbitrate (restartOverrides (reflagLatches (presentAll order t)))

end Sys2Proof.Machine
end

