-- ==== Sys2Proof/Machine/Signals.lean ====
section
/-! DEFINITION. The Signal Map: debounce, the forming of events and their hand-off to the owners, the
writing of pin records, the output events and the drive of the pins (R156 to R171). -/

namespace Sys2Proof.Machine

/-! ## Debounce (R160, R162) -/

/-- R156: the level read through the polarity. -/
def Pin.converted (p : Pin) (level : Bool) : Bool :=
  match p.polarity with
  | .activeHigh => level
  | .activeLow => !level

/-- R162: the debounce count of an event's class at the fast and at the slow-step rate. -/
def debounceCount (e : InputEvent) (power : PowerState) : Nat :=
  let slow := decide (power = .dormant)
  match e with
  | .ignitionOn => if slow then 4 else 500
  | .shorePresent => if slow then 16 else 2000
  | .estop => if slow then 2 else 20
  | _ => if slow then 2 else 50

/-- The input event that a pin is bound to. -/
def Pin.inputEvent (p : Pin) : Option InputEvent :=
  match p.event with
  | some (.input e) => some e
  | some (.output _) => none
  | none => none

/-- R160: the binding of a SETTLING pin after one sample. -/
def settleSample (need : Nat) (reference : Option Bool) (count : Nat) (level : Bool) : PinBinding :=
  if reference = some level then
    if need ≤ count + 1 then .joined level 0 else .settling reference (count + 1)
  else if need ≤ 1 then .joined level 0
  else .settling (some level) 1

/-- R162: the binding of a JOINED pin after one sample. -/
def joinedSample (need : Nat) (contribution : Bool) (count : Nat) (level : Bool) : PinBinding :=
  if level = contribution then .joined contribution 0
  else if need ≤ count + 1 then .joined level 0
  else .joined contribution (count + 1)

/-- R160: samples of a SETTLING pin, oldest first, until it joins (log 29). -/
def settleSamples (need : Nat) : List Bool → PinBinding → PinBinding
  | [], b => b
  | x :: xs, .settling r n => settleSamples need xs (settleSample need r n x)
  | _ :: _, .joined c n => .joined c n
  | _ :: _, .unbound => .unbound

/-- R162: samples of a JOINED pin, oldest first, until its contribution changes (log 29). -/
def joinedSamples (need : Nat) : List Bool → PinBinding → PinBinding
  | [], b => b
  | x :: xs, .joined c n =>
    match joinedSample need c n x with
    | .joined c' n' => if c' = c then joinedSamples need xs (.joined c n') else .joined c' n'
    | b => b
  | _ :: _, .settling r n => .settling r n
  | _ :: _, .unbound => .unbound

def pinAt (s : State) (i : Fin 16) : Pin := s.pins[i]

def setPin (s : State) (i : Fin 16) (p : Pin) : State := s.setPins (vput s.pins i p)

def setBinding (s : State) (i : Fin 16) (b : PinBinding) : State :=
  setPin s i { pinAt s i with binding := b }

/-! ## The owners of the input events (R164) -/

/-- R93. -/
def ignitionTanksEdge (rising : Bool) (s : State) : State :=
  if rising then ignitionHold s else ignitionRefill s

/-- R93, R133, R143: an edge of IGNITION_ON. The abort and the raises precede the arbiter (log 23). -/
def ignitionEdge (rising : Bool) (order : List HandOff) (s : State) : State :=
  if rising then
    arbitrate
      (inOrder order
        [(.ignitionTanks, ignitionTanksEdge true), (.ignitionDrive, ignitionAbort),
          (.ignitionMotion, raiseAllOut)] s)
  else ignitionTanksEdge false s

/-- R62, R152: an edge of DOOR_OPEN. -/
def doorEdge (rising : Bool) (order : List HandOff) (s : State) : State :=
  inOrder order [(.doorLamps, entryDoor rising), (.doorMotion, doorStep rising)] s

/-- What an edge does at the owners of its event (R164). `before` is the state before the pin's change. -/
def edgeAct (before : State) (e : InputEvent) (rising : Bool) (order : List HandOff) (s : State) :
    State :=
  match e with
  | .ignitionOn => ignitionEdge rising order s
  | .shorePresent => recomputeBudget s
  | .doorOpen => doorEdge rising order s
  | .estop => if rising then arbitrate (emergencyStop s) else s
  | .loadLimit => recomputeBudget s
  | .windPulse => if rising then windCount s else s
  | .stepSwitch => if rising then stepPress s else s
  | .awningOutSwitch => if rising then switchPost .awning .extend s else s
  | .awningInSwitch => if rising then switchPost .awning .retract s else s
  | .lightSwitch n => if rising then wallPress n s else s
  | .sceneSelect => sceneSelectEdge rising s
  | .pumpDemand => pumpEdge rising s
  | .heaterFlame => if rising then s else flameLoss s
  | .stepInLimit => positionFollow before (stepInEdge rising s)
  | .stepOutLimit => positionFollow before (stepOutEdge rising s)
  | .awningInLimit => awningEdgeFollow rising before (awningInEdge rising s)
  | .wake => s

/-- A mapping change of a limit switch that comes without an edge (an edge has been acted on already). -/
def limitMapping (before : State) (e : InputEvent) (s : State) : State :=
  if eventActive before e = eventActive s e then positionFollow before s else s

/-- What a mapping change does at the owners of its event, beside the edge that comes with it. -/
def mappingAct (before : State) (e : InputEvent) (s : State) : State :=
  match e with
  | .windPulse => if eventMapped s .windPulse then s else windUnmapped s
  | .stepInLimit => limitMapping before e s
  | .stepOutLimit => limitMapping before e s
  | .awningInLimit => limitMapping before e s
  | .ignitionOn => s
  | .shorePresent => s
  | .doorOpen => s
  | .estop => s
  | .loadLimit => s
  | .stepSwitch => s
  | .awningOutSwitch => s
  | .awningInSwitch => s
  | .lightSwitch _ => s
  | .sceneSelect => s
  | .pumpDemand => s
  | .heaterFlame => s
  | .wake => s

/-- R167: the events whose edges wake whatever the wake flags. -/
def alwaysWakes : InputEvent → Bool
  | .ignitionOn => true
  | .shorePresent => true
  | .estop => true
  | _ => false

/-- R161, R167, R187: the event `e` is formed again after pin `i` has changed it from `before`; an edge
and a mapping change go to the owners as one hand-off, an edge sets the idle due instant again (but one
of WAKE, log 19), and wakes the part where R167 says so. -/
def formEvent (i : Fin 16) (e : InputEvent) (order : List HandOff) (before s : State) : State :=
  let rising := eventActive s e
  let edge := decide (eventActive before e ≠ rising)
  let mapping := decide (eventMapped before e ≠ eventMapped s e)
  let wakes := edge && (alwaysWakes e || (pinAt s i).wake)
  let t := if edge then edgeAct before e rising order s else s
  let t := if mapping then mappingAct before e t else t
  let t := if edge && decide (e ≠ .wake) then touchIdle t else t
  if wakes then wake t else t

/-- R160, R162: the change of a pin's binding, and what it makes of its event. -/
def changeBinding (i : Fin 16) (b : PinBinding) (order : List HandOff) (s : State) : State :=
  match (pinAt s i).inputEvent with
  | none => s
  | some e => formEvent i e order s (setBinding s i b)

/-- R160: samples of a SETTLING pin. -/
def joinOp (i : Fin 16) (samples : List Bool) (order : List HandOff) (s : State) : State :=
  match (pinAt s i).inputEvent with
  | none => s
  | some e =>
    changeBinding i
      (settleSamples (debounceCount e s.time.power) (samples.map (pinAt s i).converted)
        (pinAt s i).binding) order s

/-- R162: samples of a JOINED pin. -/
def debounceOp (i : Fin 16) (samples : List Bool) (order : List HandOff) (s : State) : State :=
  match (pinAt s i).inputEvent with
  | none => s
  | some e =>
    changeBinding i
      (joinedSamples (debounceCount e s.time.power) (samples.map (pinAt s i).converted)
        (pinAt s i).binding) order s

def Pin.isSettling (p : Pin) : Bool :=
  match p.binding with
  | .unbound => false
  | .settling _ _ => true
  | .joined _ _ => false

def Pin.isJoined (p : Pin) : Bool :=
  match p.binding with
  | .unbound => false
  | .settling _ _ => false
  | .joined _ _ => true

/-- R162: a JOINED pin of an event other than WIND_PULSE is sampled. -/
def Pin.isSampled (p : Pin) : Bool :=
  p.isJoined && p.inputEvent.any (fun e => decide (e ≠ .windPulse))

/-- R163: a JOINED WIND_PULSE pin follows its level at once. -/
def Pin.isPulse (p : Pin) : Bool := p.isJoined && decide (p.inputEvent = some .windPulse)

/-- R163. -/
def pulseOp (i : Fin 16) (level : Bool) (s : State) : State :=
  changeBinding i (.joined ((pinAt s i).converted level) 0) [] s

/-! ## Pin records (R157 to R159) -/

def PinMode.isInput : PinMode → Bool
  | .off => false
  | .input => true
  | .inputPullup => true
  | .pushPull => false
  | .openDrain => false

def PinMode.isOutput : PinMode → Bool
  | .off => false
  | .input => false
  | .inputPullup => false
  | .pushPull => true
  | .openDrain => true

/-- R157. -/
def validCombination (m : PinMode) (e : Option PinEvent) : Bool :=
  match e with
  | none => !m.isOutput
  | some (.input _) => m.isInput
  | some (.output _) => m.isOutput

def isDriveEvent (e : OutputEvent) : Bool :=
  decide (e = .motorSupply) || decide (e = .stepSelect) || decide (e = .awningSelect)

/-- The binding of a drive event that a record makes, with its mode and polarity. -/
def driveBinding (p : Pin) : Option (OutputEvent × PinMode × Polarity) :=
  match p.event with
  | some (.output e) => if isDriveEvent e then some (e, p.mode, p.polarity) else none
  | some (.input _) => none
  | none => none

/-- R158: the record would add, remove or change a drive binding while a motor may carry current. -/
def pinBusy (s : State) (old new : Pin) : Bool :=
  decide (s.drive.stage ≠ .idle) && decide (s.drive.stage ≠ .gap) &&
    decide (driveBinding old ≠ driveBinding new)

/-- R158, R217: the record of a PIN_MAP, UNBOUND; none where it is refused RANGE. -/
def parsePin (mode polarity event wakeFlag : Byte) : Option Pin :=
  match PinMode.ofCode mode, Polarity.ofCode polarity, PinEvent.ofCode event, parseFlag wakeFlag with
  | some m, some p, some e, some w =>
    if validCombination m e then some ⟨m, p, e, w, .unbound⟩ else none
  | _, _, _, _ => none

/-- R159: the binding is kept: the same input event in an input mode, or the same output event in an
output mode (a valid record has no other mode). -/
def keepsBinding (old new : Pin) : Bool := old.event.isSome && decide (old.event = new.event)

/-- R160: what a new binding begins with. -/
def newBinding (p : Pin) (level : Bool) : PinBinding :=
  match p.inputEvent with
  | none => .unbound
  | some .windPulse => .joined (p.converted level) 0
  | some _ => .settling none 0

/-- The event of the old record is formed again after its pin has left it. -/
def releaseForm (i : Fin 16) (old : Pin) (order : List HandOff) (before s : State) : State :=
  match old.inputEvent with
  | none => s
  | some e => formEvent i e order before s

/-- R159: the release of the old binding and the making of the new one. A kept WIND_PULSE binding whose
polarity changes takes its new converted level at once (R163, log 17). A kept binding in SETTLING keeps its
reference level too (log 48: the model's choice). -/
def pinMapOp (i : Fin 16) (new : Pin) (level : Bool) (order : List HandOff) (s : State) : State :=
  let old := pinAt s i
  if keepsBinding old new then
    let t := setPin s i { new with binding := old.binding }
    if old.isPulse && decide (old.polarity ≠ new.polarity) then
      formEvent i .windPulse order s (setBinding t i (.joined (new.converted level) 0))
    else t
  else
    let t := releaseForm i old order s (setPin s i new)
    changeBinding i (newBinding new level) order t

/-! ## Output events and pin drive (R113, R165, R166) -/

/-- The stage states in which the motor supply is on (R113, R165). -/
def supplyOn (st : StageState) : Bool := afterWaking st || decide (st = .braking)

def ownsSupply (s : State) (a : Actuator) : Bool :=
  supplyOn s.drive.stage && s.drive.owner.any (fun o => decide (o.actuator = a))

/-- R165. -/
def outputActive (s : State) : OutputEvent → Bool
  | .lowBattery => decide (s.meter.band = .reserve) || decide (s.meter.band = .critical)
  | .bandBit0 => decide (s.meter.band.code % 2 = 1)
  | .bandBit1 => decide (2 ≤ s.meter.band.code)
  | .roadWarning => roadUnsafe s
  | .attention => attention s
  | .chargeInhibit => s.meter.chargeInhibit
  | .drainValve => decide (s.tanks.fresh.state = .drained)
  | .pumpRelay => isGranted s chPump
  | .freshPadOn => isGranted s chFreshPad
  | .greyPadOn => isGranted s chGreyPad
  | .heaterRun => decide (s.heater.state = .starting) || decide (s.heater.state = .running)
  | .aux0Out => isGranted s chAux0
  | .aux1Out => isGranted s chAux1
  | .motorSupply => supplyOn s.drive.stage
  | .stepSelect => ownsSupply s .step
  | .awningSelect => ownsSupply s .awning

/-- HIGH, LOW, or high impedance. -/
inductive Drive where
  | low
  | high
  | released
  deriving DecidableEq, Repr

/-- R166: the drive of an output pin from its event's state. -/
def driveLevel (m : PinMode) (p : Polarity) (active : Bool) : Drive :=
  let high := active == decide (p = .activeHigh)
  match m with
  | .pushPull => if high then .high else .low
  | .openDrain => if high then .released else .low
  | .off => .released
  | .input => .released
  | .inputPullup => .released

/-- R157, R166: how a pin is driven. -/
def pinDrive (s : State) (i : Fin 16) : Drive :=
  match (pinAt s i).event with
  | some (.output e) => driveLevel (pinAt s i).mode (pinAt s i).polarity (outputActive s e)
  | some (.input _) => .released
  | none => .released

/-- The condition of the H-bridge (R113). -/
inductive Bridge where
  | off
  | driven (d : Direction)
  | braked
  deriving DecidableEq, Repr

def Direction.reverse : Direction → Direction
  | .extend => .retract
  | .retract => .extend

/-- R113. -/
def bridge (s : State) : Bridge :=
  match s.drive.stage, s.drive.direction with
  | .running, some d => .driven d
  | .backing, some d => .driven d.reverse
  | .braking, _ => .braked
  | _, _ => .off

/-- How many pins an output event drives (R168). -/
def pinsDriving (s : State) (e : OutputEvent) : Nat :=
  ((vlist s.pins).filter (fun p => decide (p.event = some (.output e)))).length

end Sys2Proof.Machine
end

