-- ==== Sys2Proof/WellFormed.lean ====
section
/-! DEFINITION. Which commands the equipment can give: every converter reading in the range the manual
gives its converter, every payload within the 58 bytes of a frame (R195). Sys2Proof/Tests/Slice0.lean
shows each check refuse an ill-formed term. -/

namespace Sys2Proof

/-- A temperature converter returns −400..+850 tenths of °C (R5, R75, R100). -/
def temperatureOk (t : Int) : Bool := decide (-400 ≤ t) && decide (t ≤ 850)

/-- A tank sender converter returns 0..4095 (R90). -/
def senderOk (raw : Nat) : Bool := decide (raw ≤ 4095)

/-- A payload holds 0 to 58 bytes (R195). -/
def payloadOk (payload : List Byte) : Bool := decide (payload.length ≤ 58)

/-- A frame of an unknown kind has a kind code that the table of R217 does not give to a request: 0,
or above 30 (the NOTICE code 64 and every code of 128 and above among them). -/
def unknownKindOk (kind : Byte) : Bool := decide (kind.toNat = 0) || decide (30 < kind.toNat)

/-- The check of one command. -/
def Instr.wellFormed : Instr → Bool
  | .summary _ p => payloadOk p
  | .paramWrite _ p _ => payloadOk p
  | .paramRead _ p => payloadOk p
  | .loadDemand _ p => payloadOk p
  | .loadQuery _ p => payloadOk p
  | .heatMode _ p => payloadOk p
  | .movePost _ p => payloadOk p
  | .moveCancel _ p => payloadOk p
  | .moveQuery _ p => payloadOk p
  | .schedWrite _ p => payloadOk p
  | .schedRead _ p => payloadOk p
  | .schedFree _ p => payloadOk p
  | .pinMap _ p _ _ => payloadOk p
  | .pinRead _ p _ => payloadOk p
  | .tankQuery _ p => payloadOk p
  | .meterQuery _ p => payloadOk p
  | .flagClear _ p => payloadOk p
  | .noticeMask _ p => payloadOk p
  | .drainOpen _ p _ => payloadOk p
  | .drainClose _ p _ => payloadOk p
  | .accountSet _ p => payloadOk p
  | .accountFull _ p => payloadOk p
  | .sceneRecall _ p => payloadOk p
  | .sceneStore _ p => payloadOk p
  | .timeSet _ p input => payloadOk p && temperatureOk input.temperature
  | .timeQuery _ p => payloadOk p
  | .recalibrate _ p => payloadOk p
  | .dormant _ p => payloadOk p
  | .restart _ p => payloadOk p
  | .hold _ p => payloadOk p
  | .startByte => true
  | .validFrame _ => true
  | .frameDiscard _ _ => true
  | .receiveTimeout => true
  | .noticeBegin => true
  | .transmitEnd => true
  | .restartPerform _ => true
  | .holdEnd => true
  | .hostSilence => true
  | .powerOnReset => true
  | .intervalEnd input => temperatureOk input.temperature
  | .fadeEnd _ => true
  | .entryHoldEnd => true
  | .cabinConversion t => temperatureOk t
  | .glowEnd => true
  | .purgeEnd => true
  | .senderConversion f g b => senderOk f && senderOk g && senderOk b
  | .temperatureConversion f g _ => temperatureOk f && temperatureOk g
  | .dangerDue _ _ => true
  | .pumpRunExpiry => true
  | .grantWaitExpiry => true
  | .settleEnd => true
  | .motorStall => true
  | .backoffEnd => true
  | .retryWaitEnd => true
  | .motionTimeout => true
  | .destinationReached => true
  | .brakeHoldEnd => true
  | .gapTimerEnd => true
  | .windWindowEnd => true
  | .windPulse _ _ => true
  | .pinJoin _ _ _ => true
  | .debounceComplete _ _ _ => true
  | .scheduleFire _ => true
  | .idleDue => true
  | .dormantEntry input => temperatureOk input.temperature
  | .leavingToActive input => temperatureOk input.temperature
  | .calibrationEnd _ => true
  | .calibrationNoSteps => true
  | .deviceTimeAdvance _ input => temperatureOk input.temperature
  | .driveMillisecond _ => true
  | .unknownKindRequest kind _ p => unknownKindOk kind && payloadOk p

end Sys2Proof
end

