-- ==== Sys2Proof/Machine/Events.lean ====
section
/-! DEFINITION. The meanings of the rows that are no requests: what the line, the clocks, the converters,
the pins and the motor bring about. A command whose condition does not hold changes nothing (log 1). -/

namespace Sys2Proof.Machine

/-! ## The line -/

/-- START_BYTE (R195, R196): a byte of value 165 taken in HUNT. -/
def execStartByte (s : State) : Host.Outcome State Fault Refusal :=
  perform s (decide (s.link.rx = .hunt)) (wakeIfStarted true (s.setLink (s.link.feed 165#8).1))

/-- VALID_FRAME (R196, R197). -/
def execValidFrame (bytes : List Byte) (s : State) : Host.Outcome State Fault Refusal :=
  perform s (receiveFrame bytes s).isSome ((receiveFrame bytes s).getD s)

/-- FRAME_DISCARD (R194, R195). -/
def execFrameDiscard (bytes : List Byte) (framing : Bool) (s : State) :
    Host.Outcome State Fault Refusal :=
  perform s (discardFrame bytes framing s).isSome ((discardFrame bytes framing s).getD s)

/-- RECEIVE_TIMEOUT (R195). -/
def execReceiveTimeout (s : State) : Host.Outcome State Fault Refusal :=
  perform s (decide (s.link.rx ≠ .hunt)) (s.setLink s.link.hunting)

/-- NOTICE_BEGIN (R204, R220). -/
def execNoticeBegin (s : State) : Host.Outcome State Fault Refusal :=
  match noticeLevel s with
  | none => perform s false s
  | some l => perform s (mayNotice s) (beginNotice l s)

/-- TRANSMIT_END (R200). -/
def execTransmitEnd (s : State) : Host.Outcome State Fault Refusal :=
  perform s (decide (s.link.tx ≠ .free)) (transmitEndOp s)

/-- RESTART_PERFORM (R210). A restart is not taken in DORMANT (R192). -/
def execRestartPerform (order : List HandOff) (s : State) : Host.Outcome State Fault Refusal :=
  perform s (restartDue s && decide (s.time.power ≠ .dormant)) (restartOp order s)

/-- HOLD_END (R206): the last slot of a hold passes, and the hold timer reaches 0. The timer stands still
in DORMANT. -/
def execHoldEnd (s : State) : Host.Outcome State Fault Refusal :=
  perform s (decide (s.link.hold = 1) && decide (s.time.power ≠ .dormant))
    (s.setLink { s.link with hold := 0 })

/-- HOST_SILENCE (R208, R50). -/
def execHostSilence (s : State) : Host.Outcome State Fault Refusal :=
  perform s (decide (s.link.silence = some 0))
    (withdrawSilentHost
      (raiseFlag (s.setLink { s.link with silence := none, attended := .unattended }) .hostSilence))

/-- POWER_ON_RESET (R25, R53, R70, R88, R111, R135, R155, R169, R185, R192, R211, R212). The queue is the
model's own and stays. -/
def execPowerOnReset (s : State) : Host.Outcome State Fault Refusal :=
  .next (State.reset.setPending s.pending)

/-! ## Meter, lamps, heater, tanks -/

/-- INTERVAL_END (R2, R7). -/
def execIntervalEnd (input : MeterInput) (s : State) : Host.Outcome State Fault Refusal :=
  if temperatureOk input.temperature then
    perform s (intervalDue s)
      (closeInterval input.temperature input.order s.now (accumulate input.samples s))
  else .refused (.illFormed "INTERVAL_END")

/-- FADE_END (R59). -/
def execFadeEnd (channel : Fin 6) (s : State) : Host.Outcome State Fault Refusal :=
  perform s (fadeDone s channel) (fadeEndOp channel s)

/-- ENTRY_HOLD_END (R63). -/
def execEntryHoldEnd (s : State) : Host.Outcome State Fault Refusal :=
  perform s (dueReached s.now s.lamps.entryDue) (entryWithdraw s)

/-- CABIN_CONVERSION (R75). -/
def execCabinConversion (temperature : Int) (s : State) : Host.Outcome State Fault Refusal :=
  if temperatureOk temperature then
    perform s (reached s.now s.heater.cabinDue) (cabinConvert temperature s)
  else .refused (.illFormed "CABIN_CONVERSION")

/-- GLOW_END (R79). -/
def execGlowEnd (s : State) : Host.Outcome State Fault Refusal :=
  perform s (decide (s.heater.state = .starting) && dueReached s.now s.heater.glowDue) (glowEndOp s)

/-- PURGE_END (R82). -/
def execPurgeEnd (s : State) : Host.Outcome State Fault Refusal :=
  perform s (decide (s.heater.state = .purging) && dueReached s.now s.heater.purgeDue) (purgeEndOp s)

/-- SENDER_CONVERSION (R90). -/
def execSenderConversion (fresh grey black : Nat) (s : State) : Host.Outcome State Fault Refusal :=
  if senderOk fresh && senderOk grey && senderOk black then
    perform s (dueReached s.now s.tanks.senderDue)
      (senderConvert (fun i => if i = 0 then fresh else if i = 1 then grey else black) s)
  else .refused (.illFormed "SENDER_CONVERSION")

/-- TEMPERATURE_CONVERSION (R100). -/
def execTemperatureConversion (fresh grey : Int) (order : List HandOff) (s : State) :
    Host.Outcome State Fault Refusal :=
  if temperatureOk fresh && temperatureOk grey then
    perform s (reached s.now s.tanks.tempDue) (temperatureConvert fresh grey order s)
  else .refused (.illFormed "TEMPERATURE_CONVERSION")

/-- DANGER_DUE (R103). -/
def execDangerDue (tank : FrostTank) (order : List HandOff) (s : State) :
    Host.Outcome State Fault Refusal :=
  perform s (dueReached s.now (frostCtl s tank).dangerDue) (dangerOp tank order s)

/-- PUMP_RUN_EXPIRY (R99). -/
def execPumpRunExpiry (s : State) : Host.Outcome State Fault Refusal :=
  perform s (dueReached s.now s.tanks.pumpDue) (pumpExpire s)

/-! ## Drive Stage: the expiry rows report that their timer has run out (log 4) -/

/-- GRANT_WAIT_EXPIRY (R114). -/
def execGrantWaitExpiry (s : State) : Host.Outcome State Fault Refusal :=
  perform s (decide (s.drive.stage = .claimed)) (arbitrate (completeOwner .refusedBudget s))

/-- SETTLE_END (R115). -/
def execSettleEnd (s : State) : Host.Outcome State Fault Refusal :=
  perform s (decide (s.drive.stage = .waking)) (enterRunning s)

/-- MOTOR_STALL (R126, R127). -/
def execMotorStall (s : State) : Host.Outcome State Fault Refusal :=
  perform s (stalled s) (arbitrate (stowWatch s (stallOp s)))

/-- BACKOFF_END (R127). -/
def execBackoffEnd (s : State) : Host.Outcome State Fault Refusal :=
  perform s (decide (s.drive.stage = .backing)) (enterRetryWait s)

/-- RETRY_WAIT_END (R127). -/
def execRetryWaitEnd (s : State) : Host.Outcome State Fault Refusal :=
  perform s (decide (s.drive.stage = .retryWait)) (enterRunning s)

/-- MOTION_TIMEOUT (R128). -/
def execMotionTimeout (s : State) : Host.Outcome State Fault Refusal :=
  perform s (timedOut s) (completeOwner .failedTimeout s)

/-- R125: a motion holds the stage and its destination is reached. -/
def destinationDue (s : State) : Bool :=
  holdsStage s.drive.stage && s.drive.owner.any (fun o => (destinationReached s o).isSome)

/-- DESTINATION_REACHED (R125). -/
def execDestinationReached (s : State) : Host.Outcome State Fault Refusal :=
  perform s (destinationDue s) (arbitrate (testDestination s))

/-- BRAKE_HOLD_END (R116). -/
def execBrakeHoldEnd (s : State) : Host.Outcome State Fault Refusal :=
  perform s (decide (s.drive.stage = .braking)) (brakeEndOp s)

/-- GAP_TIMER_END (R116, R118). -/
def execGapTimerEnd (s : State) : Host.Outcome State Fault Refusal :=
  perform s s.drive.gap.isSome (gapEndOp s)

/-- DRIVE_MILLISECOND (R115, R126): a millisecond of the fast oscillator, which is stopped in DORMANT. -/
def execDriveMillisecond (sample : MotorSample) (s : State) : Host.Outcome State Fault Refusal :=
  perform s (decide (s.time.power ≠ .dormant)) (driveMs sample s)

/-! ## Wind and pins -/

/-- WIND_WINDOW_END (R147, R148). -/
def execWindWindowEnd (s : State) : Host.Outcome State Fault Refusal :=
  perform s (reached s.now s.wind.due) (windowEndOp s)

/-- WIND_PULSE (R163): the converted level of a JOINED WIND_PULSE pin changes. -/
def execWindPulse (pin : Fin 16) (level : Bool) (s : State) : Host.Outcome State Fault Refusal :=
  perform s
    ((pinAt s pin).isPulse &&
      decide ((pinAt s pin).binding ≠ .joined ((pinAt s pin).converted level) 0))
    (pulseOp pin level s)

/-- PIN_JOIN (R160). -/
def execPinJoin (pin : Fin 16) (samples : List Bool) (order : List HandOff) (s : State) :
    Host.Outcome State Fault Refusal :=
  perform s (pinAt s pin).isSettling (joinOp pin samples order s)

/-- DEBOUNCE_COMPLETE (R162). -/
def execDebounceComplete (pin : Fin 16) (samples : List Bool) (order : List HandOff) (s : State) :
    Host.Outcome State Fault Refusal :=
  perform s (pinAt s pin).isSampled (debounceOp pin samples order s)

/-! ## Device time and power states -/

/-- SCHEDULE_FIRE (R180, R181). -/
def execScheduleFire (entry : Fin 16) (s : State) : Host.Outcome State Fault Refusal :=
  perform s (firesNext s entry) (fireEntry entry s)

/-- IDLE_DUE (R187). -/
def execIdleDue (s : State) : Host.Outcome State Fault Refusal :=
  perform s (decide (s.time.power = .active) && dueReached s.now s.time.idleDue)
    (enterEntering (touchIdle s))

/-- DORMANT_ENTRY (R188): the slow step in ENTERING with the link quiet. -/
def execDormantEntry (input : MeterInput) (s : State) : Host.Outcome State Fault Refusal :=
  if temperatureOk input.temperature then
    perform s (decide (s.time.power = .entering) && linkQuiet s) (slowStep 0 input s)
  else .refused (.illFormed "DORMANT_ENTRY")

/-- LEAVING_TO_ACTIVE (R191): the slow step in LEAVING. -/
def execLeavingToActive (input : MeterInput) (s : State) : Host.Outcome State Fault Refusal :=
  if temperatureOk input.temperature then
    perform s (decide (s.time.power = .leaving)) (slowStep 0 input s)
  else .refused (.illFormed "LEAVING_TO_ACTIVE")

/-- CALIBRATION_END (R175): the slow step that ends a measurement. -/
def execCalibrationEnd (fastTime : Nat) (s : State) : Host.Outcome State Fault Refusal :=
  perform s (decide (s.time.power = .active) && calibrationLast s) (calibrationStep fastTime s)

/-- CALIBRATION_NO_STEPS (R175). -/
def execCalibrationNoSteps (s : State) : Host.Outcome State Fault Refusal :=
  perform s (calibrationStopped s) (failCalibration s)

/-- DEVICE_TIME_ADVANCE (R172): a tick of the fast oscillator, which moves device time in ACTIVE only, or
a slow step (log 7). -/
def execDeviceTimeAdvance (edge : ClockEdge) (input : MeterInput) (s : State) :
    Host.Outcome State Fault Refusal :=
  if temperatureOk input.temperature then
    match edge with
    | .fastTick => perform s (decide (s.time.power = .active)) (fastTick input s)
    | .slowStep fastTime => perform s true (slowStep fastTime input s)
  else .refused (.illFormed "DEVICE_TIME_ADVANCE")

end Sys2Proof.Machine
end

