-- ==== Sys2Proof/Machine/ParamWrite.lean ====
section
/-! DEFINITION. Writing and reading parameters: ranges, order checks, busy owners, and what each write
does at its owner (R23, R24, R51, R52, R68, R86, R109, R123, R134, R153, R187, R209, R212, R213). -/

namespace Sys2Proof.Machine

/-! ## Judging one pair (R212) -/

/-- `ids` ascend strictly in the values of `p`. -/
def ascending (p : Params) : List Nat → Bool
  | a :: b :: rest => decide (p.val a < p.val b) && ascending p (b :: rest)
  | _ => true

/-- The order checks of the owning rules, on the values as they would stand after the write: thresholds
and floor (R23), setpoints (R86), temperatures and calibration pairs (R109), the stall time (R134). -/
def paramOrderOk (p : Params) (id : Nat) : Bool :=
  if 9 ≤ id ∧ id ≤ 11 then ascending p [11, 10, 9]
  else if id = 15 ∨ id = 17 then ascending p [15, 17]
  else if 59 ≤ id ∧ id ≤ 61 then ascending p [59, 60, 61]
  else if 65 ≤ id ∧ id ≤ 66 then decide (p.val 65 ≠ p.val 66)
  else if 67 ≤ id ∧ id ≤ 68 then decide (p.val 67 ≠ p.val 68)
  else if 69 ≤ id ∧ id ≤ 70 then decide (p.val 69 ≠ p.val 70)
  else if 78 ≤ id ∧ id ≤ 83 then ascending p [82, 83, 80, 81, 78, 79]
  else if id = 94 then decide (p.val 94 % 10 = 0)
  else true

/-- The owner is busy: the ring split (R123), the travel times (R153). -/
def paramBusy (s : State) (id : Nat) : Bool :=
  if id = 86 then anyMotionHeld s
  else if id = 98 then actuatorBusy s .awning
  else if id = 99 then actuatorBusy s .step
  else false

/-- The result of one pair, in the order of the table of R212. -/
def judgeParam (s : State) (id : Nat) (v : Int) : Result :=
  match paramSpec id with
  | none => .range
  | some sp =>
    if v < sp.lo ∨ sp.hi < v ∨ paramOrderOk (s.params.put id v) id = false then .range
    else if paramBusy s id then .busy
    else .accepted

/-! ## What a write does at its owner -/

/-- R63: a write of the entry channel while ENTRY stands withdraws ENTRY from the old channel (log 38);
`s` still holds the old channel. -/
def entryChannelWrite (s : State) : State := if entryStands s then entryWithdraw s else s

/-- R123. -/
def splitFollow (before s : State) : State :=
  if before.params.ringSplit = s.params.ringSplit then s else freeRings s

/-- R153: the actuator's count is rescaled. -/
def travelFollow (a : Actuator) (before s : State) : State :=
  let scale := rescale (travelTime before a) (travelTime s a)
  match a with
  | .awning => s.setAct { s.act with posMs := s.act.posMs.map scale }
  | .step => s.setAct { s.act with stepMs := s.act.stepMs.map scale }

/-- R209: the silence count follows the timeout and the host is ATTENDED. -/
def silenceFollow (s : State) : State := attend s

/-- The owner's action on an accepted write of `id`, from `before`, the state without it, to `s`, which
already holds the new value. A parameter that takes effect at its next use needs none. -/
def paramFollow (id : Nat) (order : List HandOff) (before s : State) : State :=
  if id = 1 then capacityFollow before.params.capacity s
  else if 19 ≤ id ∧ id ≤ 24 then recomputeBudget s
  else if id = 27 then lampsFollowDraw s
  else if 28 ≤ id ∧ id ≤ 42 then reevaluate before s
  else if 43 ≤ id ∧ id ≤ 46 then lampsFollowCap s
  else if id = 47 then (if s.params.fadeRate = 0 then lampsRetarget s else s)
  else if 59 ≤ id ∧ id ≤ 62 then heaterFollow before s
  else if 65 ≤ id ∧ id ≤ 66 then tankParamsFollow (recalibrateTank 0 s)
  else if 67 ≤ id ∧ id ≤ 68 then tankParamsFollow (recalibrateTank 1 s)
  else if 69 ≤ id ∧ id ≤ 70 then tankParamsFollow (recalibrateTank 2 s)
  else if 71 ≤ id ∧ id ≤ 76 then tankParamsFollow s
  else if id = 85 then autoDrainFollow order s
  else if id = 86 then splitFollow before s
  else if id = 98 then arbitrate (stowWatch before (travelFollow .awning before s))
  else if id = 99 then arbitrate (stowWatch before (travelFollow .step before s))
  else if id = 104 then touchIdle s
  else if id = 105 then silenceFollow s
  else s

/-- R212: one pair, judged and applied whole. -/
def writeParam (id : Nat) (v : Int) (order : List HandOff) (s : State) : Result × State :=
  match judgeParam s id v with
  | .accepted =>
    let t := if id = 54 then entryChannelWrite s else s
    (.accepted, settle s (paramFollow id order t (t.setParams (t.params.put id v))))
  | r => (r, s)

/-- R212: the pairs in the order of the payload, with each pair's result. -/
def writeParams (order : List HandOff) : List (Nat × Int) → State → List (Nat × Result) × State
  | [], s => ([], s)
  | (id, v) :: rest, s =>
    let a := writeParam id v order s
    let b := writeParams order rest a.2
    ((id, a.1) :: b.1, b.2)

/-- R212, R213: ACCEPTED, or the first result that is not. -/
def firstRefusal (rs : List Result) : Result :=
  (rs.find? (fun r => decide (r ≠ .accepted))).getD .accepted

/-- R212: the reply: a result byte, the number of pairs, each pair's identifier with its result. -/
def writeReply (rs : List (Nat × Result)) : List Byte :=
  u8 (firstRefusal (rs.map Prod.snd)).code ++ u8 rs.length ++
    (rs.map (fun r => u8 r.1 ++ u8 r.2.code)).flatten

/-- R213: one identifier's part of the reply: identifier, result, value. -/
def readParam (s : State) (id : Nat) : List Byte :=
  match paramSpec id with
  | some _ => u8 id ++ u8 Result.accepted.code ++ i32 (s.params.val id)
  | none => u8 id ++ u8 Result.range.code ++ i32 0

/-- R213: the reply. -/
def readReply (s : State) (ids : List Nat) : List Byte :=
  packReply (if ids.all (fun id => (paramSpec id).isSome) then .accepted else .range)
    (ids.map (readParam s)).flatten

end Sys2Proof.Machine
end

