-- ==== Sys2Proof/Machine/Reports.lean ====
section
/-! DEFINITION. The payloads of the replies: the layouts of R218 and R219, and for the others the items
of their rules in the order listed, coded by R215 (log 10): quantities, lamp levels among them, in four
bytes, states and counts of at most 255 in one. -/

namespace Sys2Proof.Machine

/-! ## SUMMARY (R207, R218) -/

/-- The flag bytes of the set flags in ascending number, behind their count. -/
def flagList (s : State) : List Byte :=
  u8 (setFlags s).length ++ (setFlags s).map (fun f => flagByte f (flagBits s f).mark)

/-- Bit 0 SAFETY, bit 1 ENERGY, bit 2 SERVICE; 1 = MASKED. -/
def maskBits (m : LevelMask) : Nat := bitOf m.safety 0 + bitOf m.energy 1 + bitOf m.service 2

def summaryReply (s : State) : List Byte :=
  u8 Result.accepted.code ++ u8 s.meter.band.code ++ u16 (usableSoc s) ++ u16 (storedSoc s) ++
    u16 (runtime s) ++ u8 s.time.power.code ++ u8 s.link.attended.code ++ u8 s.heater.state.code ++
    u8 s.tanks.fresh.state.code ++ u8 s.tanks.grey.state.code ++ u8 s.drive.stage.code ++
    u8 (maskBits s.link.masked) ++ u16 s.link.hold ++ [s.link.noticeCounter] ++ flagList s

/-! ## METER_QUERY (R28, R218) -/

/-- Bytes 9 to 17: I, V, T_b and the marks; the first eight are 0 while the readings are empty. -/
def readingBytes : Option Readings → List Byte
  | none => u32 0 ++ u16 0 ++ u16 0 ++ u8 8
  | some r =>
    i32 r.current ++ u16 r.voltage ++ i16 r.battery ++
      u8 (bitOf r.saturated 0 + bitOf r.absent 1 + bitOf r.empty 2)

def meterReply (s : State) : List Byte :=
  u8 Result.accepted.code ++ u16 (storedSoc s) ++ u16 (usableSoc s) ++ u32 (reportedCharge s) ++
    readingBytes s.meter.readings ++ i32 s.meter.filtered ++ u16 (runtime s) ++
    u16 s.meter.derating ++ u8 s.meter.socBand.code ++ u8 s.meter.band.code ++
    u8 s.meter.floor.code ++ u8 s.meter.sync.code ++ u8 s.meter.age ++ flag8 s.meter.chargeInhibit

/-! ## LOAD_QUERY (R49, R69, R87) -/

/-- The origins of a channel's row (R29). -/
def channelOrigins (ch : Channel) : List Origin :=
  if ch.val < 6 then [.host, .schedule, .switch, .scene, .entry]
  else if ch.val = 6 then [.thermostat, .frost]
  else if ch.val = 7 then [.host, .schedule, .switch]
  else if ch.val < 10 then [.thermostat, .frost]
  else if ch.val < 12 then [.host, .schedule]
  else [.motion, .override]

/-- Whether a channel has levels (R30). -/
def hasLevels (ch : Channel) : Bool := ch.val < 6 || ch.val = 10 || ch.val = 11

/-- R49: the origin set, bit 0 the first origin of the channel's row, and the level of each origin in it
where the channel has levels (R30). -/
def originBytes (s : State) (ch : Channel) : List Byte :=
  let row := (channelOrigins ch).map (origins s ch).get
  set8 (row.map Option.isSome) ++ if hasLevels ch then (row.filterMap id).flatMap u32 else []

/-- The place of a channel in a list, 1 for the front. -/
def placeIn (ch : Channel) (l : List Channel) : Option Nat :=
  if l.contains ch then some (l.idxOf ch + 1) else none

/-- The grant rank, 1 for the oldest grant (R30). -/
def grantRank (s : State) (ch : Channel) : Option Nat := placeIn ch s.table.granted

/-- The two forms of a LOAD_QUERY's items: each absent item with its coding (R215), or, for a reply that would
pass the payload with them, without the items that their rule lists only while a state holds, and with the
three marks of a record in one byte of bits (log 11: the model's choice). -/
inductive ItemForm where
  | whole
  | compact
  deriving DecidableEq, Repr

/-- An item that its rule lists only while a state holds, with its coding while absent. -/
def ItemForm.present (f : ItemForm) (holds : Bool) (item : List Byte) : List Byte :=
  if holds || decide (f = .whole) then item else []

/-- The committed mark, the shed mark and the overdraw hold of a record. -/
def markBytes (f : ItemForm) (s : State) (ch : Channel) : List Byte :=
  let marks := [committed s ch, s.table.recs[ch].shedMark, s.table.recs[ch].overdrawHold]
  match f with
  | .whole => marks.flatMap flag8
  | .compact => set8 marks

/-- The record figures of R49. -/
def recordBytes (f : ItemForm) (s : State) (ch : Channel) : List Byte :=
  let waiting := isWaiting s ch
  u8 (recordState s ch).code ++ originBytes s ch ++ opt8 (demandClass s ch) ++
    u32 (demandDraw s ch) ++ u32 (grantedDraw s ch) ++ markBytes f s ch ++
    f.present waiting
      (opt8 (placeIn ch s.table.waiting) ++ opt32 (if waiting then some (waitTicks s ch) else none) ++
        opt8 (if waiting then some (if blocks s ch then 1 else 0) else none)) ++
    f.present (isGranted s ch) (opt8 (grantRank s ch))

/-- The lamp figures of R69. -/
def lampBytes (f : ItemForm) (s : State) (i : Fin 6) : List Byte :=
  let x := s.lamps.chans[i]
  let figures := u32 (lampTarget s i) ++ u32 x.applied ++ u32 (ceilDiv x.output 256) ++
    u8 x.fade.code ++ f.present x.fallStart.isSome (opt32 x.fallStart)
  if entryChannel s = some i then
    figures ++ flag8 (entryStands s) ++
      f.present s.lamps.entryDue.isSome (opt32 (s.lamps.entryDue.map (ticksTo s.now)))
  else figures

/-- The ticks remaining of a heater report: to the end of the glow or of the purge. -/
def heaterTicks (s : State) : Option Nat :=
  if s.heater.state = .starting then s.heater.glowDue.map (ticksTo s.now)
  else if s.heater.state = .purging then s.heater.purgeDue.map (ticksTo s.now)
  else none

/-- The heater report of R87. -/
def heaterItems (f : ItemForm) (s : State) : List Byte :=
  let h := s.heater
  u8 h.state.code ++ u8 h.hostMode.code ++ u8 h.schedMode.code ++ named8 h.frostOrigin ++
    u8 (requestedMode h).code ++ u8 h.ceiling.code ++ u8 h.effective.code ++
    optI32 (setpointOf s.params h.effective) ++ u8 h.sensor.code ++ optI32 h.reading ++
    u8 h.thermostat.code ++ named8 h.demand ++ u8 h.failed ++ named8 h.latch ++
    f.present (heaterTicks s).isSome (opt32 (heaterTicks s))

/-- The heater report of a HEAT_MODE reply. -/
def heaterReport (s : State) : List Byte := heaterItems .whole s

/-- A record with what its owner adds to its figures (R69, R87). -/
def loadRecord (f : ItemForm) (s : State) (ch : Channel) : List Byte :=
  recordBytes f s ch ++
    if h : ch.val < 6 then lampBytes f s ⟨ch.val, h⟩
    else if ch = chHeater then heaterItems f s
    else []

/-- The served classes as one byte of bits, bit c for class c (log 10: the model's choice). -/
def servedBytes (b : Band) : List Byte := set8 ([0, 1, 2, 3].map (servedClasses b).contains)

/-- The table figures of R49. -/
def tableFigures (s : State) : List Byte :=
  u8 s.table.band.code ++ named8 (eventActive s .shorePresent) ++ named8 (eventActive s .loadLimit) ++
    u32 s.table.budget ++ u32 (c0 s) ++ u32 (s13 s) ++ u32 (remainder s) ++
    servedBytes s.table.band ++ u8 s.table.overdraw ++ u8 s.table.clear

/-- R49, R69, R87: the record with its owner's items and the table figures, in the order listed. A record
always fits the payload, in the compact form at the latest; the table figures behind it need not (log 11).
Thirteen records never fit, so a reply of all channels has them in the compact form. -/
def loadQueryReply (channel : Byte) (s : State) : List Byte :=
  if h : channel.toNat < 13 then
    let parts := fun (f : ItemForm) => [loadRecord f s ⟨channel.toNat, h⟩, tableFigures s]
    packParts .accepted (parts (if (parts .whole).flatten.length ≤ 57 then .whole else .compact))
  else if channel.toNat = 255 then
    packRecords .accepted (channels.map (loadRecord .compact s)) (tableFigures s)
  else u8 Result.range.code

/-- R48: the result and the record's state; a refusal RANGE names no record. -/
def loadDemandReply (channel : Byte) (r : Result) (s : State) : List Byte :=
  if h : channel.toNat < 13 then
    if r = .range then u8 r.code else packReply r (u8 (recordState s ⟨channel.toNat, h⟩).code)
  else u8 r.code

/-! ## Scenes (R64, R65) -/

def sceneRecallReply (r : Result) (s : State) : List Byte :=
  if r = .accepted then
    packReply r (allLamps.flatMap (fun i => u8 (recordState s (chLamp i)).code))
  else u8 r.code

def sceneStoreReply (r : Result) (s : State) : List Byte :=
  if r = .accepted then packReply r (allLamps.flatMap (fun i => u32 (lampTarget s i))) else u8 r.code

/-! ## TANK_QUERY (R110) -/

/-- PARKED 0, HELD 1. -/
def sourceCode : LevelSource → Nat
  | .parked => 0
  | .held _ => 1

def heldLevel : LevelSource → Option Nat
  | .parked => none
  | .held l => l

def frostBytes (s : State) (c : FrostCtl) : List Byte :=
  u8 c.state.code ++ optI32 c.reading ++ u8 c.sensor.code ++ opt32 (c.dangerDue.map (ticksTo s.now))

def tankBytes (s : State) (i : Fin 3) : List Byte :=
  let t := tankRec s i
  let own := u32 t.raw ++ u8 t.sender.code ++ u32 (s.params.emptyRaw i).toNat ++
    u32 (s.params.fullRaw i).toNat ++ u8 t.window.length ++ opt32 (filteredLevel t) ++
    u8 (sourceCode t.source) ++ opt32 (heldLevel t.source) ++ opt32 (levelInUse t) ++ named8 t.threshold
  if i = 0 then own ++ frostBytes s s.tanks.fresh ++ flag8 (outputActive s .drainValve)
  else if i = 1 then own ++ frostBytes s s.tanks.grey
  else own

/-- The pump figures of R110; which conditions of the guard hold is one byte of bits in the order of R97
(log 10: the model's choice). -/
def pumpFigures (s : State) : List Byte :=
  flag8 (pumpGuard s) ++
    set8 [guardDry s, guardDrained s, guardFault s, guardGrey s] ++
    named8 s.tanks.pumpFault ++ named8 (eventActive s .pumpDemand) ++
    opt32 (if isGranted s chPump then s.tanks.pumpDue.map (ticksTo s.now) else none)

def tankQueryReply (tank : Byte) (s : State) : List Byte :=
  if h : tank.toNat < 3 then packReply .accepted (tankBytes s ⟨tank.toNat, h⟩ ++ pumpFigures s)
  else if tank.toNat = 255 then packRecords .accepted (allTanks.map (tankBytes s)) (pumpFigures s)
  else u8 Result.range.code

/-- R106, R107: the fresh frost state, the fresh tank reading and its sensor state. -/
def drainReply (r : Result) (s : State) : List Byte :=
  packReply r
    (u8 s.tanks.fresh.state.code ++ optI32 s.tanks.fresh.reading ++ u8 s.tanks.fresh.sensor.code)

/-! ## MOVE_POST, MOVE_CANCEL, MOVE_QUERY (R130, R131, R154, R218, R219) -/

def movePostReply (r : Result) (ring : Byte) (i : Option (Fin 16)) : List Byte :=
  u8 r.code ++ [ring] ++ opt8 (i.map (fun j => j.val))

/-- R130: the state of each slot named and, where COMPLETE, its result. -/
def cancelItem (s : State) (i : Fin 16) : List Byte :=
  u8 (slotAt s i).state.code ++ motionResult8 (slotAt s i).result

/-- Byte 6: 0 none, 1 step slot, 2 step override, 3 awning slot, 4 awning override, in the high bits. -/
def ownerByte : Option Owner → Nat
  | none => 0
  | some ⟨.step, .slot i⟩ => 16 + i.val
  | some ⟨.step, .override⟩ => 32
  | some ⟨.awning, .slot i⟩ => 48 + i.val
  | some ⟨.awning, .override⟩ => 64

/-- The motion that the owner runs: in progress from CLAIMED to the end of RETRY_WAIT, and in BRAKING the
one that has ended there, since the owner stays with the motion it runs (log 27). -/
def ownerMotion (s : State) : Option StageMotion :=
  if s.drive.stage = .braking then s.drive.braked else motionInProgress s

/-- Byte 7; the direction bit is 0 before WAKING. -/
def motionByte (s : State) : Option Nat :=
  (ownerMotion s).map fun m =>
    m.action.code + bitOf (decide (s.drive.direction = some .retract)) 2 + m.retries * 16

/-- The states in which the phase timer runs (06_..., the stage's table). -/
def phaseTimerRuns : StageState → Bool
  | .claimed => true
  | .waking => true
  | .backing => true
  | .retryWait => true
  | .braking => true
  | .idle => false
  | .running => false
  | .gap => false

/-- Bytes 17 and 19. While the slot is NONE the absent cause leaves bit 2 at 0 (log 42: the model's choice). -/
def overrideByte (o : OverrideSlot) : Nat := o.state.code + bitOf (decide (o.cause = some .wind)) 2

/-- Bytes 27 to 29: the step position, and step_ms or the homing count. -/
def stepBytes (s : State) : List Byte :=
  let homing := s.act.stepMs.isNone && s.act.homing.isSome
  u8 ((stepPosition s).code + bitOf homing 7) ++
    opt16 (if homing then s.act.homing else s.act.stepMs)

def switchBits (s : State) : Nat :=
  bitOf (eventMapped s .awningInLimit) 0 + bitOf (eventActive s .awningInLimit) 1 +
    bitOf (eventMapped s .stepInLimit) 2 + bitOf (eventActive s .stepInLimit) 3 +
    bitOf (eventMapped s .stepOutLimit) 4 + bitOf (eventActive s .stepOutLimit) 5 +
    bitOf (eventActive s .ignitionOn) 6 + bitOf (roadUnsafe s) 7

def readyCount (s : State) (a : Actuator) : Nat :=
  ((ringSlots s a).filter (fun i => decide ((slotAt s i).state = .ready))).length

/-- Bytes 0 to 39 of R219. -/
def moveCommon (s : State) (a : Actuator) : List Byte :=
  u8 Result.accepted.code ++ u8 a.code ++ u8 (tailOf s a).val ++
    opt8 ((ringHead s a).map (fun i => i.val)) ++ u8 (readyCount s a) ++ u8 s.drive.stage.code ++
    u8 (ownerByte s.drive.owner) ++ opt8 (motionByte s) ++
    opt24 ((ownerMotion s).map (fun m => m.runTime)) ++
    opt24 (if phaseTimerRuns s.drive.stage then some s.drive.phaseTimer else none) ++
    opt16 (s.drive.gap.map (fun g => g.ms)) ++
    u8 (s.params.ringSplit + bitOf (decide (s.drive.lastServed = .awning)) 7) ++
    u8 (overrideByte s.motion.stepOverride) ++ motionResult8 s.motion.stepOverride.lastResult ++
    u8 (overrideByte s.motion.awningOverride) ++ motionResult8 s.motion.awningOverride.lastResult ++
    flag8 s.act.posMs.isSome ++ opt24 s.act.posMs ++ opt16 (reportedPosition s) ++ stepBytes s ++
    u8 (switchBits s) ++
    u8 (bitOf (awningStowed s) 0 + bitOf (stepStowed s) 1 + bitOf (eventMapped s .windPulse) 2 +
      bitOf s.wind.lockout 3) ++
    u16 s.wind.count ++ u8 (ticksTo s.now s.wind.due) ++ u16 s.wind.speed ++ u8 s.wind.high ++
    u16 s.wind.calm

/-- Bytes 40 to 50 of R219: a slot named alone. The action, the retries used and the run time are absent in
a FREE slot (R120). -/
def slotBytes (s : State) (i : Fin 16) : List Byte :=
  let x := slotAt s i
  let posted := fun (n : Nat) => if x.state = .free then none else some n
  u8 i.val ++ u8 x.state.code ++ opt8 (posted x.action.code) ++
    u8 (x.origin.code + bitOf x.notify 7) ++ opt16 x.target ++ motionResult8 x.result ++
    opt8 (posted x.retries) ++ opt24 (posted x.runTime)

/-- One byte of the all-slots part: state, action, result. -/
def slotByte (s : State) (i : Fin 16) : List Byte :=
  let x := slotAt s i
  u8 (x.state.code * 64 + x.action.code * 16 + (x.result.map MotionResult.code).getD 0)

/-- The slots that a ring byte and an index byte name: one of the ring, or all of it (R130, R131). -/
def namedSlot (s : State) (ring index : Byte) : Option (Actuator × Option (Fin 16)) :=
  match Actuator.ofCode ring with
  | none => none
  | some a =>
    if index.toNat = 255 then some (a, none)
    else if h : index.toNat < 16 then
      if inRing s a ⟨index.toNat, h⟩ then some (a, some ⟨index.toNat, h⟩) else none
    else none

def moveQueryReply (ring index : Byte) (s : State) : List Byte :=
  match namedSlot s ring index with
  | none => u8 Result.range.code
  | some (a, some i) => moveCommon s a ++ slotBytes s i
  | some (a, none) => moveCommon s a ++ u8 (ringSize s a) ++ (ringSlots s a).flatMap (slotByte s)

def moveCancelReply (r : Result) (s : State) (a : Actuator) (i : Option (Fin 16)) : List Byte :=
  match i with
  | some j => packReply r (cancelItem s j)
  | none => packRecords r ((ringSlots s a).map (cancelItem s)) []

/-! ## Schedule and time (R178, R184, R218) -/

/-- Bytes 1 to 18 of the SCHED_WRITE reply. A FREE entry has no missed count (R184), and the layout gives its
absence no coding of its own (R215). -/
def entryBytes (s : State) (i : Fin 16) : List Byte :=
  let e := entryAt s i
  u8 i.val ++ u8 e.state.code ++
    u32 (if e.state = .free then 0 else (e.due.map (fun t => t.toNat)).getD 4294967295) ++
    u32 e.period ++ (e.action.map actionBytes).getD (u8 255 ++ u32 4294967295) ++ flag8 e.notify ++
    opt8 (e.outcome.map Result.code) ++ opt8 (if e.state = .free then none else some e.missed)

/-- R218: SCHED_READ adds the ticks remaining, all ones unless ARMED, its layout's own coding. -/
def entryRecord (s : State) (i : Fin 16) : List Byte :=
  let e := entryAt s i
  entryBytes s i ++
    u32 (if e.state = .armed then (e.due.map (ticksTo s.now)).getD 4294967295 else 4294967295)

def schedReadReply (index : Byte) (s : State) : List Byte :=
  if h : index.toNat < 16 then packReply .accepted (entryRecord s ⟨index.toNat, h⟩)
  else if index.toNat = 255 then
    packRecords .accepted ((List.finRange 16).map (entryRecord s)) []
  else u8 Result.range.code

def armedEntries (s : State) : List (Fin 16) :=
  (List.finRange 16).filter (fun i => decide ((entryAt s i).state = .armed))

/-- The ticks remaining of an entry. -/
def entryTicks (s : State) (i : Fin 16) : Nat := (((entryAt s i).due).map (ticksTo s.now)).getD 0

/-- R178: the ARMED entry whose due instant is nearest ahead. Of several that are equally near it is the one
of the lowest index (log 49: the model's choice). -/
def nearestEntry (s : State) : Option (Fin 16) :=
  (armedEntries s).foldl
    (fun best i =>
      match best with
      | none => some i
      | some b => if entryTicks s i < entryTicks s b then some i else some b)
    none

/-- IDLE 0, RUNNING 1. -/
def calibrationCode : Calibration → Nat
  | .idle => 0
  | .running _ _ _ => 1

/-- The step count, absent while IDLE (log 8). -/
def calibrationCount : Calibration → Option Nat
  | .idle => none
  | .running steps _ _ => some steps

def timeQueryReply (s : State) : List Byte :=
  packReply .accepted
    (u32 s.now.toNat ++ u32 s.time.fraction.toNat ++ u32 s.time.inc ++ u8 (timeBase s).code ++
      u8 s.time.power.code ++ u8 (calibrationCode s.time.calib) ++
      opt32 (calibrationCount s.time.calib) ++ u8 s.time.crystal.code ++
      opt32 (s.time.idleDue.map (ticksTo s.now)) ++ u8 (armedEntries s).length ++
      opt8 ((nearestEntry s).map (fun i => i.val)) ++ opt32 ((nearestEntry s).map (entryTicks s)))

/-- R176. -/
def recalibrateReply (r : Result) (s : State) : List Byte :=
  packReply r (u8 (calibrationCode s.time.calib) ++ u8 s.time.crystal.code)

/-- R186: the power state after the request and, for a refusal, the activity conditions that held when it
was judged, with the crystal state. The conditions take one byte, bit 0 the first of the list (log 10: the
model's choice). -/
def dormantReply (r : Result) (judged s : State) : List Byte :=
  if r = .accepted then packReply r (u8 s.time.power.code)
  else
    packReply r
      (u8 s.time.power.code ++
        set8 (activities judged) ++ u8 judged.time.crystal.code)

/-! ## Pins (R168, R218) -/

/-- UNBOUND 0, SETTLING 1, JOINED 2. -/
def bindingCode : PinBinding → Nat
  | .unbound => 0
  | .settling _ _ => 1
  | .joined _ _ => 2

def pinRecordBytes (p : Pin) : List Byte :=
  u8 p.mode.code ++ u8 p.polarity.code ++ u8 (PinEvent.code p.event) ++ flag8 p.wake

/-- The PIN_MAP reply of R218. -/
def pinMapReply (r : Result) (pin : Byte) (p : Pin) : List Byte :=
  u8 r.code ++ [pin] ++ pinRecordBytes p ++
    opt8 (if p.inputEvent.isSome then some (bindingCode p.binding) else none)

/-- The electrical level of a pin: 0 low, 1 high, 2 released, absent in OFF. -/
def levelCode (s : State) (i : Fin 16) (level : Bool) : Option Nat :=
  let p := pinAt s i
  if p.mode.isInput then some (if level then 1 else 0)
  else if p.mode.isOutput then
    some (match pinDrive s i with
      | .low => 0
      | .high => 1
      | .released => 2)
  else none

/-- The binding of a pin: its state, the contribution while JOINED, the reference level while SETTLING
(active 0, inactive 1, R215), and the count. -/
def bindingBytes (p : Pin) : List Byte :=
  let bit := fun (b : Bool) => if b then 0 else 1
  if p.inputEvent.isSome then
    match p.binding with
    | .unbound => u8 0 ++ opt8 none ++ opt8 none ++ opt32 none
    | .settling r n => u8 1 ++ opt8 none ++ opt8 (r.map bit) ++ u32 n
    | .joined c n => u8 2 ++ opt8 (some (bit c)) ++ opt8 none ++ u32 n
  else opt8 none ++ opt8 none ++ opt8 none ++ opt32 none

/-- R168: what is reported of one pin, in thirteen bytes. -/
def pinBytes (s : State) (levels : BitVec 16) (i : Fin 16) : List Byte :=
  let p := pinAt s i
  let level := levels.getLsbD i.val
  pinRecordBytes p ++ opt8 (levelCode s i level) ++
    opt8 (if p.mode.isInput then some (if p.converted level then 0 else 1) else none) ++ bindingBytes p

/-- R168: the events of the catalog. -/
def catalogBytes (s : State) : List Byte :=
  inputEvents.flatMap (fun e => flag8 (eventMapped s e) ++ flag8 (eventActive s e)) ++
    outputEvents.flatMap (fun e => named8 (outputActive s e) ++ u8 (pinsDriving s e))

/-- R168. The pin named comes first, in the order of the rule. The catalog part alone, 76 bytes under R215,
passes the payload, so its coding is free (log 11). -/
def pinReadReply (pin : Byte) (levels : BitVec 16) (s : State) : List Byte :=
  if h : pin.toNat < 16 then
    packParts .accepted [pinBytes s levels ⟨pin.toNat, h⟩, catalogBytes s]
  else if pin.toNat = 255 then
    packRecords .accepted ((List.finRange 16).map (pinBytes s levels)) (catalogBytes s)
  else u8 Result.range.code

/-! ## Flags, mask, hold (R203, R205, R206) -/

def flagClearReply (r : Result) (s : State) : List Byte := u8 r.code ++ flagList s

/-- R205, R215: the three levels in order, MASKED 0, UNMASKED 1. -/
def maskReply (r : Result) (s : State) : List Byte :=
  let code := fun (b : Bool) => if b then 0 else 1
  if r = .accepted then
    packReply r
      (u8 (code s.link.masked.safety) ++ u8 (code s.link.masked.energy) ++
        u8 (code s.link.masked.service))
  else u8 r.code

def holdReply (s : State) : List Byte := packReply .accepted (u32 s.link.hold)

end Sys2Proof.Machine
end

