-- ==== Sys2Proof/Machine/Requests.lean ====
section
/-! DEFINITION. The meanings of the requests: one definition for each request row of
spec/opcode_table.json. Each is taken as R198 states (`takeRequest`): without its frame at the front of
the inbox, or with the reply queue full, it changes nothing (log 1, log 2). -/

namespace Sys2Proof.Machine

/-! ## Link and parameters -/

/-- SUMMARY (R207). -/
def execSummary (tag : Byte) (payload : List Byte) (s : State) : Host.Outcome State Fault Refusal :=
  takeRequest 1 tag payload (fun t => (summaryReply t, t)) s

/-- PARAM_WRITE (R212). -/
def execParamWrite (tag : Byte) (payload : List Byte) (order : List HandOff) (s : State) :
    Host.Outcome State Fault Refusal :=
  takeRequest 2 tag payload
    (fun t =>
      let r := writeParams order (parsePairs payload) t
      (writeReply r.1, r.2)) s

/-- PARAM_READ (R213). -/
def execParamRead (tag : Byte) (payload : List Byte) (s : State) : Host.Outcome State Fault Refusal :=
  takeRequest 3 tag payload (fun t => (readReply t (payload.map (fun b => b.toNat)), t)) s

/-! ## Loads, scenes, heater -/

/-- LOAD_DEMAND (R48). -/
def execLoadDemand (tag : Byte) (payload : List Byte) (s : State) :
    Host.Outcome State Fault Refusal :=
  takeRequest 4 tag payload
    (fun t =>
      let r := loadDemandOp .host (byteAt payload 0) (byteAt payload 1) t
      (loadDemandReply (byteAt payload 0) r.1 r.2, r.2)) s

/-- LOAD_QUERY (R49). -/
def execLoadQuery (tag : Byte) (payload : List Byte) (s : State) : Host.Outcome State Fault Refusal :=
  takeRequest 5 tag payload (fun t => (loadQueryReply (byteAt payload 0) t, t)) s

/-- HEAT_MODE (R73, R87). -/
def execHeatMode (tag : Byte) (payload : List Byte) (s : State) : Host.Outcome State Fault Refusal :=
  takeRequest 6 tag payload
    (fun t =>
      let r := heatOp setHostMode (byteAt payload 0) t
      (if r.1 = .accepted then packReply r.1 (heaterReport r.2) else u8 r.1.code, r.2)) s

/-- SCENE_RECALL (R64). -/
def execSceneRecall (tag : Byte) (payload : List Byte) (s : State) :
    Host.Outcome State Fault Refusal :=
  takeRequest 23 tag payload
    (fun t =>
      let r := sceneRecallOp (byteAt payload 0) t
      (sceneRecallReply r.1 r.2, r.2)) s

/-- SCENE_STORE (R65). -/
def execSceneStore (tag : Byte) (payload : List Byte) (s : State) : Host.Outcome State Fault Refusal :=
  takeRequest 24 tag payload
    (fun t =>
      let r := sceneStoreOp (byteAt payload 0) t
      (sceneStoreReply r.1 r.2, r.2)) s

/-! ## Motions -/

/-- MOVE_POST (R122). -/
def execMovePost (tag : Byte) (payload : List Byte) (s : State) : Host.Outcome State Fault Refusal :=
  takeRequest 7 tag payload
    (fun t =>
      let r := postCodes (byteAt payload 0) (byteAt payload 1) (beNat (bytesAt payload 2 2))
        (parseFlag (byteAt payload 4)) .host t
      (movePostReply r.1 (byteAt payload 0) r.2.1, r.2.2)) s

/-- MOVE_CANCEL (R130). -/
def execMoveCancel (tag : Byte) (payload : List Byte) (s : State) : Host.Outcome State Fault Refusal :=
  takeRequest 8 tag payload
    (fun t =>
      match namedSlot t (byteAt payload 0) (byteAt payload 1) with
      | none => (u8 Result.range.code, t)
      | some (a, some i) =>
        let r := cancelOne i t
        (moveCancelReply r.1 r.2 a (some i), r.2)
      | some (a, none) =>
        let u := cancelAll a t
        (moveCancelReply .accepted u a none, u)) s

/-- MOVE_QUERY (R131). -/
def execMoveQuery (tag : Byte) (payload : List Byte) (s : State) : Host.Outcome State Fault Refusal :=
  takeRequest 9 tag payload (fun t => (moveQueryReply (byteAt payload 0) (byteAt payload 1) t, t)) s

/-! ## Schedule and time -/

/-- R179, R217: the fields of a SCHED_WRITE behind its index; none where it is refused RANGE. -/
def parseEntry (p : List Byte) : Option (Tick × Nat × SchedAction × Bool) :=
  let period := beNat (bytesAt p 5 4)
  match parseAction (byteAt p 10) (byteAt p 11) (byteAt p 12) (byteAt p 13) (byteAt p 14),
      parseFlag (byteAt p 9) with
  | some a, some n =>
    if periodOk period then some (BitVec.ofNat 32 (beNat (bytesAt p 1 4)), period, a, n) else none
  | _, _ => none

/-- SCHED_WRITE (R179, R218). -/
def execSchedWrite (tag : Byte) (payload : List Byte) (s : State) : Host.Outcome State Fault Refusal :=
  takeRequest 10 tag payload
    (fun t =>
      if h : (byteAt payload 0).toNat < 16 then
        let i : Fin 16 := ⟨(byteAt payload 0).toNat, h⟩
        match parseEntry payload with
        | none => (u8 Result.range.code ++ entryBytes t i, t)
        | some (due, period, a, n) =>
          let u := schedWriteOp i due period a n t
          (u8 Result.accepted.code ++ entryBytes u i, u)
      else (u8 Result.range.code, t)) s

/-- SCHED_READ (R184). -/
def execSchedRead (tag : Byte) (payload : List Byte) (s : State) : Host.Outcome State Fault Refusal :=
  takeRequest 11 tag payload (fun t => (schedReadReply (byteAt payload 0) t, t)) s

/-- SCHED_FREE (R184). -/
def execSchedFree (tag : Byte) (payload : List Byte) (s : State) : Host.Outcome State Fault Refusal :=
  takeRequest 12 tag payload
    (fun t =>
      if h : (byteAt payload 0).toNat < 16 then
        (u8 Result.accepted.code, schedFreeOp ⟨(byteAt payload 0).toNat, h⟩ t)
      else if (byteAt payload 0).toNat = 255 then (u8 Result.accepted.code, schedFreeAll t)
      else (u8 Result.range.code, t)) s

/-- TIME_SET (R177). -/
def execTimeSet (tag : Byte) (payload : List Byte) (input : MeterInput) (s : State) :
    Host.Outcome State Fault Refusal :=
  if temperatureOk input.temperature then
    takeRequest 25 tag payload
      (fun t =>
        let u := timeSetOp (BitVec.ofNat 32 (beNat payload)) input t
        (packReply .accepted (u32 u.now.toNat), u)) s
  else .refused (.illFormed "TIME_SET")

/-- TIME_QUERY (R178). -/
def execTimeQuery (tag : Byte) (payload : List Byte) (s : State) : Host.Outcome State Fault Refusal :=
  takeRequest 26 tag payload (fun t => (timeQueryReply t, t)) s

/-- RECALIBRATE (R176). -/
def execRecalibrate (tag : Byte) (payload : List Byte) (s : State) :
    Host.Outcome State Fault Refusal :=
  takeRequest 27 tag payload
    (fun t =>
      if t.time.power = .active && t.time.calib = .idle then
        let u := startCalibration t
        (recalibrateReply .accepted u, u)
      else (recalibrateReply .busy t, t)) s

/-- R186: the judgement of a DORMANT request. -/
def judgeDormant (s : State) : Result :=
  if s.time.power ≠ .active then .busy
  else if s.time.crystal = .fault then .condition
  else if (activities s).any id then .busy
  else .accepted

/-- DORMANT (R186). -/
def execDormant (tag : Byte) (payload : List Byte) (s : State) : Host.Outcome State Fault Refusal :=
  takeRequest 28 tag payload
    (fun t =>
      let r := judgeDormant t
      let u := if r = .accepted then enterEntering t else t
      (dormantReply r t u, u)) s

/-! ## Pins -/

/-- PIN_MAP (R158). -/
def execPinMap (tag : Byte) (payload : List Byte) (level : Bool) (order : List HandOff) (s : State) :
    Host.Outcome State Fault Refusal :=
  takeRequest 13 tag payload
    (fun t =>
      let pin := byteAt payload 0
      if h : pin.toNat < 16 then
        let i : Fin 16 := ⟨pin.toNat, h⟩
        match parsePin (byteAt payload 1) (byteAt payload 2) (byteAt payload 3) (byteAt payload 4) with
        | none => (pinMapReply .range pin (pinAt t i), t)
        | some new =>
          if pinBusy t (pinAt t i) new then (pinMapReply .busy pin (pinAt t i), t)
          else
            let u := pinMapOp i new level order t
            (pinMapReply .accepted pin (pinAt u i), u)
      else (u8 Result.range.code, t)) s

/-- PIN_READ (R168). -/
def execPinRead (tag : Byte) (payload : List Byte) (levels : BitVec 16) (s : State) :
    Host.Outcome State Fault Refusal :=
  takeRequest 14 tag payload (fun t => (pinReadReply (byteAt payload 0) levels t, t)) s

/-! ## Tanks and meter -/

/-- TANK_QUERY (R110). -/
def execTankQuery (tag : Byte) (payload : List Byte) (s : State) : Host.Outcome State Fault Refusal :=
  takeRequest 15 tag payload (fun t => (tankQueryReply (byteAt payload 0) t, t)) s

/-- METER_QUERY (R28). -/
def execMeterQuery (tag : Byte) (payload : List Byte) (s : State) : Host.Outcome State Fault Refusal :=
  takeRequest 16 tag payload (fun t => (meterReply t, t)) s

/-- DRAIN_OPEN (R106). -/
def execDrainOpen (tag : Byte) (payload : List Byte) (order : List HandOff) (s : State) :
    Host.Outcome State Fault Refusal :=
  takeRequest 19 tag payload
    (fun t =>
      let u := drainOpenOp order t
      (drainReply .accepted u, u)) s

/-- DRAIN_CLOSE (R107). -/
def execDrainClose (tag : Byte) (payload : List Byte) (order : List HandOff) (s : State) :
    Host.Outcome State Fault Refusal :=
  takeRequest 20 tag payload
    (fun t =>
      if drainMayClose t then
        let u := drainCloseOp order t
        (drainReply .accepted u, u)
      else (drainReply .condition t, t)) s

/-- ACCOUNT_SET (R17). -/
def execAccountSet (tag : Byte) (payload : List Byte) (s : State) : Host.Outcome State Fault Refusal :=
  takeRequest 21 tag payload
    (fun t =>
      if beNat payload ≤ 1000 then (u8 Result.accepted.code, accountSetOp (beNat payload) t)
      else (u8 Result.range.code, t)) s

/-- ACCOUNT_FULL (R16). -/
def execAccountFull (tag : Byte) (payload : List Byte) (s : State) : Host.Outcome State Fault Refusal :=
  takeRequest 22 tag payload (fun t => (u8 Result.accepted.code, accountFullOp t)) s

/-! ## Flags, mask, hold, restart -/

/-- R203: the clear of a latch flag is handed to its owner. -/
def ownerClear (f : Flag) (s : State) : State :=
  match f with
  | .pumpFault => pumpFaultClear s
  | .heaterLockout => lockoutClear s
  | _ => s

/-- R203: one flag named. -/
def clearNamed (s : State) (f : Flag) : State :=
  if flagSet s f then
    match f.kind with
    | .occurrence => clearFlag s f
    | .condition => if conditionHolds s f then s else clearFlag s f
    | .latch => ownerClear f (clearFlag s f)
  else s

/-- The flags that the numbers name, each once, in the order of its first number (R217, log 36). -/
def flagsNamed (numbers : List Byte) : List Flag :=
  (numbers.filterMap (fun b => Flag.ofNumber b.toNat)).eraseDups

/-- R203: a number that names no flag refuses the whole request; each flag named is cleared once (R217). -/
def flagClearOp (numbers : List Byte) (s : State) : Result × State :=
  if numbers.all (fun b => (Flag.ofNumber b.toNat).isSome) then
    (.accepted, (flagsNamed numbers).foldl clearNamed s)
  else (.range, s)

/-- FLAG_CLEAR (R203). -/
def execFlagClear (tag : Byte) (payload : List Byte) (s : State) : Host.Outcome State Fault Refusal :=
  takeRequest 17 tag payload
    (fun t =>
      let r := flagClearOp payload t
      (flagClearReply r.1 r.2, r.2)) s

/-- NOTICE_MASK (R205). -/
def execNoticeMask (tag : Byte) (payload : List Byte) (s : State) : Host.Outcome State Fault Refusal :=
  takeRequest 18 tag payload
    (fun t =>
      match noticeMaskOp payload t with
      | some u => (maskReply .accepted u, u)
      | none => (maskReply .range t, t)) s

/-- RESTART (R210). -/
def execRestart (tag : Byte) (payload : List Byte) (s : State) : Host.Outcome State Fault Refusal :=
  takeRequest 29 tag payload
    (fun t => (u8 Result.accepted.code, t.setLink { t.link with restartPending := true })) s

/-- HOLD (R206). -/
def execHold (tag : Byte) (payload : List Byte) (s : State) : Host.Outcome State Fault Refusal :=
  takeRequest 30 tag payload
    (fun t =>
      let u := t.setLink { t.link with hold := beNat payload }
      (holdReply u, u)) s

/-- A request whose kind code names no request kind (R198, R217). -/
def execUnknownKindRequest (kind tag : Byte) (payload : List Byte) (s : State) :
    Host.Outcome State Fault Refusal :=
  perform s (unknownKindOk kind && requestReady kind tag payload s)
    (answer kind tag (u8 Result.unknown.code) s)

end Sys2Proof.Machine
end

