-- ==== Sys2Proof/Machine/Dispatch.lean ====
section
/-! DEFINITION. One arm for each row of spec/opcode_table.json: the call of its meaning. -/

namespace Sys2Proof.Machine

/-- The effect of one command on everything but the queue. -/
def exec (i : Instr) (s : State) : Host.Outcome State Fault Refusal :=
  match i with
  | .summary tag payload => Sys2Proof.Machine.execSummary tag payload s
  | .paramWrite tag payload order => Sys2Proof.Machine.execParamWrite tag payload order s
  | .paramRead tag payload => Sys2Proof.Machine.execParamRead tag payload s
  | .loadDemand tag payload => Sys2Proof.Machine.execLoadDemand tag payload s
  | .loadQuery tag payload => Sys2Proof.Machine.execLoadQuery tag payload s
  | .heatMode tag payload => Sys2Proof.Machine.execHeatMode tag payload s
  | .movePost tag payload => Sys2Proof.Machine.execMovePost tag payload s
  | .moveCancel tag payload => Sys2Proof.Machine.execMoveCancel tag payload s
  | .moveQuery tag payload => Sys2Proof.Machine.execMoveQuery tag payload s
  | .schedWrite tag payload => Sys2Proof.Machine.execSchedWrite tag payload s
  | .schedRead tag payload => Sys2Proof.Machine.execSchedRead tag payload s
  | .schedFree tag payload => Sys2Proof.Machine.execSchedFree tag payload s
  | .pinMap tag payload level order => Sys2Proof.Machine.execPinMap tag payload level order s
  | .pinRead tag payload levels => Sys2Proof.Machine.execPinRead tag payload levels s
  | .tankQuery tag payload => Sys2Proof.Machine.execTankQuery tag payload s
  | .meterQuery tag payload => Sys2Proof.Machine.execMeterQuery tag payload s
  | .flagClear tag payload => Sys2Proof.Machine.execFlagClear tag payload s
  | .noticeMask tag payload => Sys2Proof.Machine.execNoticeMask tag payload s
  | .drainOpen tag payload order => Sys2Proof.Machine.execDrainOpen tag payload order s
  | .drainClose tag payload order => Sys2Proof.Machine.execDrainClose tag payload order s
  | .accountSet tag payload => Sys2Proof.Machine.execAccountSet tag payload s
  | .accountFull tag payload => Sys2Proof.Machine.execAccountFull tag payload s
  | .sceneRecall tag payload => Sys2Proof.Machine.execSceneRecall tag payload s
  | .sceneStore tag payload => Sys2Proof.Machine.execSceneStore tag payload s
  | .timeSet tag payload input => Sys2Proof.Machine.execTimeSet tag payload input s
  | .timeQuery tag payload => Sys2Proof.Machine.execTimeQuery tag payload s
  | .recalibrate tag payload => Sys2Proof.Machine.execRecalibrate tag payload s
  | .dormant tag payload => Sys2Proof.Machine.execDormant tag payload s
  | .restart tag payload => Sys2Proof.Machine.execRestart tag payload s
  | .hold tag payload => Sys2Proof.Machine.execHold tag payload s
  | .startByte => Sys2Proof.Machine.execStartByte s
  | .validFrame bytes => Sys2Proof.Machine.execValidFrame bytes s
  | .frameDiscard bytes framing => Sys2Proof.Machine.execFrameDiscard bytes framing s
  | .receiveTimeout => Sys2Proof.Machine.execReceiveTimeout s
  | .noticeBegin => Sys2Proof.Machine.execNoticeBegin s
  | .transmitEnd => Sys2Proof.Machine.execTransmitEnd s
  | .restartPerform order => Sys2Proof.Machine.execRestartPerform order s
  | .holdEnd => Sys2Proof.Machine.execHoldEnd s
  | .hostSilence => Sys2Proof.Machine.execHostSilence s
  | .powerOnReset => Sys2Proof.Machine.execPowerOnReset s
  | .intervalEnd input => Sys2Proof.Machine.execIntervalEnd input s
  | .fadeEnd channel => Sys2Proof.Machine.execFadeEnd channel s
  | .entryHoldEnd => Sys2Proof.Machine.execEntryHoldEnd s
  | .cabinConversion temperature => Sys2Proof.Machine.execCabinConversion temperature s
  | .glowEnd => Sys2Proof.Machine.execGlowEnd s
  | .purgeEnd => Sys2Proof.Machine.execPurgeEnd s
  | .senderConversion fresh grey black => Sys2Proof.Machine.execSenderConversion fresh grey black s
  | .temperatureConversion fresh grey order => Sys2Proof.Machine.execTemperatureConversion fresh grey order s
  | .dangerDue tank order => Sys2Proof.Machine.execDangerDue tank order s
  | .pumpRunExpiry => Sys2Proof.Machine.execPumpRunExpiry s
  | .grantWaitExpiry => Sys2Proof.Machine.execGrantWaitExpiry s
  | .settleEnd => Sys2Proof.Machine.execSettleEnd s
  | .motorStall => Sys2Proof.Machine.execMotorStall s
  | .backoffEnd => Sys2Proof.Machine.execBackoffEnd s
  | .retryWaitEnd => Sys2Proof.Machine.execRetryWaitEnd s
  | .motionTimeout => Sys2Proof.Machine.execMotionTimeout s
  | .destinationReached => Sys2Proof.Machine.execDestinationReached s
  | .brakeHoldEnd => Sys2Proof.Machine.execBrakeHoldEnd s
  | .gapTimerEnd => Sys2Proof.Machine.execGapTimerEnd s
  | .windWindowEnd => Sys2Proof.Machine.execWindWindowEnd s
  | .windPulse pin level => Sys2Proof.Machine.execWindPulse pin level s
  | .pinJoin pin samples order => Sys2Proof.Machine.execPinJoin pin samples order s
  | .debounceComplete pin samples order => Sys2Proof.Machine.execDebounceComplete pin samples order s
  | .scheduleFire entry => Sys2Proof.Machine.execScheduleFire entry s
  | .idleDue => Sys2Proof.Machine.execIdleDue s
  | .dormantEntry input => Sys2Proof.Machine.execDormantEntry input s
  | .leavingToActive input => Sys2Proof.Machine.execLeavingToActive input s
  | .calibrationEnd fastTime => Sys2Proof.Machine.execCalibrationEnd fastTime s
  | .calibrationNoSteps => Sys2Proof.Machine.execCalibrationNoSteps s
  | .deviceTimeAdvance edge input => Sys2Proof.Machine.execDeviceTimeAdvance edge input s
  | .driveMillisecond sample => Sys2Proof.Machine.execDriveMillisecond sample s
  | .unknownKindRequest kind tag payload => Sys2Proof.Machine.execUnknownKindRequest kind tag payload s

end Sys2Proof.Machine
end

