-- ==== Sys2Proof/Machine/Step.lean ====
section
/-! DEFINITION. One step of the part: the command at the front of the queue, or, on an empty queue, one
slot of the line's bit clock (log 5). -/

namespace Sys2Proof.Machine

/-- The command at the front of the queue acts with the queue's rest in place; on an empty queue the hold
timer falls by one slot of 640 bit times (R206, log 5). -/
def step (s : State) : Host.Outcome State Fault Refusal :=
  match s.pending with
  | [] => .next (holdSlot s)
  | c :: rest => exec c (s.setPending rest)

/-- The command that the word spells is put at the front of the queue; the table gives no row bits, so no
word spells one (log 34). -/
def State.withFetchWord (s : State) (nbits w : Nat) : State :=
  match decodeTableWord nbits w with
  | some c => s.setPending (c :: s.pending)
  | none => s

end Sys2Proof.Machine
end

