-- ==== Sys2Proof/Safety.lean ====
section
/-! DEFINITION. What the statements are written in: when a request stands to be taken and what its answer
is, what a command leaves unchanged, the bytes of a frame on the line, and the invariants whose keeping
makes a run safe. -/

namespace Sys2Proof.Machine

/-! ## Requests and their answers -/

/-- The kind code, tag and payload that a request command carries (R195, R217). -/
def requestOf : Instr → Option (Nat × Byte × List Byte)
  | .summary tag p => some (1, tag, p)
  | .paramWrite tag p _ => some (2, tag, p)
  | .paramRead tag p => some (3, tag, p)
  | .loadDemand tag p => some (4, tag, p)
  | .loadQuery tag p => some (5, tag, p)
  | .heatMode tag p => some (6, tag, p)
  | .movePost tag p => some (7, tag, p)
  | .moveCancel tag p => some (8, tag, p)
  | .moveQuery tag p => some (9, tag, p)
  | .schedWrite tag p => some (10, tag, p)
  | .schedRead tag p => some (11, tag, p)
  | .schedFree tag p => some (12, tag, p)
  | .pinMap tag p _ _ => some (13, tag, p)
  | .pinRead tag p _ => some (14, tag, p)
  | .tankQuery tag p => some (15, tag, p)
  | .meterQuery tag p => some (16, tag, p)
  | .flagClear tag p => some (17, tag, p)
  | .noticeMask tag p => some (18, tag, p)
  | .drainOpen tag p _ => some (19, tag, p)
  | .drainClose tag p _ => some (20, tag, p)
  | .accountSet tag p => some (21, tag, p)
  | .accountFull tag p => some (22, tag, p)
  | .sceneRecall tag p => some (23, tag, p)
  | .sceneStore tag p => some (24, tag, p)
  | .timeSet tag p _ => some (25, tag, p)
  | .timeQuery tag p => some (26, tag, p)
  | .recalibrate tag p => some (27, tag, p)
  | .dormant tag p => some (28, tag, p)
  | .restart tag p => some (29, tag, p)
  | .hold tag p => some (30, tag, p)
  | _ => none

/-- The request's frame is the oldest of the inbox, and the Link Interface can take it: the reply queue
has room, the part is not DORMANT, and no restart is pending (R189, R198, R210, log 2). -/
abbrev RequestAt (kind : Nat) (tag : Byte) (payload : List Byte) (s : State) : Prop :=
  s.link.inbox.head? = some ⟨BitVec.ofNat 8 kind, tag, payload⟩ ∧ s.link.replies.length < 4 ∧
    s.time.power ≠ .dormant ∧ s.link.restartPending = false

/-- From `s` to `t` the request left the inbox, its reply joined the reply queue, and a FREE transmitter
took it up (R198, R200). -/
abbrev Replied (kind : Nat) (tag : Byte) (reply : List Byte) (s t : State) : Prop :=
  t.link.inbox = s.link.inbox.tail ∧
    t.link.replies = s.link.replies ++ [⟨replyKind (BitVec.ofNat 8 kind), tag, reply⟩] ∧
    t.link.tx = (if s.link.tx = .free then .reply else s.link.tx)

/-- `s` after an answer that changes nothing else: the inbox, the reply queue, and a FREE transmitter,
which takes up the reply (R198, R200). -/
def answered (kind : Nat) (tag : Byte) (reply : List Byte) (s : State) : State :=
  s.setLink
    { s.link with
      inbox := s.link.inbox.tail
      replies := s.link.replies ++ [⟨replyKind (BitVec.ofNat 8 kind), tag, reply⟩]
      tx := if s.link.tx = .free then .reply else s.link.tx }

/-! ## Frames: what can differ after a command -/

/-- `s` with the flags and the idle due instant of `t`: what every command can change (R187, R202). -/
def afterEvent (s t : State) : State :=
  { s with
    link := { s.link with flags := t.link.flags }
    time := { s.time with idleDue := t.time.idleDue } }

/-- `s` with the inbox, the reply queue, the transmitter, the flags and the idle due instant of `t`: what
every request can change. -/
def afterRequest (s t : State) : State :=
  { afterEvent s t with
    link :=
      { s.link with
        flags := t.link.flags
        inbox := t.link.inbox
        replies := t.link.replies
        tx := t.link.tx } }

/-- `s` with what a walk and its hand-offs can change as `t` has it (R38 to R44, R60, R78, R82, R99, R114,
R142). -/
def afterWalk (s t : State) : State :=
  { s with
    table :=
      { s.table with recs := t.table.recs, waiting := t.table.waiting, granted := t.table.granted }
    lamps := { s.lamps with chans := t.lamps.chans }
    heater :=
      { s.heater with
        state := t.heater.state
        glowDue := t.heater.glowDue
        purgeDue := t.heater.purgeDue }
    tanks := { s.tanks with pumpDue := t.tanks.pumpDue }
    drive :=
      { s.drive with
        stage := t.drive.stage
        direction := t.drive.direction
        phaseTimer := t.drive.phaseTimer }
    act := { s.act with homing := t.act.homing } }

/-- `b` with what the frost controllers' demands, the heater, the pump guard and a wake can change as `t`
has it (R73, R98, R102, R190). -/
def afterFrost (b t : State) : State :=
  { afterWalk b t with
    heater :=
      { t.heater with
        hostMode := b.heater.hostMode
        schedMode := b.heater.schedMode
        reading := b.heater.reading
        sensor := b.heater.sensor
        failed := b.heater.failed
        latch := b.heater.latch }
    tanks := { t.tanks with recs := b.tanks.recs, pumpFault := b.tanks.pumpFault }
    pins := t.pins
    time := { b.time with power := t.time.power } }

/-- Every flag but those listed stands as before, with its mark. -/
abbrev FlagsKeptBut (l : List Flag) (s t : State) : Prop :=
  ∀ f, f ∉ l → flagBits t f = flagBits s f

/-- Every record but those of the listed channels keeps its origins with their levels. -/
abbrev OriginsKeptBut (l : List Channel) (s t : State) : Prop :=
  ∀ ch, ch ∉ l → origins t ch = origins s ch

/-- A slot of a ring is COMPLETE with a result, and is otherwise as it was (R129). -/
abbrev SlotEnded (i : Fin 16) (r : MotionResult) (s t : State) : Prop :=
  (slotAt t i).state = .complete ∧ (slotAt t i).result = some r ∧
    (slotAt t i).action = (slotAt s i).action ∧ (slotAt t i).target = (slotAt s i).target ∧
    (slotAt t i).notify = (slotAt s i).notify ∧ (slotAt t i).origin = (slotAt s i).origin

/-- The motion that an owner runs has ended with a result: the slot is COMPLETE with it, or the override
slot is NONE and keeps it as its last result, the counts as they were (R117, R129). -/
abbrev MotionEnded (o : Owner) (r : MotionResult) (s t : State) : Prop :=
  (∀ i : Fin 16, o.motion = .slot i → SlotEnded i r s t) ∧
    (o.motion = .override →
      overrideOf t o.actuator =
        { overrideOf s o.actuator with state := .none, cause := none, lastResult := some r })

/-- The motion that an owner runs is as it was but for its retries used and its run time (R115, R127). -/
abbrev MotionCounts (o : Owner) (retries runTime : Nat) (s t : State) : Prop :=
  (∀ i : Fin 16, o.motion = .slot i →
      slotAt t i = { slotAt s i with retries := retries, runTime := runTime }) ∧
    (o.motion = .override →
      overrideOf t o.actuator =
        { overrideOf s o.actuator with retries := retries, runTime := runTime })

/-- The stage in BRAKING, with the brake hold, after the motion of `o` has ended: the owner keeps what that
motion was (R116, R131, log 27). -/
def brakingFrom (o : Owner) (s : State) : DriveStage :=
  { s.drive with
    stage := .braking
    phaseTimer := s.params.brakeHold
    braked := some ⟨ownerAction s o, ownerRetries s o, ownerRunTime s o⟩ }

/-! ## Edges of the input events -/

/-- The samples `xs` complete the debounce of pin `i`, and the event `e` that it is bound to has an edge by
it: the pin is JOINED with the other level and a count of `n`, and no other pin holds the event active
(R161, R162). -/
abbrev EdgeAt (i : Fin 16) (e : InputEvent) (rising : Bool) (n : Nat) (xs : List Bool) (s : State) :
    Prop :=
  (pinAt s i).event = some (.input e) ∧ (pinAt s i).binding = .joined (!rising) n ∧
    n < debounceCount e s.time.power ∧
    xs = List.replicate (debounceCount e s.time.power - n)
      (rising == decide ((pinAt s i).polarity = .activeHigh)) ∧
    ∀ j, j ≠ i → (pinAt s j).joinedTo e ≠ some true

/-- The slot after the tail of a ring takes a post: ESTOP is not active, and the slot
holds no motion (R122). -/
abbrev RingTakes (a : Actuator) (s : State) : Prop :=
  eventActive s .estop = false ∧
    ((slotAt s (nextSlot s a (tailOf s a))).state = .free ∨
      (slotAt s (nextSlot s a (tailOf s a))).state = .complete)

/-- From `s` to `t` the slot after the tail has taken a motion and is the new tail; the other ring's tail
stays (R122). -/
abbrev Posted (a : Actuator) (act : MoveAction) (target : Option Nat) (notify : Bool)
    (origin : MoveOrigin) (s t : State) : Prop :=
  let x := slotAt t (nextSlot s a (tailOf s a))
  tailOf t a = nextSlot s a (tailOf s a) ∧ tailOf t (otherActuator a) = tailOf s (otherActuator a) ∧
    x.state ≠ .free ∧ x.action = act ∧ x.target = target ∧ x.notify = notify ∧ x.origin = origin ∧
    x.retries = 0 ∧ x.runTime = 0

/-- Every lamp is STEADY at its fade target and presents the draw of its applied level. -/
abbrev LampsAtRest (s : State) : Prop :=
  ∀ i : Fin 6, s.lamps.chans[i].fade = .steady ∧ s.lamps.chans[i].output = fadeTarget s i ∧
    s.lamps.chans[i].presented = ceilDiv (s.params.lampDraw * s.lamps.chans[i].applied) 100

/-! ## Bytes on the line -/

/-- The LEN byte and the body of a frame (R195). -/
def coveredBytes (f : Frame) : List Byte :=
  BitVec.ofNat 8 (f.payload.length + 2) :: f.kind :: f.tag :: f.payload

/-- The bytes of a frame on the line: START, LEN, kind, tag, payload, CRC high byte first (R195). -/
def lineBytes (f : Frame) : List Byte :=
  165#8 :: (coveredBytes f ++ u16 (crc16 (coveredBytes f)).toNat)

/-! ## The invariants of a safe run -/

/-- While the condition of a condition flag holds, that flag is set (R202). -/
abbrev FlagsStand (s : State) : Prop :=
  conditionFlags.all (fun f => !conditionHolds s f || flagSet s f) = true

/-- The idle due instant is present exactly while its conditions hold (R187). -/
abbrev IdleFollows (s : State) : Prop := s.time.idleDue.isSome = idleConditions s

/-- What holds between commands: condition flags stand, and the idle due instant follows. -/
abbrev Settled (s : State) : Prop := FlagsStand s ∧ IdleFollows s

/-- A flag that is clear has no mark (R202). -/
abbrev MarksOnSetFlags (s : State) : Prop :=
  allFlags.all (fun f => flagSet s f || !(flagBits s f).mark) = true

/-- The inbox and the reply queue hold at most four frames, and the transmitter sends a reply only while
one is queued (R196, R198, R200). -/
abbrev QueuesBounded (s : State) : Prop :=
  s.link.inbox.length ≤ 4 ∧ s.link.replies.length ≤ 4 ∧
    (s.link.tx = .reply → s.link.replies ≠ [])

/-- No channel stands twice in the waiting list and the grant order, and every channel in them is
demanded (R30). -/
abbrev ListsAgree (s : State) : Prop :=
  (s.table.waiting ++ s.table.granted).Nodup ∧
    (s.table.waiting ++ s.table.granted).all (demanded s) = true

/-- Every parameter lies in its range (R212). -/
abbrev ParamsInRange (s : State) : Prop :=
  ∀ i : Fin 105, ∀ sp ∈ paramSpec (i.val + 1), sp.lo ≤ s.params.val (i.val + 1) ∧
    s.params.val (i.val + 1) ≤ sp.hi

/-- The account lies within 0..Q_nom and the derating factor within 500..1000, over a capacity in its
range (R10, R11, R23). -/
abbrev AccountInRange (s : State) : Prop :=
  10000 ≤ s.params.capacity ∧ s.meter.q ≤ qNom s.params ∧ 500 ≤ s.meter.derating ∧
    s.meter.derating ≤ 1000

/-- A safe state: every invariant holds. No command stops the part (`Fault` is empty); a run is safe when
all its states are. -/
abbrev Safe (s : State) : Prop :=
  Settled s ∧ MarksOnSetFlags s ∧ QueuesBounded s ∧ ListsAgree s ∧ ParamsInRange s ∧ AccountInRange s

end Sys2Proof.Machine
end

