-- ==== Sys2Proof/Certificates/Slice0/Obligations.lean ====
section
/-! DEFINITION. The statements about the model. A request's statement holds for a state in which that
request stands to be taken (`RequestAt`), and most statements for a state whose condition flags and idle
due instant follow their conditions (`Settled`), which every step keeps (`StepKeepsSettled`). A frame is an
equation: the next state is the state before with the named fields as the next state has them. -/

section

open Sys2Proof Sys2Proof.Machine

/-! ## The machine -/

/-- The step of a state with a waiting command is that command's effect, with the rest of the queue
(log 1); with none waiting one slot of line time passes, and a hold that runs falls by one unless the
part is DORMANT (R206, log 5: the model's choice). -/
def Obligations.StepTakesTheFrontCommand : Prop :=
  ∀ (s : State) (c : Instr) (rest : List Instr),
    (s.pending = c :: rest → step s = exec c (s.setPending rest)) ∧
      (s.pending = [] →
        step s =
          .next
            (if s.time.power = .dormant then s
            else { s with link := { s.link with hold := s.link.hold - 1 } }))

/-- A power-on reset gives every block its state after reset, whatever the state before: no grant, no
motion, no binding, no schedule, an empty link, and of the flag set CHARGE_INHIBIT alone, with its mark
(R53, R88, R111, R135, R155, R169, R185, R192, R211). ATTENTION is active by R211, against R169 (log 39:
the model's choice). The values of log 25 are not among the clauses. -/
def Obligations.PowerOnResetOfTheBlocks : Prop :=
  ∀ (s : State),
    ∃ t, exec .powerOnReset s = .next t ∧
      t.params = Params.defaults ∧ t.pending = s.pending ∧
      (∀ ch, origins t ch = OriginSet.empty ∧ recordState t ch = .idle) ∧
      t.table.waiting = [] ∧ t.table.granted = [] ∧ t.table.budget = 3000 ∧ t.table.band = .critical ∧
      t.table.overdraw = 0 ∧ t.table.clear = 0 ∧
      (∀ i : Fin 6, t.lamps.chans[i] = ⟨0, 0, .steady, none, 0⟩) ∧ t.lamps.entryDue = none ∧
      (∀ (n : Fin 4) (i : Fin 6), t.lamps.scenes[n][i] = none) ∧
      (∀ i, tankRec t i = ⟨0, .unread, [], .parked, false⟩) ∧
      t.heater.state = .off ∧ t.heater.hostMode = .off ∧ t.heater.schedMode = .off ∧
      t.heater.frostOrigin = false ∧ t.heater.ceiling = .frost ∧ t.heater.effective = .off ∧
      t.heater.reading = none ∧ t.heater.sensor = .unread ∧ t.heater.thermostat = .satisfied ∧
      t.heater.demand = false ∧ t.heater.failed = 0 ∧ t.heater.latch = false ∧
      t.heater.glowDue = none ∧ t.heater.purgeDue = none ∧ t.heater.cabinDue = 16 ∧
      t.tanks.fresh = ⟨.safe, none, .unread, none⟩ ∧ t.tanks.grey = ⟨.safe, none, .unread, none⟩ ∧
      t.tanks.senderDue = some 16 ∧ t.tanks.tempDue = 16 ∧ t.tanks.pumpDue = none ∧
      t.tanks.pumpFault = false ∧
      t.drive.stage = .idle ∧ t.drive.owner = none ∧ t.drive.direction = none ∧ t.drive.gap = none ∧
      t.drive.lastActuator = .awning ∧ t.drive.lastServed = .awning ∧ t.drive.stallCount = 0 ∧
      (∀ i, (slotAt t i).state = .free) ∧ t.motion.stepTail = 7 ∧ t.motion.awningTail = 15 ∧
      t.motion.stepOverride.state = .none ∧ t.motion.stepOverride.lastResult = none ∧
      t.motion.awningOverride.state = .none ∧ t.motion.awningOverride.lastResult = none ∧
      t.act = ⟨none, none, none⟩ ∧ t.wind = ⟨0, 48, 0, 0, 0, false, 0⟩ ∧
      (∀ i, pinAt t i = ⟨.off, .activeHigh, none, false, .unbound⟩) ∧
      t.time.tick = 0 ∧ t.time.fraction = 0 ∧ t.time.inc = 131072 ∧ t.time.power = .active ∧
      t.time.crystal = .unchecked ∧ t.time.calib = .running 0 0 0 ∧ t.time.idleDue = none ∧
      (∀ i, (entryAt t i).state = .free) ∧
      t.link.rx = .hunt ∧ t.link.received = [] ∧ t.link.inbox = [] ∧ t.link.replies = [] ∧
      t.link.tx = .free ∧ t.link.restartPending = false ∧ t.link.masked = ⟨false, false, false⟩ ∧
      t.link.hold = 0 ∧ t.link.noticeCounter = 0 ∧ t.link.attended = .attended ∧
      t.link.silence = some 480 ∧
      (∀ f, flagBits t f = if f = .chargeInhibit then ⟨true, true⟩ else ⟨false, false⟩) ∧
      attention t = true

/-- R25: the Charge Meter after a power-on reset, the stored and the derived values. -/
def Obligations.PowerOnResetOfTheMeter : Prop :=
  ∀ (s : State),
    ∃ t, exec .powerOnReset s = .next t ∧
      t.meter.sync = .estimating ∧ t.meter.q = 0 ∧
      t.meter.filtered = 0 ∧ t.meter.derating = 1000 ∧ qFull t = qNom t.params ∧ usable t = 0 ∧
      storedSoc t = 0 ∧ usableSoc t = 0 ∧ reportedCharge t = 0 ∧ t.meter.syncTimer = 0 ∧
      t.meter.spent = false ∧ runtime t = 65535 ∧ t.meter.age = 0 ∧ t.meter.dayAcc = 0 ∧
      t.meter.socBand = .critical ∧ t.meter.band = .critical ∧
      t.meter.floor = .normal ∧ t.meter.belowTimer = 0 ∧ t.meter.recoveryTimer = 0 ∧
      t.meter.chargeInhibit = true ∧ outputActive t .chargeInhibit = true ∧
      t.meter.readings = none ∧ t.meter.acc = IntervalAcc.empty ∧ meterSensorLost t = false ∧
      t.params = Params.defaults ∧ t.meter.intervalStart = 0 ∧
      flagSet t .bandChange = false ∧ t.table.band = .critical ∧ t.heater.ceiling = .frost ∧
      (∀ i : Fin 6, lampCap t t.meter.band = t.params.nat 46 ∧ t.lamps.chans[i].applied = 0)

/-- R88: the Heater Sequencer after a power-on reset. -/
def Obligations.PowerOnResetOfTheHeater : Prop :=
  ∀ (s : State),
    ∃ t, exec .powerOnReset s = .next t ∧
      t.heater.state = .off ∧ outputActive t .heaterRun = false ∧
      t.heater.glowDue = none ∧ t.heater.purgeDue = none ∧
      t.heater.hostMode = .off ∧ t.heater.schedMode = .off ∧ t.heater.frostOrigin = false ∧
      requestedMode t.heater = .off ∧ t.heater.effective = .off ∧
      t.heater.ceiling = .frost ∧ t.meter.band = .critical ∧
      t.heater.sensor = .unread ∧ t.heater.reading = none ∧ t.heater.thermostat = .satisfied ∧
      t.heater.demand = false ∧ t.heater.failed = 0 ∧ t.heater.latch = false ∧
      t.params = Params.defaults ∧ t.heater.cabinDue = t.now + 16 ∧ sensorLost t = false

/-- The state after reset meets every invariant of a safe run. -/
def Obligations.TheStateAfterResetIsSafe : Prop :=
  Safe State.reset

/-! ## What every step keeps -/

/-- Whatever command a step takes, from a state in which every condition flag stands whose condition holds
and the idle due instant is present exactly while its conditions hold (R187, R202), it leads to such a
state. They are brought up to date at the end of each command and of each event within one (log 24: the model's
reading). -/
def Obligations.StepKeepsSettled : Prop :=
  ∀ (s t : State), Settled s → step s = .next t → Settled t

/-- Every step keeps the link's invariants: a flag that is clear has no mark (R202); the inbox and the reply
queue hold at most four frames, and the transmitter is in REPLY only while a reply is queued (R196, R197,
R198, R200). -/
def Obligations.LinkInvariantsAreKept : Prop :=
  (∀ (s t : State), MarksOnSetFlags s → step s = .next t → MarksOnSetFlags t) ∧
  (∀ (s t : State), QueuesBounded s → step s = .next t → QueuesBounded t)

/-- No record ever stands twice in the waiting list and the grant order, and only demanded records stand
there (R30). -/
def Obligations.StepKeepsListsAgree : Prop :=
  ∀ (s t : State), ListsAgree s → step s = .next t → ListsAgree t

/-- Every step keeps every parameter in its range (R212), and with that the account within 0..Q_nom and the
derating factor within 500..1000 (R10, R11, R24). -/
def Obligations.ParametersAndAccountStayInRange : Prop :=
  (∀ (s t : State), ParamsInRange s → step s = .next t → ParamsInRange t) ∧
  (∀ (s t : State), ParamsInRange s → AccountInRange s → step s = .next t → AccountInRange t)

/-- The published band changes at interval ends only (R22): no command changes it but one that can close
an interval (R2: INTERVAL_END, TIME_SET, and the slow steps that enter DORMANT or ACTIVE) and a power-on
reset. -/
def Obligations.TheBandChangesAtIntervalEndsOnly : Prop :=
  ∀ (s t : State) (c : Instr),
    exec c s = .next t → t.meter.band ≠ s.meter.band →
      (∃ input, c = .intervalEnd input) ∨ (∃ tag p input, c = .timeSet tag p input) ∨
        (∃ input, c = .dormantEntry input) ∨ (∃ input, c = .leavingToActive input) ∨
        (∃ edge input, c = .deviceTimeAdvance edge input) ∨ c = .powerOnReset

/-- A heater in STARTING or RUNNING never turns off without a purge: whatever the command, but for a
power-on reset, it stays there or enters PURGING (R81). -/
def Obligations.TheHeaterStopsOnlyThroughAPurge : Prop :=
  ∀ (s t : State) (c : Instr),
    exec c s = .next t → c ≠ .powerOnReset →
      s.heater.state = .starting ∨ s.heater.state = .running →
        t.heater.state = .starting ∨ t.heater.state = .running ∨ t.heater.state = .purging

/-- The motor is driven toward a destination only after the settle time or a retry wait: RUNNING is
entered from WAKING and from RETRY_WAIT alone (R115, R127), and no command enters BACKING but a stall in
RUNNING. -/
def Obligations.RunningIsEnteredFromWakingOrRetryWait : Prop :=
  ∀ (s t : State) (c : Instr),
    exec c s = .next t →
      (t.drive.stage = .running →
        s.drive.stage = .running ∨ s.drive.stage = .waking ∨ s.drive.stage = .retryWait) ∧
      (t.drive.stage = .backing →
        s.drive.stage = .backing ∨ (c = .motorStall ∧ s.drive.stage = .running))

/-! ## Load Table -/

/-- One walk from any state: the granted draws of classes 1 to 3 fit the allowed sum, the band serves
every such grant, every demanded record of class 0 and every presented purge is granted, no record is
granted twice, and neither an origin nor the budget changes (R37 to R41). -/
def Obligations.AWalkFitsBudgetAndBand : Prop :=
  ∀ (s : State),
    s.table.granted.Nodup →
      s13 (walk s) ≤ allowed (walk s) ∧
        (∀ ch ∈ candidates (walk s), served (walk s) ch = true) ∧
        (∀ ch, demanded s ch = true →
          classOf s ch = 0 ∨ (ch = chHeater ∧ heaterPhase s = .purge) →
            isGranted (walk s) ch = true) ∧
        ((s.table.waiting ++ s.table.granted).Nodup →
          ((walk s).table.waiting ++ (walk s).table.granted).Nodup) ∧ OriginsKeptBut [] s (walk s) ∧
        (walk s).table.budget = s.table.budget ∧ (walk s).table.band = s.table.band

/-- One check of an interval's current (R46, R47): the counters, the shed of the fifth high interval with
its hold and its flag, and the release of every hold at the fifth clear one. -/
def Obligations.OverdrawCheckCountsAndSheds : Prop :=
  ∀ (s : State) (current : Int),
    let high : Bool := decide (current ≤ -((s.table.budget : Int) + s.params.overdrawMargin))
    let t := overdrawCheck current s
    t.table.overdraw = (if high then if s.table.overdraw < 4 then s.table.overdraw + 1 else 0 else 0) ∧
      t.table.clear = (if high then 0 else if s.table.clear < 4 then s.table.clear + 1 else 0) ∧
      (high = false → 4 ≤ s.table.clear → ∀ ch : Channel, t.table.recs[ch].overdrawHold = false) ∧
      (high = true → 4 ≤ s.table.overdraw → ListsAgree s →
        ∀ ch, pickShed s (candidates s) = some ch →
          flagBits t .overdrawShed = ⟨true, true⟩ ∧ t.table.recs[ch].overdrawHold = true ∧
            (ch ≠ chHeater → isGranted t ch = false) ∧
            (ch = chHeater → heaterPhase s = .glow ∨ heaterPhase s = .run →
              t.heater.state = .purging)) ∧
      OriginsKeptBut [] s t ∧ FlagsKeptBut [.overdrawShed, .loadShed] s t ∧
      t = { afterWalk (afterEvent s t) t with table := t.table }

/-! ## The link -/

/-- Every request that is taken is answered once, whatever it asks and however it is judged: it leaves
the inbox, and one reply of its kind and tag, whose first byte is a result code, joins the reply queue
(R198, R199). -/
def Obligations.EveryTakenRequestIsAnsweredOnce : Prop :=
  ∀ (s : State) (c : Instr) (kind : Nat) (tag : Byte) (p : List Byte),
    requestOf c = some (kind, tag, p) → c.wellFormed = true → RequestAt kind tag p s →
      ∃ t, exec c s = .next t ∧ ∃ (b : Byte) (rest : List Byte),
        Replied kind tag (b :: rest) s t ∧ b.toNat ≤ 10

/-- A frame, written byte by byte as R195 lays it out with the CRC of its bytes, is received as that
frame, whether its START byte is among the bytes or START_BYTE has taken it before (the receiver in
LENGTH): it joins the inbox, or is answered BUSY or lost where the queues are full (R196, R197), the host
is ATTENDED (R208), and a part in ENTERING or DORMANT wakes at the START byte (R190). -/
def Obligations.AFrameOnTheLineArrives : Prop :=
  ∀ (s : State) (f : Frame) (started : Bool),
    let bytes := if started then (lineBytes f).drop 1 else lineBytes f
    f.payload.length ≤ 58 →
      s.link.rx = (if started then .length else .hunt) → (started = true → s.time.power ≠ .dormant) →
      ∃ t, exec (.validFrame bytes) s = .next t ∧
        t.link.rx = .hunt ∧ t.link.received = [] ∧ t.link.expected = 0 ∧
        t.link.attended = .attended ∧
        t.link.silence =
          (if s.params.silenceTimeout = 0 then none else some (s.params.silenceTimeout * 16)) ∧
        t.time.power = (if asleep s ∧ started = false then .leaving else s.time.power) ∧
        (s.link.inbox.length < 4 →
          t.link.inbox = s.link.inbox ++ [f] ∧ t.link.replies = s.link.replies ∧
            t.link.tx = s.link.tx) ∧
        (4 ≤ s.link.inbox.length → s.link.replies.length < 4 →
          t.link.inbox = s.link.inbox ∧
            t.link.replies = s.link.replies ++ [⟨replyKind f.kind, f.tag, [5#8]⟩] ∧
            t.link.tx = (if s.link.tx = .free then .reply else s.link.tx)) ∧
        (4 ≤ s.link.inbox.length → 4 ≤ s.link.replies.length →
          t.link.inbox = s.link.inbox ∧ t.link.replies = s.link.replies ∧ t.link.tx = s.link.tx) ∧
        (Settled s → FlagsKeptBut [] s t) ∧
        (s.time.power ≠ .dormant →
          t.heater = s.heater ∧ t.tanks = s.tanks ∧ t.pins = s.pins) ∧
        t = { s with
          heater := { s.heater with cabinDue := t.heater.cabinDue }
          tanks := { s.tanks with senderDue := t.tanks.senderDue, tempDue := t.tanks.tempDue }
          pins := t.pins
          time := { s.time with power := t.time.power, idleDue := t.time.idleDue }
          link :=
            { t.link with
              restartPending := s.link.restartPending
              masked := s.link.masked
              hold := s.link.hold
              noticeCounter := s.link.noticeCounter } }

/-- The nine queries answer with the state and change nothing else (R28, R49, R110, R131, R168, R178,
R184, R207, R213). -/
def Obligations.QueriesChangeNothingElse : Prop :=
  ∀ (s : State) (tag x y : Byte) (p : List Byte) (levels : BitVec 16),
    Settled s →
      (RequestAt 1 tag [] s →
        exec (.summary tag []) s = .next (answered 1 tag (summaryReply s) s)) ∧
      (RequestAt 3 tag p s → 1 ≤ p.length → p.length ≤ 8 →
        exec (.paramRead tag p) s =
          .next (answered 3 tag (readReply s (p.map (fun b => b.toNat))) s)) ∧
      (RequestAt 5 tag [x] s →
        exec (.loadQuery tag [x]) s = .next (answered 5 tag (loadQueryReply x s) s)) ∧
      (RequestAt 9 tag [x, y] s →
        exec (.moveQuery tag [x, y]) s = .next (answered 9 tag (moveQueryReply x y s) s)) ∧
      (RequestAt 11 tag [x] s →
        exec (.schedRead tag [x]) s = .next (answered 11 tag (schedReadReply x s) s)) ∧
      (RequestAt 14 tag [x] s →
        exec (.pinRead tag [x] levels) s = .next (answered 14 tag (pinReadReply x levels s) s)) ∧
      (RequestAt 15 tag [x] s →
        exec (.tankQuery tag [x]) s = .next (answered 15 tag (tankQueryReply x s) s)) ∧
      (RequestAt 16 tag [] s →
        exec (.meterQuery tag []) s = .next (answered 16 tag (meterReply s) s)) ∧
      (RequestAt 26 tag [] s →
        exec (.timeQuery tag []) s = .next (answered 26 tag (timeQueryReply s) s))

/-- R213: the reply to a PARAM_READ, identifier by identifier, in the byte coding of the parameter
formats; the read changes nothing. -/
def Obligations.ParamReadReportsEachIdentifier : Prop :=
  ∀ (s : State) (tag : Byte) (p : List Byte),
    RequestAt 3 tag p s → 1 ≤ p.length → p.length ≤ 8 → Settled s →
      exec (.paramRead tag p) s =
        .next
          (answered 3 tag
            ((if p.all (fun b => (paramSpec b.toNat).isSome) then 0#8 else 4#8) ::
              p.flatMap (fun b =>
                if (paramSpec b.toNat).isSome then b :: 0#8 :: i32 (s.params.val b.toNat)
                else [b, 4#8, 0#8, 0#8, 0#8, 0#8])) s) ∧
        ∀ b ∈ p, ((paramSpec b.toNat).isSome ↔ 1 ≤ b.toNat ∧ b.toNat ≤ 105)

/-- A payload length that R217 does not list for the kind is answered LENGTH, and a kind code that names
no request is answered UNKNOWN; neither changes anything else (R198, R217). While the reply queue is full,
the part DORMANT or a restart pending, no request is taken (R189, R198, R210): the command changes nothing
(log 1: the model's choice of what a command that cannot be taken does). -/
def Obligations.RequestsThatOnlyAnswerOrWait : Prop :=
  (∀ (s : State) (c : Instr) (kind : Nat) (k tag : Byte) (p : List Byte),
    Settled s →
      (requestOf c = some (kind, tag, p) → c.wellFormed = true → RequestAt kind tag p s →
        lengthAllowed kind p.length = false →
          exec c s = .next (answered kind tag [3#8] s)) ∧
      (unknownKindOk k = true → RequestAt k.toNat tag p s →
        exec (.unknownKindRequest k tag p) s = .next (answered k.toNat tag [2#8] s))) ∧
  (∀ (s : State) (c : Instr) (kind : Nat) (tag : Byte) (p : List Byte),
    requestOf c = some (kind, tag, p) → c.wellFormed = true →
      4 ≤ s.link.replies.length ∨ s.time.power = .dormant ∨ s.link.restartPending = true →
        exec c s = .next s)

/-- One pair of a PARAM_WRITE (R212): refused with its result and without effect, RANGE for an unknown
identifier, a value outside the range or out of order with its fellows (R23, R86, R109, R134), BUSY while
the owner holds a motion (R123, R153); accepted, the parameter takes the value, no other parameter
changes, and for a parameter that acts at its next use nothing else does. Others act at once: the
capacity (R24), allowances, draws and classes (R34, R52), the lamp draw, caps and fade rate (R57, R58),
the entry channel (R63), setpoints (R86), tank calibration and thresholds (R91, R94), auto-drain (R103),
the ring split (R123), the travel times (R153), the auto-dormant time (R187) and the silence timeout
(R209). Two clauses are the model's readings: a write of the entry channel while ENTRY stands moves it
even where the value is the present one (log 38), and the pump guard is enforced at the end of a write
that makes or finds it held (log 31). -/
def Obligations.ParamWriteOfOnePair : Prop :=
  (∀ (s : State) (tag : Byte) (order : List HandOff) (id : Byte) (v : BitVec 32),
    let p := id :: i32 v.toInt
    let r := judgeParam s id.toNat v.toInt
    RequestAt 2 tag p s → Settled s →
      (paramSpec id.toNat = none → r = .range) ∧
      (∀ sp ∈ paramSpec id.toNat, (v.toInt < sp.lo ∨ sp.hi < v.toInt) → r = .range) ∧
      (r ≠ .accepted →
        exec (.paramWrite tag p order) s =
          .next (answered 2 tag ([BitVec.ofNat 8 r.code, 1#8, id, BitVec.ofNat 8 r.code]) s)) ∧
      (r = .accepted →
        ∃ t, exec (.paramWrite tag p order) s = .next t ∧
          Replied 2 tag [0#8, 1#8, id, 0#8] s t ∧ t.params.val id.toNat = v.toInt ∧
          (∀ j : Fin 106, 1 ≤ j.val → j.val ≠ id.toNat → t.params.val j.val = s.params.val j.val)) ∧
      (r = .accepted →
        (2 ≤ id.toNat ∧ id.toNat ≤ 18) ∨ (25 ≤ id.toNat ∧ id.toNat ≤ 26) ∨
          (48 ≤ id.toNat ∧ id.toNat ≤ 53) ∨ (55 ≤ id.toNat ∧ id.toNat ≤ 58) ∨
          (63 ≤ id.toNat ∧ id.toNat ≤ 64) ∨ (77 ≤ id.toNat ∧ id.toNat ≤ 84) ∨
          (87 ≤ id.toNat ∧ id.toNat ≤ 97) ∨ (100 ≤ id.toNat ∧ id.toNat ≤ 103) →
        exec (.paramWrite tag p order) s =
          .next
            ((answered 2 tag [0#8, 1#8, id, 0#8] s).setParams (s.params.put id.toNat v.toInt)))) ∧
  (∀ (s : State) (id : Nat) (v : Int),
    let u := s.params.put id v
    let ordered : Prop :=
      (9 ≤ id → id ≤ 11 → u.val 11 < u.val 10 ∧ u.val 10 < u.val 9) ∧
      (id = 15 ∨ id = 17 → u.val 15 < u.val 17) ∧
      (59 ≤ id → id ≤ 61 → u.val 59 < u.val 60 ∧ u.val 60 < u.val 61) ∧
      (id = 65 ∨ id = 66 → u.val 65 ≠ u.val 66) ∧ (id = 67 ∨ id = 68 → u.val 67 ≠ u.val 68) ∧
      (id = 69 ∨ id = 70 → u.val 69 ≠ u.val 70) ∧
      (78 ≤ id → id ≤ 83 →
        u.val 82 < u.val 83 ∧ u.val 83 < u.val 80 ∧ u.val 80 < u.val 81 ∧ u.val 81 < u.val 78 ∧
          u.val 78 < u.val 79) ∧
      (id = 94 → u.val 94 % 10 = 0)
    let holds := fun (a : Actuator) =>
      s.drive.owner.any (fun o => decide (o.actuator = a)) = true ∨ (overrideOf s a).state = .active
    let busy : Prop :=
      (id = 86 ∧ ∃ j, (slotAt s j).state = .ready ∨ (slotAt s j).state = .active) ∨
        (id = 98 ∧ holds .awning) ∨ (id = 99 ∧ holds .step)
    ∀ sp ∈ paramSpec id, sp.lo ≤ v → v ≤ sp.hi →
      (¬ordered → judgeParam s id v = .range) ∧
      (ordered → busy → judgeParam s id v = .busy) ∧
      (ordered → ¬busy → judgeParam s id v = .accepted)) ∧
  (∀ (s : State) (tag : Byte) (order : List HandOff) (id : Byte) (v : BitVec 32),
    let p := id :: i32 v.toInt
    let u := s.setParams (s.params.put id.toNat v.toInt)
    RequestAt 2 tag p s → Settled s → judgeParam s id.toNat v.toInt = .accepted →
      ∃ t, exec (.paramWrite tag p order) s = .next t ∧
        t.params = u.params ∧
        (id.toNat = 1 →
          t.meter =
            if s.params.capacity = u.params.capacity then s.meter
            else
              { s.meter with
                q := s.meter.q * u.params.capacity / s.params.capacity
                sync := if s.meter.sync = .estimating then .estimating else .unsynced
                syncTimer := 0
                spent := false }) ∧
        (19 ≤ id.toNat → id.toNat ≤ 24 → t.table.budget = budgetNow u ∧ OriginsKeptBut [] s t) ∧
        (id.toNat = 27 →
          OriginsKeptBut [] s t ∧
            ∀ k : Fin 6, t.lamps.chans[k].presented =
              ceilDiv (u.params.lampDraw * t.lamps.chans[k].drawLevel) 100) ∧
        (28 ≤ id.toNat → id.toNat ≤ 42 →
          OriginsKeptBut [] s t ∧
            (ListsAgree s → LampsAtRest s →
              (∃ ch, demanded s ch = true ∧
                (demandDraw u ch ≠ demandDraw s ch ∨ classOf u ch ≠ classOf s ch)) →
              s13 t ≤ allowed t ∧ ∀ ch ∈ candidates t, served t ch = true)) ∧
        (43 ≤ id.toNat → id.toNat ≤ 46 →
          ∀ k : Fin 6, t.lamps.chans[k].applied = min (lampTarget s k) (lampCap u s.meter.band)) ∧
        (id.toNat = 47 → u.params.fadeRate = 0 →
          ∀ k : Fin 6, t.lamps.chans[k].fade = .steady ∧
            (s.time.power = .active → t.lamps.chans[k].output = fadeTarget t k)) ∧
        (id.toNat = 54 →
          (s.lamps.entryDue.isSome = true →
            t.lamps.entryDue = none ∧
              ∀ ch, origins t ch =
                if (ch.val : Int) = s.params.entryChannel ∧ ch.val < 6 then
                  { origins s ch with entry := none }
                else origins s ch) ∧
          (s.lamps.entryDue = none → OriginsKeptBut [] s t ∧ t.table = s.table)) ∧
        (59 ≤ id.toNat → id.toNat ≤ 62 →
          t.heater.effective = (requestedMode s.heater).inf (ceilingOf s.meter.band) ∧
            t.heater.demand = demandOf t.heater ∧
            (s.heater.sensor = .present → ∀ x ∈ s.heater.reading,
              ∀ sp ∈ setpointOf u.params t.heater.effective,
                (x ≤ sp - u.params.thermostatHysteresis → t.heater.thermostat = .calling) ∧
                (sp - u.params.thermostatHysteresis < x → sp + u.params.thermostatHysteresis ≤ x →
                  t.heater.thermostat = .satisfied))) ∧
        (∀ k : Fin 3, id.toNat = 65 + 2 * k.val ∨ id.toNat = 66 + 2 * k.val →
          (tankRec t k).window = [] ∧ (tankRec t k).raw = (tankRec s k).raw ∧
            (tankRec t k).source =
              (match (tankRec s k).source with
              | .parked => .held (levelInUse (tankRec s k))
              | .held l => .held l) ∧
            ∀ j, j ≠ k → (tankRec t j).window = (tankRec s j).window ∧
              (tankRec t j).source = (tankRec s j).source) ∧
        (71 ≤ id.toNat → id.toNat ≤ 74 →
          ∀ k, ∀ l ∈ levelInUse (tankRec s k),
            (thresholdSets u.params k l = true → (tankRec t k).threshold = true) ∧
            (thresholdSets u.params k l = false → thresholdClears u.params k l = true →
              (tankRec t k).threshold = false)) ∧
        (71 ≤ id.toNat → id.toNat ≤ 76 →
          origins t chPump = (if pumpGuard t then OriginSet.empty else origins s chPump)) ∧
        (id.toNat = 85 →
          t.tanks.fresh =
            if v.toInt = 1 ∧ s.tanks.fresh.state = .danger then
              { s.tanks.fresh with state := .drained, dangerDue := none }
            else s.tanks.fresh) ∧
        (id.toNat = 86 →
          (v.toInt = s.params.val 86 → t.motion = s.motion) ∧
          (v.toInt ≠ s.params.val 86 →
            (∀ j, (slotAt t j).state = .free) ∧ (t.motion.stepTail.val : Int) = v.toInt - 1 ∧
              t.motion.awningTail = 15 ∧ t.motion.stepOverride = s.motion.stepOverride ∧
              t.motion.awningOverride = s.motion.awningOverride)) ∧
        (id.toNat = 98 →
          t.act.stepMs = s.act.stepMs ∧
            t.act.posMs = s.act.posMs.map (fun x => x * u.params.awningTravel / s.params.awningTravel)) ∧
        (id.toNat = 99 →
          t.act.posMs = s.act.posMs ∧
            t.act.stepMs = s.act.stepMs.map (fun x => x * u.params.stepTravel / s.params.stepTravel)) ∧
        (id.toNat = 104 →
          t.time.idleDue =
            if idleConditions u = true then some (s.ahead (u.params.autoDormant * 16)) else none) ∧
        (id.toNat = 105 →
          t.link.attended = .attended ∧
            t.link.silence =
              if u.params.silenceTimeout = 0 then none else some (u.params.silenceTimeout * 16)))

/-- FLAG_CLEAR with numbers that all name flags (R203): a set flag that is named is cleared with its mark,
but a condition flag only where its condition does not hold; a cleared PUMP_FAULT clears the latch; with
any other number nothing is cleared. HEATER_LOCKOUT, number 9, is named by its own clause: its clear
clears the latch and the failed-start count, and ends LOCKOUT (R84). -/
def Obligations.FlagClearByKind : Prop :=
  ∀ (s : State) (tag : Byte) (p : List Byte),
    RequestAt 17 tag p s → 1 ≤ p.length → p.length ≤ 21 → Settled s →
      ((∀ b ∈ p, 1 ≤ b.toNat ∧ b.toNat ≤ 21 ∧ b.toNat ≠ 9) →
        ∃ t, exec (.flagClear tag p) s = .next t ∧ Replied 17 tag (0#8 :: flagList t) s t ∧
          (∀ f, flagBits t f =
            if (∃ b ∈ p, b.toNat = f.number) ∧ flagSet s f = true ∧ conditionHolds s f = false then
              ⟨false, false⟩
            else flagBits s f) ∧
          t.tanks.pumpFault =
            (s.tanks.pumpFault &&
              !(p.any (fun b => decide (b.toNat = 8)) && flagSet s .pumpFault)) ∧
          t = { afterRequest s t with tanks := { s.tanks with pumpFault := t.tanks.pumpFault } }) ∧
      (p = [9#8] → flagSet s .heaterLockout = true → s.heater.latch = true →
        ∃ t, exec (.flagClear tag p) s = .next t ∧ Replied 17 tag (0#8 :: flagList t) s t ∧
          flagBits t .heaterLockout = ⟨false, false⟩ ∧ t.heater.latch = false ∧
          t.heater.failed = 0 ∧ (s.heater.state ≠ .lockout → t.heater.state = s.heater.state) ∧
          t.heater.state ≠ .lockout ∧ FlagsKeptBut [.heaterLockout, .loadShed] s t ∧
          OriginsKeptBut [chHeater] s t ∧
          t = { afterWalk (afterRequest s t) t with
            heater :=
              { (afterWalk (afterRequest s t) t).heater with latch := false, failed := 0 } }) ∧
      ((∃ b ∈ p, b.toNat = 0 ∨ 21 < b.toNat) →
        exec (.flagClear tag p) s = .next (answered 17 tag (4#8 :: flagList s) s))

/-- NOTICE_MASK (R205): each level takes its setting, 2 leaving it; the mark is set on every set flag of a
level that becomes UNMASKED; an unknown setting refuses the request RANGE. -/
def Obligations.NoticeMaskSetsTheLevels : Prop :=
  ∀ (s : State) (tag a b c : Byte),
    let set := fun (old : Bool) (x : Byte) => if x = 2#8 then old else decide (x = 0#8)
    let code := fun (m : Bool) => if m then 0#8 else 1#8
    let m : LevelMask :=
      ⟨set s.link.masked.safety a, set s.link.masked.energy b, set s.link.masked.service c⟩
    RequestAt 18 tag [a, b, c] s → Settled s →
      (a.toNat ≤ 2 ∧ b.toNat ≤ 2 ∧ c.toNat ≤ 2 →
        ∃ t, exec (.noticeMask tag [a, b, c]) s = .next t ∧
          Replied 18 tag [0#8, code m.safety, code m.energy, code m.service] s t ∧
          t.link.masked = m ∧
          (∀ f, flagBits t f =
            if levelMasked s f.level = true ∧ levelMasked t f.level = false ∧ flagSet s f = true then
              ⟨true, true⟩
            else flagBits s f) ∧
          t = { afterRequest s t with link := { (afterRequest s t).link with masked := m } }) ∧
      (2 < a.toNat ∨ 2 < b.toNat ∨ 2 < c.toNat →
        exec (.noticeMask tag [a, b, c]) s = .next (answered 18 tag [4#8] s))

/-- A notice (R204, R220): of the highest UNMASKED level that holds a marked flag, when the transmitter is
free and no reply, hold or restart keeps it, with the counter as tag and the level's set flags in
ascending number; beginning it clears the level's marks and its occurrence flags, and no other flag. -/
def Obligations.NoticeBeginReportsALevel : Prop :=
  ∀ (s : State) (l : FlagLevel),
    let fs := allFlags.filter (fun f => flagSet s f && decide (f.level = l))
    s.link.tx = .free → s.link.replies = [] → s.time.power = .active ∨ s.time.power = .leaving →
      s.link.hold = 0 → s.link.restartPending = false →
      levelMasked s l = false → (∃ f, f.level = l ∧ (flagBits s f).mark = true) →
      (∀ l', l'.code < l.code → levelMasked s l' = true ∨ ∀ f, f.level = l' → (flagBits s f).mark = false) →
      MarksOnSetFlags s → Settled s →
        ∃ t, exec .noticeBegin s = .next t ∧
          t.link.tx =
            .notice
              ⟨64#8, s.link.noticeCounter,
                BitVec.ofNat 8 l.code :: BitVec.ofNat 8 fs.length ::
                  fs.map (fun f => flagByte f (flagBits s f).mark)⟩ ∧
          1 ≤ fs.length ∧ fs.length ≤ 9 ∧ t.link.noticeCounter = s.link.noticeCounter + 1 ∧
          (∀ f, flagBits t f =
            if f.level = l then
              if f.kind = .occurrence then ⟨false, false⟩ else ⟨(flagBits s f).set, false⟩
            else flagBits s f) ∧
          t = { afterEvent s t with
            link := { (afterEvent s t).link with tx := t.link.tx, noticeCounter := t.link.noticeCounter } }

/-- The last byte of a frame has been sent (R200): a reply that has been sent leaves the queue, and the
transmitter takes the next reply, or is FREE where there is none, where the part is DORMANT, or where the
restart is due (R210). -/
def Obligations.TransmitEndTakesTheNextReply : Prop :=
  ∀ (s : State),
    let rest := if s.link.tx = .reply then s.link.replies.tail else s.link.replies
    let due := s.link.restartPending && !rest.any isRestartReply
    s.link.tx ≠ .free → Settled s →
      exec .transmitEnd s =
        .next
          (s.setLink
            { s.link with
              replies := rest
              tx := if due = true ∨ s.time.power = .dormant ∨ rest = [] then .free else .reply })

/-- The receiver's own events: a START byte in HUNT, the discards of a wrong LEN byte, of a wrong CRC and
of a framing error, the time-out, and the end of a hold at its last slot of line time (R194, R195, R206;
HOLD_END reports that slot, and the idle step counts the others: log 5, the model's choice). A framing
error in HUNT changes nothing. None touches a queue. A START byte in ENTERING or DORMANT wakes the part
(R190, R196). -/
def Obligations.ReceiverEvents : Prop :=
  (∀ (s : State) (b hi lo : Byte) (f : Frame),
    Settled s → s.time.power = .active ∨ s.time.power = .leaving →
      (s.link.rx = .hunt →
        exec .startByte s =
          .next (s.setLink { s.link with rx := .length, received := [], expected := 0 })) ∧
      (s.link.rx = .length → b.toNat < 2 ∨ 60 < b.toNat →
        exec (.frameDiscard [b] false) s =
          .next (s.setLink { s.link with rx := .hunt, received := [], expected := 0 })) ∧
      (s.link.rx = .hunt → f.payload.length ≤ 58 →
        hi.toNat * 256 + lo.toNat ≠ (crc16 (coveredBytes f)).toNat →
        exec (.frameDiscard (165#8 :: (coveredBytes f ++ [hi, lo])) false) s =
          .next (s.setLink { s.link with rx := .hunt, received := [], expected := 0 })) ∧
      (s.link.rx ≠ .hunt →
        exec (.frameDiscard [] true) s =
          .next (s.setLink { s.link with rx := .hunt, received := [], expected := 0 })) ∧
      (s.link.rx ≠ .hunt →
        exec .receiveTimeout s =
          .next (s.setLink { s.link with rx := .hunt, received := [], expected := 0 })) ∧
      (s.link.rx = .hunt → exec (.frameDiscard [] true) s = .next s) ∧
      (s.link.hold = 1 → exec .holdEnd s = .next (s.setLink { s.link with hold := 0 }))) ∧
  (∀ (s : State),
    asleep s = true → s.link.rx = .hunt → Settled s →
      ∃ t, exec .startByte s = .next t ∧
        t.time.power = .leaving ∧
        t.link = { s.link with rx := .length, received := [], expected := 0, flags := t.link.flags } ∧
        FlagsKeptBut [] s t ∧
        (s.time.power = .entering →
          t.heater = s.heater ∧ t.tanks = s.tanks ∧ t.pins = s.pins) ∧
        (s.time.power = .dormant →
          t.heater = { s.heater with cabinDue := s.ahead 16 } ∧
            t.tanks = { s.tanks with senderDue := some (s.ahead 16), tempDue := s.ahead 16 } ∧
            ∀ i, pinAt t i = (pinAt s i).clearCount) ∧
        t = { s with
          heater := t.heater
          tanks := t.tanks
          pins := t.pins
          link := t.link
          time := { s.time with power := .leaving, idleDue := t.time.idleDue } })

/-- The silence count has run out (R208, R50): the host is UNATTENDED, HOST_SILENCE is flagged, and HOST
is withdrawn from every record whose demand class is 3, and from no other. -/
def Obligations.HostSilenceWithdrawsClassThree : Prop :=
  ∀ (s : State),
    s.link.silence = some 0 → Settled s →
      ∃ t, exec .hostSilence s = .next t ∧
        t.link.attended = .unattended ∧ t.link.silence = none ∧
        flagBits t .hostSilence = ⟨true, true⟩ ∧
        (∀ ch, origins t ch =
          if demandClass s ch = some 3 then { origins s ch with host := none } else origins s ch) ∧
        FlagsKeptBut [.hostSilence, .loadShed] s t ∧
        t = { afterWalk (afterEvent s t) t with
          link := { (afterEvent s t).link with attended := .unattended, silence := none } }

/-- RECALIBRATE (R176), RESTART (R210), HOLD (R206) and DORMANT (R186, R188, R67): their replies and what
each sets. An accepted DORMANT makes the part ENTERING with every lamp dark. That a refused DORMANT gives
the activity conditions as one byte of bits in the order of R186 is the model's choice (log 10). -/
def Obligations.RecalibrateRestartHoldDormant : Prop :=
  ∀ (s : State) (tag hi lo : Byte),
    Settled s →
      (RequestAt 27 tag [] s → s.time.power = .active → s.time.calib = .idle →
        exec (.recalibrate tag []) s =
          .next
            ((answered 27 tag [0#8, 1#8, BitVec.ofNat 8 s.time.crystal.code] s).setTime
              { s.time with calib := .running 0 0 0, idleDue := none })) ∧
      (RequestAt 27 tag [] s → s.time.power ≠ .active ∨ s.time.calib ≠ .idle →
        exec (.recalibrate tag []) s =
          .next
            (answered 27 tag
              [5#8, if s.time.calib = .idle then 0#8 else 1#8, BitVec.ofNat 8 s.time.crystal.code] s)) ∧
      (RequestAt 29 tag [] s →
        exec (.restart tag []) s =
          .next
            ((answered 29 tag [0#8] s).setLink
              { (answered 29 tag [0#8] s).link with restartPending := true })) ∧
      (RequestAt 30 tag [hi, lo] s →
        exec (.hold tag [hi, lo]) s =
          .next
            ((answered 30 tag [0#8, 0#8, 0#8, hi, lo] s).setLink
              { (answered 30 tag [0#8, 0#8, 0#8, hi, lo] s).link with
                hold := hi.toNat * 256 + lo.toNat })) ∧
      (RequestAt 28 tag [] s → s.time.power = .active → s.time.crystal ≠ .fault →
        activities s = [false, false, false, false, false, false] →
        ∃ t, exec (.dormant tag []) s = .next t ∧ Replied 28 tag [0#8, 1#8] s t ∧
          t.time.power = .entering ∧ t.time.idleDue = none ∧
          (∀ i : Fin 6, t.lamps.chans[i].output = 0 ∧ t.lamps.chans[i].fade = .steady) ∧
          OriginsKeptBut [] s t ∧ FlagsKeptBut [.loadShed] s t ∧
          t = { afterWalk (afterRequest s t) t with
            time := { s.time with power := .entering, idleDue := none } }) ∧
      (RequestAt 28 tag [] s →
        s.time.power ≠ .active ∨ s.time.crystal = .fault ∨ (activities s).any id = true →
        exec (.dormant tag []) s =
          .next
            (answered 28 tag
              [if s.time.power ≠ .active then 5#8 else if s.time.crystal = .fault then 8#8 else 5#8,
                BitVec.ofNat 8 s.time.power.code,
                BitVec.ofNat 8 ((activities s).zipIdx.map (fun a => bitOf a.1 a.2)).sum,
                BitVec.ofNat 8 s.time.crystal.code] s))

/-! ## Loads, lamps, heater -/

/-- LOAD_DEMAND of a channel with levels (R48): HOST takes the level, clamped at 100, and level 0
withdraws it; no other origin of any record changes; the reply carries the record's state after the
walk. -/
def Obligations.LoadDemandOfALevelChannel : Prop :=
  ∀ (s : State) (tag level : Byte) (ch : Channel),
    let p := [BitVec.ofNat 8 ch.val, level]
    ch.val < 6 ∨ ch.val = 10 ∨ ch.val = 11 → RequestAt 4 tag p s → Settled s →
      ∃ t, exec (.loadDemand tag p) s = .next t ∧
        Replied 4 tag
          [if level.toNat ≤ 100 then 0#8 else 1#8, BitVec.ofNat 8 (recordState t ch).code] s t ∧
        origins t ch =
          { origins s ch with
            host := if level.toNat = 0 then none else some (min level.toNat 100) } ∧
        OriginsKeptBut [ch] s t ∧ FlagsKeptBut [.loadShed] s t ∧
        t = afterWalk (afterRequest s t) t

/-- LOAD_DEMAND of the pump and of the channels that take none (R48): the pump has no level, and a demand
while the pump guard holds is refused CONDITION; HEATER, the pads, DRIVE and every number above 12 are
refused RANGE. That CONDITION carries the record's state and RANGE the result alone is the model's
reading (log 26). -/
def Obligations.LoadDemandOfThePumpAndTheRest : Prop :=
  ∀ (s : State) (tag channel level : Byte),
    let p := [channel, level]
    RequestAt 4 tag p s → Settled s →
      (channel.toNat = 7 → level.toNat = 0 ∨ pumpGuard s = false →
        ∃ t, exec (.loadDemand tag p) s = .next t ∧
          Replied 4 tag
            [if level.toNat ≤ 100 then 0#8 else 1#8, BitVec.ofNat 8 (recordState t chPump).code] s t ∧
          origins t chPump =
            { origins s chPump with host := if level.toNat = 0 then none else some 0 } ∧
          OriginsKeptBut [chPump] s t ∧ FlagsKeptBut [.loadShed] s t ∧
          t = afterWalk (afterRequest s t) t) ∧
      (channel.toNat = 7 → level.toNat ≠ 0 → pumpGuard s = true →
        exec (.loadDemand tag p) s =
          .next (answered 4 tag [8#8, BitVec.ofNat 8 (recordState s chPump).code] s)) ∧
      (channel.toNat = 6 ∨ channel.toNat = 8 ∨ channel.toNat = 9 ∨ 12 ≤ channel.toNat →
        exec (.loadDemand tag p) s = .next (answered 4 tag [4#8] s))

/-- HEAT_MODE (R73, R74, R76, R87): the HOST mode takes the mode; the effective mode is the lower of the
requested mode and the band's ceiling; the demand follows; 255 leaves everything, another code is refused
RANGE. -/
def Obligations.HeatModeSetsTheHostMode : Prop :=
  ∀ (s : State) (tag code : Byte) (m : HeatMode),
    RequestAt 6 tag [code] s → Settled s →
      (code.toNat = m.code →
        ∃ t, exec (.heatMode tag [code]) s = .next t ∧
          Replied 6 tag (packReply .accepted (heaterReport t)) s t ∧
          t.heater.hostMode = m ∧ t.heater.ceiling = ceilingOf s.meter.band ∧
          t.heater.effective =
            ((m.sup s.heater.schedMode).sup (if s.heater.frostOrigin then .frost else .off)).inf
              (ceilingOf s.meter.band) ∧
          (t.heater.effective = .off → t.heater.thermostat = .satisfied) ∧
          t.heater.demand = demandOf t.heater ∧ origins t chHeater = heaterOrigins t.heater ∧
          OriginsKeptBut [chHeater] s t ∧ FlagsKeptBut [.loadShed] s t ∧
          t = { afterWalk (afterRequest s t) t with
            heater :=
              { (afterWalk (afterRequest s t) t).heater with
                hostMode := m
                ceiling := t.heater.ceiling
                effective := t.heater.effective
                thermostat := t.heater.thermostat
                demand := t.heater.demand } }) ∧
      (code.toNat = 255 →
        exec (.heatMode tag [code]) s =
          .next (answered 6 tag (packReply .accepted (heaterReport s)) s)) ∧
      (4 ≤ code.toNat → code.toNat ≠ 255 →
        exec (.heatMode tag [code]) s = .next (answered 6 tag [4#8] s))

/-- SCENE_RECALL and SCENE_STORE (R64, R65): a recall sets SCENE on each lamp that has an entry, and
withdraws it where the entry is 0; a store makes every entry the present target, and its reply gives the
six targets, quantities of four bytes each (R215); a number above 3 is refused RANGE. -/
def Obligations.ScenesAreRecalledAndStored : Prop :=
  ∀ (s : State) (tag : Byte) (n : Fin 4) (x : Byte),
    let p := [BitVec.ofNat 8 n.val]
    Settled s →
      (RequestAt 23 tag p s →
        ∃ t, exec (.sceneRecall tag p) s = .next t ∧
          Replied 23 tag
            (0#8 :: allLamps.map (fun i => BitVec.ofNat 8 (recordState t (chLamp i)).code)) s t ∧
          (∀ i : Fin 6, origins t (chLamp i) =
            match s.lamps.scenes[n][i] with
            | none => origins s (chLamp i)
            | some l =>
              { origins s (chLamp i) with scene := if l = 0 then none else some l }) ∧
          OriginsKeptBut (allLamps.map chLamp) s t ∧ FlagsKeptBut [.loadShed] s t ∧
          t = afterWalk (afterRequest s t) t) ∧
      (RequestAt 24 tag p s →
        ∃ t, exec (.sceneStore tag p) s = .next t ∧
          t = (answered 24 tag
              (0#8 :: allLamps.flatMap (fun i => u32 (lampTarget s i))) s).setLamps t.lamps ∧
          (∀ (k : Fin 4) (i : Fin 6), t.lamps.scenes[k][i] =
            if k = n then some (lampTarget s i) else s.lamps.scenes[k][i]) ∧
          t.lamps.chans = s.lamps.chans ∧ t.lamps.entryDue = s.lamps.entryDue) ∧
      (4 ≤ x.toNat → RequestAt 23 tag [x] s →
        exec (.sceneRecall tag [x]) s = .next (answered 23 tag [4#8] s)) ∧
      (4 ≤ x.toNat → RequestAt 24 tag [x] s →
        exec (.sceneStore tag [x]) s = .next (answered 24 tag [4#8] s))

/-- The end of a fade of a granted lamp (R59), an event of its own after the tick that reaches the target (log
28: the model's reading): it is STEADY, its fall start level is gone and its draw is
that of the applied level, unless the walk that follows sheds this lamp, which is then dark; where no
load is shed it keeps its grant. The end of the entry hold (R63) withdraws ENTRY from the entry channel
and from no other. -/
def Obligations.FadeEndAndEntryHoldEnd : Prop :=
  ∀ (s : State) (i : Fin 6),
    Settled s →
      (fadeDone s i = true → isGranted s (chLamp i) = true → ListsAgree s →
        ∃ t, exec (.fadeEnd i) s = .next t ∧
          ((t.lamps.chans[i].fade = .steady ∧ t.lamps.chans[i].fallStart = none ∧
              t.lamps.chans[i].output = s.lamps.chans[i].output ∧
              t.lamps.chans[i].presented =
                ceilDiv (s.params.lampDraw * s.lamps.chans[i].applied) 100) ∨
            (flagBits t .loadShed = ⟨true, true⟩ ∧ t.lamps.chans[i].output = 0)) ∧
          (flagSet s .loadShed = false → flagSet t .loadShed = false →
            t.lamps.chans[i].fade = .steady ∧ isGranted t (chLamp i) = true) ∧
          t.lamps.chans[i].applied = s.lamps.chans[i].applied ∧ OriginsKeptBut [] s t ∧
          FlagsKeptBut [.loadShed] s t ∧ t = afterWalk (afterEvent s t) t) ∧
      (dueReached s.now s.lamps.entryDue = true →
        ∃ t, exec .entryHoldEnd s = .next t ∧
          t.lamps.entryDue = none ∧
          (∀ ch, origins t ch =
            if (ch.val : Int) = s.params.entryChannel ∧ ch.val < 6 then
              { origins s ch with entry := none }
            else origins s ch) ∧
          FlagsKeptBut [.loadShed] s t ∧
          t = { afterWalk (afterEvent s t) t with
            lamps := { (afterWalk (afterEvent s t) t).lamps with entryDue := none } })

/-- A cabin conversion (R75, R76): a rail reading makes the sensor ABSENT and keeps the reading; any other
is taken, and decides the thermostat by the setpoint of the effective mode and the hysteresis. -/
def Obligations.CabinConversionDecidesTheThermostat : Prop :=
  ∀ (s : State) (temp : Int),
    temperatureOk temp = true → reached s.now s.heater.cabinDue = true → Settled s →
      ∃ t, exec (.cabinConversion temp) s = .next t ∧
        t.heater.cabinDue = s.ahead (if s.time.power = .dormant then 128 else 16) ∧
        (temp = -400 ∨ temp = 850 →
          t.heater.sensor = .absent ∧ t.heater.reading = s.heater.reading) ∧
        (temp ≠ -400 → temp ≠ 850 →
          t.heater.sensor = .present ∧ t.heater.reading = some temp ∧
            ∀ sp ∈ setpointOf s.params t.heater.effective,
              (temp ≤ sp - s.params.thermostatHysteresis → t.heater.thermostat = .calling) ∧
              (sp - s.params.thermostatHysteresis < temp →
                sp + s.params.thermostatHysteresis ≤ temp ∨ s.heater.sensor ≠ .present →
                  t.heater.thermostat = .satisfied) ∧
              (sp - s.params.thermostatHysteresis < temp →
                temp < sp + s.params.thermostatHysteresis → s.heater.sensor = .present →
                  t.heater.thermostat = s.heater.thermostat)) ∧
        t.heater.effective = (requestedMode s.heater).inf (ceilingOf s.meter.band) ∧
        (t.heater.effective = .off → t.heater.thermostat = .satisfied) ∧
        t.heater.demand = demandOf t.heater ∧ origins t chHeater = heaterOrigins t.heater ∧
        OriginsKeptBut [chHeater] s t ∧ FlagsKeptBut [.loadShed, .sensorLost] s t ∧
        t = { afterWalk (afterEvent s t) t with
          heater :=
            { t.heater with
              hostMode := s.heater.hostMode
              schedMode := s.heater.schedMode
              frostOrigin := s.heater.frostOrigin
              failed := s.heater.failed
              latch := s.heater.latch } }

/-- The test at the end of the glow (R79, R83): without a flame that is supervised the start has failed,
the heater purges, and the third failure sets the latch and flags HEATER_LOCKOUT; otherwise it runs, and
only a shed of the walk that follows can make it purge. -/
def Obligations.GlowEndTestsTheFlame : Prop :=
  ∀ (s : State),
    s.heater.state = .starting → dueReached s.now s.heater.glowDue = true → Settled s →
      ∃ t, exec .glowEnd s = .next t ∧
        t.heater.glowDue = none ∧
        (eventMapped s .heaterFlame = true → eventActive s .heaterFlame = false →
          t.heater.state = .purging ∧ t.heater.failed = min 3 (s.heater.failed + 1) ∧
            t.heater.purgeDue = some (s.ahead (s.params.purgeTime * 16)) ∧
            (2 ≤ s.heater.failed →
              t.heater.latch = true ∧ flagBits t .heaterLockout = ⟨true, true⟩) ∧
            (s.heater.failed < 2 →
              t.heater.latch = s.heater.latch ∧
                flagBits t .heaterLockout = flagBits s .heaterLockout)) ∧
        (eventMapped s .heaterFlame = false ∨ eventActive s .heaterFlame = true →
          t.heater.failed = 0 ∧ t.heater.latch = s.heater.latch ∧
            (t.heater.state = .running ∨
              (t.heater.state = .purging ∧ flagBits t .loadShed = ⟨true, true⟩)) ∧
            flagBits t .heaterLockout = flagBits s .heaterLockout) ∧
        OriginsKeptBut [chHeater] s t ∧ FlagsKeptBut [.loadShed, .heaterLockout] s t ∧
        t = { afterWalk (afterEvent s t) t with
          heater :=
            { (afterWalk (afterEvent s t) t).heater with
              failed := t.heater.failed
              latch := t.heater.latch } }

/-- The end of the purge (R82): LOCKOUT at a failed-start count of 3, else back to the waiting list while
the demand holds, else OFF with no origin left. -/
def Obligations.PurgeEndLeavesThePurge : Prop :=
  ∀ (s : State),
    s.heater.state = .purging → dueReached s.now s.heater.purgeDue = true → Settled s →
      ∃ t, exec .purgeEnd s = .next t ∧
        (3 ≤ s.heater.failed → t.heater.state = .lockout ∧ t.heater.purgeDue = none) ∧
        (s.heater.failed < 3 → s.heater.demand = true →
          (t.heater.state = .waitGrant ∧ t.heater.purgeDue = none) ∨
            (t.heater.state = .starting ∧ t.heater.purgeDue = none ∧
              t.heater.glowDue = some (s.ahead (s.params.glowTime * 16))) ∨
            (t.heater.state = .purging ∧ flagBits t .loadShed = ⟨true, true⟩)) ∧
        (s.heater.failed < 3 → s.heater.demand = false →
          t.heater.state = .off ∧ t.heater.purgeDue = none ∧
            origins t chHeater = OriginSet.empty) ∧
        origins t chHeater = heaterOrigins t.heater ∧ OriginsKeptBut [chHeater] s t ∧
        FlagsKeptBut [.loadShed] s t ∧ t = afterWalk (afterEvent s t) t

/-! ## Tanks -/

/-- A conversion of the senders (R90, R92, R93, R94, R97, R98): a rail reading makes a sender
ABSENT; any other is PRESENT, and its level enters the window unless IGNITION_ON is active; the next
one is due 16 ticks on; while the pump guard then holds, the pump has no origin, whether it began to
hold or held before (log 31: the model's reading). The pump has run too long (R99): every origin is
withdrawn, the latch is set and PUMP_FAULT flagged. -/
def Obligations.TankSendersAndPumpExpiry : Prop :=
  (∀ (s : State) (fresh grey black : Nat),
    fresh ≤ 4095 → grey ≤ 4095 → black ≤ 4095 → dueReached s.now s.tanks.senderDue = true →
      Settled s →
      ∃ t, exec (.senderConversion fresh grey black) s = .next t ∧
        (∀ i : Fin 3,
          let raw := if i = 0 then fresh else if i = 1 then grey else black
          (tankRec t i).raw = raw ∧
          (raw = 0 ∨ raw = 4095 →
            (tankRec t i).sender = .absent ∧ (tankRec t i).window = (tankRec s i).window) ∧
          (0 < raw → raw < 4095 →
            (tankRec t i).sender = .present ∧
              (tankRec t i).window =
                (if eventActive s .ignitionOn then (tankRec s i).window
                else
                  (if (tankRec s i).window.length < 8 then (tankRec s i).window
                  else (tankRec s i).window.drop 1) ++ [levelOf s.params i raw])) ∧
          ((tankRec t i).window.length = 8 → eventActive s .ignitionOn = false → 0 < raw →
            raw < 4095 → (tankRec t i).source = .parked) ∧
          ((tankRec t i).source ≠ .parked → (tankRec t i).source = (tankRec s i).source) ∧
          (∀ l ∈ levelInUse (tankRec t i),
            (thresholdSets s.params i l = true → (tankRec t i).threshold = true) ∧
            (thresholdSets s.params i l = false → thresholdClears s.params i l = true →
              (tankRec t i).threshold = false)) ∧
          (levelInUse (tankRec t i) = none →
            (tankRec t i).threshold = (tankRec s i).threshold)) ∧
        t.tanks.senderDue = some (s.ahead 16) ∧
        (pumpGuard t = true →
          origins t chPump = OriginSet.empty ∧ (ListsAgree s → isGranted t chPump = false)) ∧
        (pumpGuard t = false → origins t chPump = origins s chPump) ∧
        OriginsKeptBut [chPump] s t ∧
        FlagsKeptBut [.sensorLost, .freshLow, .greyFull, .blackFull, .loadShed] s t ∧
        t = { afterWalk (afterEvent s t) t with
          tanks :=
            { (afterWalk (afterEvent s t) t).tanks with
              recs := t.tanks.recs
              senderDue := t.tanks.senderDue } }) ∧
  (∀ (s : State),
    dueReached s.now s.tanks.pumpDue = true → Settled s →
      ∃ t, exec .pumpRunExpiry s = .next t ∧
        origins t chPump = OriginSet.empty ∧ isGranted t chPump = false ∧
        isWaiting t chPump = false ∧ t.tanks.pumpFault = true ∧ t.tanks.pumpDue = none ∧
        pumpGuard t = true ∧ outputActive t .pumpRelay = false ∧
        flagBits t .pumpFault = ⟨true, true⟩ ∧ OriginsKeptBut [chPump] s t ∧
        FlagsKeptBut [.pumpFault, .loadShed] s t ∧
        t = { afterWalk (afterEvent s t) t with
          tanks := { (afterWalk (afterEvent s t) t).tanks with pumpFault := true } })

/-- A conversion of the tank temperature sensors (R100 to R104): with the six temperatures ascending as
R109 demands, each PRESENT controller takes the fixed steps of R101 from its state, one after another, to
a state to which no rule of R101 applies; an absent sensor is treated as GUARD at least; each pad and the
heater's FROST origin follow the states. -/
def Obligations.TemperatureConversionMovesTheControllers : Prop :=
  ∀ (s : State) (fresh grey : Int) (order : List HandOff),
    temperatureOk fresh = true → temperatureOk grey = true →
      reached s.now s.tanks.tempDue = true →
      s.params.dangerTemperature < s.params.dangerRelease →
      s.params.dangerRelease < s.params.guardEntry → s.params.guardEntry < s.params.guardExit →
      s.params.guardExit < s.params.watchEntry → s.params.watchEntry < s.params.watchExit →
      Settled s →
      ∃ t, exec (.temperatureConversion fresh grey order) s = .next t ∧
        (∀ k ∈ [FrostTank.fresh, FrostTank.grey],
          let x := if k = .fresh then fresh else grey
          let fromWatch : FrostState :=
            if x ≤ s.params.guardEntry then .guard else if s.params.watchExit ≤ x then .safe else .watch
          let fromGuard : FrostState := if s.params.guardExit ≤ x then fromWatch else .guard
          (x = -400 ∨ x = 850 →
            (frostCtl t k).sensor = .absent ∧ (frostCtl t k).reading = (frostCtl s k).reading ∧
              (frostCtl t k).dangerDue = none ∧
              (frostCtl t k).state =
                (if (frostCtl s k).state.code < 2 then .guard else (frostCtl s k).state)) ∧
          (x ≠ -400 → x ≠ 850 →
            (frostCtl t k).sensor = .present ∧ (frostCtl t k).reading = some x ∧
              frostRule s.params (frostCtl t k).state x = none ∧
              ((frostCtl s k).state = .drained ↔ (frostCtl t k).state = .drained) ∧
              (frostCtl t k).state =
                (match (frostCtl s k).state with
                | .safe => if x ≤ s.params.watchEntry then fromWatch else .safe
                | .watch => fromWatch
                | .guard => fromGuard
                | .danger => if s.params.dangerRelease ≤ x then fromGuard else .danger
                | .drained => .drained) ∧
              (frostCtl t k).dangerDue =
                (if (frostCtl t k).state = .guard ∧ x ≤ s.params.dangerTemperature then
                  if (frostCtl s k).dangerDue.isSome then (frostCtl s k).dangerDue
                  else some (s.ahead (s.params.drainDelay * 16))
                else none)) ∧
          origins t (padChannel k) = padOrigins (frostCtl t k).state) ∧
        t.tanks.tempDue = s.ahead (if t.time.power = .dormant then 128 else 16) ∧
        t.heater.frostOrigin =
          (asksFrost t.tanks.fresh.state || asksFrost t.tanks.grey.state) ∧
        OriginsKeptBut [chFreshPad, chGreyPad, chHeater, chPump] s t ∧
        FlagsKeptBut [.sensorLost, .loadShed] s t ∧ t = afterFrost (afterEvent s t) t

/-- The danger due instant (R103, R105): the fresh tank drains where auto-drain is on, and otherwise the
controller enters DANGER; its demands and its flag follow. -/
def Obligations.DangerDueDrainsOrFlags : Prop :=
  ∀ (s : State) (k : FrostTank) (order : List HandOff),
    dueReached s.now (frostCtl s k).dangerDue = true → Settled s →
      ∃ t, exec (.dangerDue k order) s = .next t ∧
        (frostCtl t k).dangerDue = none ∧ (frostCtl t k).reading = (frostCtl s k).reading ∧
        (frostCtl t k).sensor = (frostCtl s k).sensor ∧
        (k = .fresh → s.params.autoDrain = true →
          t.tanks.fresh.state = .drained ∧ outputActive t .drainValve = true ∧
            flagSet t .drained = true ∧ origins t chPump = OriginSet.empty) ∧
        (k = .grey ∨ s.params.autoDrain = false →
          (frostCtl t k).state = .danger ∧ flagSet t .frostDanger = true) ∧
        (∀ k' ∈ [FrostTank.fresh, FrostTank.grey], k' ≠ k → frostCtl t k' = frostCtl s k') ∧
        (∀ k' ∈ [FrostTank.fresh, FrostTank.grey],
          origins t (padChannel k') = padOrigins (frostCtl t k').state) ∧
        t.heater.frostOrigin =
          (asksFrost t.tanks.fresh.state || asksFrost t.tanks.grey.state) ∧
        OriginsKeptBut [chFreshPad, chGreyPad, chHeater, chPump] s t ∧
        FlagsKeptBut [.frostDanger, .drained, .loadShed] s t ∧ t = afterFrost (afterEvent s t) t

/-- DRAIN_OPEN and DRAIN_CLOSE (R106, R107): the fresh controller enters DRAINED, where the pump has no
origin and the pad none; it leaves it, to SAFE, only where the fresh sensor is PRESENT with a reading at
or above the watch exit, and is refused CONDITION otherwise. -/
def Obligations.DrainOpenAndClose : Prop :=
  ∀ (s : State) (tag : Byte) (order : List HandOff),
    let warm := s.tanks.fresh.sensor = .present &&
      s.tanks.fresh.reading.any (fun x => decide (s.params.watchExit ≤ x))
    let report := fun (st : FrostState) =>
      BitVec.ofNat 8 st.code :: (optI32 s.tanks.fresh.reading ++
        [BitVec.ofNat 8 s.tanks.fresh.sensor.code])
    Settled s →
      (RequestAt 19 tag [] s →
        ∃ t, exec (.drainOpen tag [] order) s = .next t ∧
          Replied 19 tag (0#8 :: report .drained) s t ∧ t.tanks.fresh.state = .drained ∧
          (s.tanks.fresh.state ≠ .drained →
            t.tanks.fresh.dangerDue = none ∧ origins t chPump = OriginSet.empty ∧
              origins t chFreshPad = OriginSet.empty ∧
              t.time.power = (if s.time.power = .entering then .leaving else s.time.power)) ∧
          (s.tanks.fresh.state = .drained → t = answered 19 tag (0#8 :: report .drained) s) ∧
          outputActive t .drainValve = true ∧ flagSet t .drained = true ∧
          t.tanks.grey = s.tanks.grey ∧ t.pins = s.pins ∧
          OriginsKeptBut [chFreshPad, chGreyPad, chHeater, chPump] s t ∧
          FlagsKeptBut [.drained, .loadShed] s t ∧ t = afterFrost (afterRequest s t) t) ∧
      (RequestAt 20 tag [] s → warm = false →
        exec (.drainClose tag [] order) s =
          .next (answered 20 tag (8#8 :: report s.tanks.fresh.state) s)) ∧
      (RequestAt 20 tag [] s → warm = true → s.tanks.fresh.state ≠ .drained →
        exec (.drainClose tag [] order) s =
          .next (answered 20 tag (0#8 :: report s.tanks.fresh.state) s)) ∧
      (RequestAt 20 tag [] s → warm = true → s.tanks.fresh.state = .drained →
        ∃ t, exec (.drainClose tag [] order) s = .next t ∧
          Replied 20 tag (0#8 :: report .safe) s t ∧ t.tanks.fresh.state = .safe ∧
          outputActive t .drainValve = false ∧ origins t chFreshPad = OriginSet.empty ∧
          t.tanks.grey = s.tanks.grey ∧ t.pins = s.pins ∧ t.time.power = s.time.power ∧
          OriginsKeptBut [chFreshPad, chGreyPad, chHeater, chPump] s t ∧
          FlagsKeptBut [.loadShed] s t ∧ t = afterFrost (afterRequest s t) t)

/-! ## Charge Meter -/

/-- R12: the state-of-charge figures of any account within its range. -/
def Obligations.SocFiguresFollowTheAccount : Prop :=
  ∀ (s : State),
    AccountInRange s →
      storedSoc s = s.meter.q * 1000 / qNom s.params ∧
        usableSoc s = usable s * 1000 / qFull s ∧
        storedSoc s ≤ 1000 ∧ usableSoc s ≤ 1000 ∧ usableSoc s ≤ storedSoc s ∧
        usable s * qNom s.params ≤ s.meter.q * qFull s ∧
        reportedCharge s = s.meter.q / 57600

/-- R8, R9: the effective charge of an interval. Charge is credited at the efficiency; a discharge is
debited at its raw amount up to I_ref and at up to one and a half times that amount above it, never at
less. -/
def Obligations.EffectiveChargeOfAnInterval : Prop :=
  ∀ (p : Params) (current : Int) (n : Nat),
    ParamsInRange { State.reset with params := p } → -250000 ≤ current → current ≤ 250000 →
      n ≤ 4096 →
      let raw : Int := current * n
      let excess : Nat := current.natAbs - p.capacity / 20
      let k : Nat :=
        if p.capacity / 20 < current.natAbs then
          min 500 (excess * p.rateCoefficient / (p.capacity / 20))
        else 0
      raw.natAbs ≤ 1024000000 ∧
        (0 ≤ raw →
          effectiveCharge p current n = (raw * p.efficiency).tdiv 1000 ∧
            effectiveCharge p current n ≤ raw) ∧
        (raw < 0 →
          effectiveCharge p current n = -(((-raw).toNat * (1000 + k) + 999) / 1000 : Nat) ∧
            effectiveCharge p current n ≤ raw ∧
            (current.natAbs ≤ p.capacity / 20 → effectiveCharge p current n = raw) ∧
            3 * raw - 1 ≤ 2 * effectiveCharge p current n)

/-- A metered interval end (R2, R3, R7, R10 to R13, R15, R18 to R22, R26): the readings, the account, the
filtered current, the derating factor, the unsynced age, the voltage floor and the band; a change of the
published band is flagged and handed on; an interval without a sample is discarded. The SOC band falls at
once and rises by one step past the hysteresis, which is added to the effective threshold of the boundary
(log 16: the model's reading). -/
def Obligations.IntervalEndClosesTheInterval : Prop :=
  (∀ (s : State) (input : MeterInput),
    temperatureOk input.temperature = true → intervalDue s = true → Settled s →
      let m := (accumulate input.samples s).meter
      let n := min 4096 (ticksSince s.now s.meter.intervalStart)
      let c := closeReadings m n input.temperature
      let eff := (s.meter.q : Int) + effectiveCharge s.params c.current n
      let first := s.meter.readings.isNone && decide (s.meter.sync = .estimating)
      (m.acc.count = 0 →
        ∃ t, exec (.intervalEnd input) s = .next t ∧
          t = { afterEvent s t with
            meter := { s.meter with acc := IntervalAcc.empty, intervalStart := s.now } } ∧
          FlagsKeptBut [] s t) ∧
      (0 < m.acc.count →
        ∃ t, exec (.intervalEnd input) s = .next t ∧
          c.current = m.acc.sumCurrent.tdiv m.acc.count ∧
          c.voltage = m.acc.sumVoltage.toNat / m.acc.count ∧
          t.meter.readings =
            some
              ⟨c.current, c.voltage,
                if input.temperature = -400 ∨ input.temperature = 850 then 250
                else input.temperature,
                m.acc.saturated, decide (input.temperature = -400 ∨ input.temperature = 850),
                !first && decide (eff < 0)⟩ ∧
          t.meter.q =
            (if tailHolds s.params c = true ∧ s.meter.spent = false ∧
                s.params.syncHold * 16 ≤ s.meter.syncTimer + n then qNom s.params
            else if first = true then qNom s.params * estimatedSoc s.params c / 1000
            else (max 0 (min eff (qNom s.params))).toNat) ∧
          t.meter.filtered =
            (if s.meter.readings = none then c.current
            else s.meter.filtered + (c.current - s.meter.filtered).tdiv 8) ∧
          t.meter.chargeInhibit =
            decide (input.temperature = -400 ∨ input.temperature = 850 ∨ input.temperature < 0) ∧
          t.meter.acc = IntervalAcc.empty ∧ t.meter.intervalStart = s.now ∧
          t.meter.band = (if t.meter.floor = .forced then .critical else t.meter.socBand) ∧
          (s.meter.readings ≠ none → s.meter.socBand.code ≤ t.meter.socBand.code + 1) ∧
          (t.meter.band ≠ s.meter.band →
            flagBits t .bandChange = ⟨true, true⟩ ∧ t.table.band = t.meter.band ∧
              t.table.budget = budgetNow t ∧ t.heater.ceiling = ceilingOf t.meter.band ∧
              t.time.power = (if asleep s then .leaving else s.time.power)) ∧
          (t.meter.band = s.meter.band →
            flagBits t .bandChange = flagBits s .bandChange ∧ t.table.band = s.table.band ∧
              t.table.budget = s.table.budget ∧ t.heater.ceiling = s.heater.ceiling ∧
              t.time.power = s.time.power) ∧
          OriginsKeptBut [chHeater] s t ∧
          FlagsKeptBut [.bandChange, .accountSynced, .sensorLost, .chargeInhibit, .unsyncedLong,
            .loadShed, .overdrawShed] s t ∧
          t = { afterWalk (afterEvent s t) t with
            meter := t.meter
            table := t.table
            heater :=
              { t.heater with
                hostMode := s.heater.hostMode
                schedMode := s.heater.schedMode
                frostOrigin := s.heater.frostOrigin
                reading := s.heater.reading
                sensor := s.heater.sensor
                failed := s.heater.failed
                latch := s.heater.latch }
            tanks :=
              { s.tanks with
                senderDue := t.tanks.senderDue
                tempDue := t.tanks.tempDue
                pumpDue := t.tanks.pumpDue }
            pins := t.pins
            time := { s.time with power := t.time.power, idleDue := t.time.idleDue } })) ∧
  (∀ (s : State) (input : MeterInput),
    temperatureOk input.temperature = true → intervalDue s = true → Settled s →
      let m := (accumulate input.samples s).meter
      let n := min 4096 (ticksSince s.now s.meter.intervalStart)
      let c := closeReadings m n input.temperature
      let b : Int := if input.temperature = -400 ∨ input.temperature = 850 then 250 else input.temperature
      let synced := tailHolds s.params c = true ∧ s.meter.spent = false ∧
        s.params.syncHold * 16 ≤ s.meter.syncTimer + n
      let day := (if synced then 0 else s.meter.dayAcc) + n
      let age := if synced then 0 else s.meter.age
      0 < m.acc.count →
        ∃ t, exec (.intervalEnd input) s = .next t ∧
          (t.meter.derating : Int) =
            (if b < 250 then max 500 (1000 - (s.params.coldCoefficient : Int) * (250 - b) / 10) else 1000) ∧
          t.meter.sync =
            (if synced then .synced
            else if s.meter.readings = none ∧ s.meter.sync = .estimating then .unsynced
            else s.meter.sync) ∧
          t.meter.syncTimer =
            (if tailHolds s.params c = false ∨ synced then 0
            else if s.meter.spent then s.meter.syncTimer else s.meter.syncTimer + n) ∧
          t.meter.spent = (tailHolds s.params c && (s.meter.spent || decide synced)) ∧
          t.meter.dayAcc = (if 1382400 ≤ day then day - 1382400 else day) ∧
          t.meter.age = (if 1382400 ≤ day then min 255 (age + 1) else age) ∧
          t.meter.unsyncedLong = decide (s.params.syncAgeLimit < t.meter.age) ∧
          (t.meter.unsyncedLong = true → flagSet t .unsyncedLong = true) ∧
          (s.meter.floor = .normal →
            let below := if c.voltage < s.params.floorVoltage then s.meter.belowTimer + n else 0
            if c.voltage < s.params.floorVoltage ∧ s.params.floorTime * 16 ≤ below then
              t.meter.floor = .forced ∧ t.meter.belowTimer = 0 ∧ t.meter.recoveryTimer = 0
            else
              t.meter.floor = .normal ∧ t.meter.belowTimer = below ∧
                t.meter.recoveryTimer = s.meter.recoveryTimer) ∧
          (s.meter.floor = .forced →
            let above := if s.params.releaseVoltage ≤ c.voltage then s.meter.recoveryTimer + n else 0
            if s.params.releaseVoltage ≤ c.voltage ∧ s.params.releaseTime * 16 ≤ above then
              t.meter.floor = .normal ∧ t.meter.belowTimer = 0 ∧ t.meter.recoveryTimer = 0
            else
              t.meter.floor = .forced ∧ t.meter.recoveryTimer = above ∧
                t.meter.belowTimer = s.meter.belowTimer) ∧
          (let soc := usable t * 1000 / qFull t
            let raised := if t.meter.unsyncedLong then s.params.unsyncedMargin else 0
            let critical := s.params.criticalThreshold + raised
            let reserve := s.params.reserveThreshold + raised
            let economy := s.params.economyThreshold + raised
            let threshold : Band :=
              if soc < critical then .critical else if soc < reserve then .reserve
              else if soc < economy then .economy else .normal
            t.meter.socBand =
              if s.meter.readings = none ∨ s.meter.socBand.code ≤ threshold.code then threshold
              else
                match s.meter.socBand with
                | .critical => if critical + s.params.bandHysteresis ≤ soc then .reserve else .critical
                | .reserve => if reserve + s.params.bandHysteresis ≤ soc then .economy else .reserve
                | .economy => if economy + s.params.bandHysteresis ≤ soc then .normal else .economy
                | .normal => .normal))

/-- ACCOUNT_SET and ACCOUNT_FULL (R16, R17): what each makes of the account, at once and before any
interval end; a permille above 1000 is refused RANGE and changes nothing. -/
def Obligations.AccountSetAndFull : Prop :=
  ∀ (s : State) (tag hi lo : Byte),
    let permille := hi.toNat * 256 + lo.toNat
    Settled s →
      (RequestAt 21 tag [hi, lo] s → permille ≤ 1000 →
        exec (.accountSet tag [hi, lo]) s =
          .next
            ((answered 21 tag [0#8] s).setMeter
              { s.meter with
                q := s.params.capacity * 57600 * permille / 1000
                sync := .unsynced
                syncTimer := 0
                spent := false })) ∧
      (RequestAt 21 tag [hi, lo] s → 1000 < permille →
        exec (.accountSet tag [hi, lo]) s = .next (answered 21 tag [4#8] s)) ∧
      (RequestAt 22 tag [] s →
        exec (.accountFull tag []) s =
          .next
            (raiseFlag
              ((answered 22 tag [0#8] s).setMeter
                { s.meter with
                  q := s.params.capacity * 57600
                  sync := .synced
                  age := 0
                  dayAcc := 0
                  syncTimer := 0
                  spent := true })
              .accountSynced))

/-! ## Motions -/

/-- An accepted MOVE_POST (R122): the slot after the tail holds the motion, READY until the arbiter takes
it, and is the new tail; the post is a wake cause (R190). The same post is made, with origin SWITCH and
notify set, by a press of STEP_SWITCH, whose action the step position decides (R150), of
AWNING_OUT_SWITCH and of AWNING_IN_SWITCH (R151), and with auto-step on by a door that opens while the
ignition is off and the step stowed (R152); where the ring does not take it, it is dropped, and a falling
edge posts nothing. -/
def Obligations.MovePostFillsTheNextSlot : Prop :=
  (∀ (s : State) (tag : Byte) (a : Actuator) (act : MoveAction) (target : Fin 65536) (notify : Bool),
    let p := BitVec.ofNat 8 a.code :: BitVec.ofNat 8 act.code :: (u16 target.val ++ flag8 notify)
    let i := nextSlot s a (tailOf s a)
    (act = .moveTo → a = .awning ∧ target.val ≤ 1000) → eventActive s .estop = false →
      (slotAt s i).state = .free ∨ (slotAt s i).state = .complete → RequestAt 7 tag p s → Settled s →
      ∃ t, exec (.movePost tag p) s = .next t ∧
        Replied 7 tag [0#8, BitVec.ofNat 8 a.code, BitVec.ofNat 8 i.val] s t ∧ tailOf t a = i ∧
        tailOf t (otherActuator a) = tailOf s (otherActuator a) ∧
        (slotAt t i).action = act ∧
        (slotAt t i).target = (if act = .moveTo then some target.val else none) ∧
        (slotAt t i).notify = notify ∧ (slotAt t i).origin = .host ∧
        (slotAt t i).retries = 0 ∧ (slotAt t i).runTime = 0 ∧
        (s.drive.stage ≠ .idle ∨ s.time.power ≠ .active →
          t.motion.slots =
            vput s.motion.slots i
              ⟨.ready, act, if act = .moveTo then some target.val else none, notify, .host, none, 0,
                0⟩ ∧
            t.drive = s.drive ∧ t.table = s.table) ∧
        t.time.power = (if s.time.power = .entering then .leaving else s.time.power) ∧
        OriginsKeptBut [chDrive] s t ∧
        FlagsKeptBut [.moveDone, .moveFailed, .loadShed] s t ∧
        t = { afterWalk (afterRequest s t) t with
          drive := { t.drive with
            gap := s.drive.gap
            lastActuator := s.drive.lastActuator
            stallCount := s.drive.stallCount
            legTime := s.drive.legTime
            blank := s.drive.blank
            stallDue := s.drive.stallDue }
          motion := t.motion
          time := { s.time with power := t.time.power, idleDue := t.time.idleDue } }) ∧
  (∀ (s : State) (i : Fin 16) (e : InputEvent) (a : Actuator) (act : MoveAction) (rising : Bool) (n : Nat)
    (xs : List Bool) (order : List HandOff),
    EdgeAt i e rising n xs s → Settled s →
      ((e = .stepSwitch ∧ a = .step ∧
            act = (if stepPosition s = .deployed ∨ stepPosition s = .between then .retract else .extend)) ∨
          (e = .awningOutSwitch ∧ a = .awning ∧ act = .extend) ∨
          (e = .awningInSwitch ∧ a = .awning ∧ act = .retract) ∨
          (e = .doorOpen ∧ a = .step ∧ act = .extend) →
        ∃ t, exec (.debounceComplete i xs order) s = .next t ∧
          (rising = true → RingTakes a s →
            (e = .doorOpen → s.params.autoStep = true ∧ eventActive s .ignitionOn = false ∧
              stepPosition s = .stowed) →
              Posted a act none true .switch s t ∧
                t.time.power = (if asleep s then .leaving else s.time.power)) ∧
          (rising = false ∨ ¬RingTakes a s ∨
              (e = .doorOpen ∧ (s.params.autoStep = false ∨ eventActive s .ignitionOn = true ∨
                stepPosition s ≠ .stowed)) →
            t.motion = s.motion)))

/-- The refusals of MOVE_POST in their order (R122): RANGE for an unknown code and for a target the
actuator cannot take, ESTOP while the emergency stop is active, FULL while the slot after the tail still
holds a motion. Nothing is changed. -/
def Obligations.MovePostRefusals : Prop :=
  ∀ (s : State) (tag ring action notify : Byte) (target : Fin 65536) (a : Actuator),
    let p := ring :: action :: (u16 target.val ++ [notify])
    let i := nextSlot s a (tailOf s a)
    let known := ring.toNat ≤ 1 ∧ action.toNat ≤ 2 ∧ notify.toNat ≤ 1 ∧
      (action.toNat = 2 → ring.toNat = 1 ∧ target.val ≤ 1000)
    RequestAt 7 tag p s → Settled s →
      (¬known → exec (.movePost tag p) s = .next (answered 7 tag [4#8, ring, 255#8] s)) ∧
      (known → eventActive s .estop = true →
        exec (.movePost tag p) s = .next (answered 7 tag [9#8, ring, 255#8] s)) ∧
      (known → eventActive s .estop = false → ring.toNat = a.code →
        (slotAt s i).state = .ready ∨ (slotAt s i).state = .active →
        exec (.movePost tag p) s = .next (answered 7 tag [6#8, ring, 255#8] s))

/-- MOVE_CANCEL (R130): a READY or ACTIVE slot completes ABORTED(CANCELLED), an ACTIVE one through the
stage, which brakes where the motor had been switched on; a FREE or COMPLETE slot is refused CONDITION, a
slot outside the ring RANGE; the all-slots code ends every READY slot of the ring and its ACTIVE one. -/
def Obligations.MoveCancelEndsMotions : Prop :=
  ∀ (s : State) (tag ring index : Byte) (a : Actuator) (i : Fin 16),
    let p := [ring, index]
    let named := ring.toNat = a.code ∧ inRing s a i = true ∧ index.toNat = i.val
    RequestAt 8 tag p s → Settled s →
      (named → (slotAt s i).state = .ready →
        ∃ t, exec (.moveCancel tag p) s = .next t ∧ Replied 8 tag [0#8, 3#8, 10#8] s t ∧
          SlotEnded i .abortedCancelled s t ∧
          ((slotAt s i).notify = true → flagBits t .moveFailed = ⟨true, true⟩) ∧
          (s.drive.stage ≠ .idle → t.drive = s.drive ∧ t.table = s.table) ∧
          OriginsKeptBut [chDrive] s t ∧
          FlagsKeptBut [.moveDone, .moveFailed, .loadShed] s t ∧
          t = { afterWalk (afterRequest s t) t with drive := t.drive, motion := t.motion }) ∧
      (named → (slotAt s i).state = .active → s.drive.owner = some ⟨a, .slot i⟩ →
        holdsStage s.drive.stage = true →
        ∃ t, exec (.moveCancel tag p) s = .next t ∧ Replied 8 tag [0#8, 3#8, 10#8] s t ∧
          SlotEnded i .abortedCancelled s t ∧
          (afterWaking s.drive.stage = true →
            t.drive = brakingFrom ⟨a, .slot i⟩ s ∧ t.table = s.table) ∧
          OriginsKeptBut [chDrive] s t ∧
          FlagsKeptBut [.moveDone, .moveFailed, .loadShed] s t ∧
          t = { afterWalk (afterRequest s t) t with drive := t.drive, motion := t.motion }) ∧
      (named → (slotAt s i).state = .free ∨ (slotAt s i).state = .complete →
        exec (.moveCancel tag p) s =
          .next
            (answered 8 tag
              (8#8 :: BitVec.ofNat 8 (slotAt s i).state.code :: motionResult8 (slotAt s i).result) s)) ∧
      (ring.toNat = a.code → index.toNat = 255 →
        ∃ t, exec (.moveCancel tag p) s = .next t ∧
          Replied 8 tag
            (packRecords .accepted
              ((ringSlots s a).map fun j =>
                BitVec.ofNat 8 (slotAt t j).state.code :: motionResult8 (slotAt t j).result) []) s t ∧
          (∀ j, inRing s a j = true → (slotAt s j).state = .ready →
            SlotEnded j .abortedCancelled s t) ∧
          (∀ j, inRing s a j = true → (slotAt s j).state = .active →
            s.drive.owner = some ⟨a, .slot j⟩ → holdsStage s.drive.stage = true →
              SlotEnded j .abortedCancelled s t ∧
                (afterWaking s.drive.stage = true → t.drive = brakingFrom ⟨a, .slot j⟩ s)) ∧
          (∀ j, (slotAt s j).state = .free ∨ (slotAt s j).state = .complete →
            (∀ b ∈ [Actuator.step, Actuator.awning], s.drive.owner ≠ some ⟨b, .slot j⟩) →
              slotAt t j = slotAt s j) ∧
          OriginsKeptBut [chDrive] s t ∧
          FlagsKeptBut [.moveDone, .moveFailed, .loadShed] s t ∧
          t = { afterWalk (afterRequest s t) t with drive := t.drive, motion := t.motion }) ∧
      (1 < ring.toNat ∨
          (ring.toNat = a.code ∧ index.toNat ≠ 255 ∧
            ∀ j : Fin 16, index.toNat = j.val → inRing s a j = false) →
        exec (.moveCancel tag p) s = .next (answered 8 tag [4#8] s))

/-- The timers of the Drive Stage (R115, R116, R118, R124, R127): after the settle time and after a retry
wait the motor runs, with a stall count of 0 and the inrush blank anew; after the back-off the stage
waits 1,000 × 2^(r − 1) ms, with r the retries used. At the end of the brake hold the stage is left
without owner, the gap timer of the actuator that stopped starts, and its end frees a stage in GAP. The
arbiter then takes the claimant it chooses: one of the other actuator waits in GAP; an override becomes
ACTIVE and, as class 0, is granted at once; a slot meets its start checks, and a RETRACT that is not at
its destination becomes ACTIVE. SETTLE_END, RETRY_WAIT_END, BACKOFF_END, BRAKE_HOLD_END and GAP_TIMER_END
report that their timer has run out, whatever the timer still shows (log 4: the model's choice). -/
def Obligations.StageTimersEndTheirPhases : Prop :=
  (∀ (s : State) (o : Owner),
    let running :=
      s.setDrive
        { s.drive with
          stage := .running
          phaseTimer := 0
          stallCount := 0
          legTime := 0
          blank := s.params.inrushBlank
          stallDue := false }
    Settled s →
      (s.drive.stage = .waking → exec .settleEnd s = .next running) ∧
      (s.drive.stage = .retryWait → exec .retryWaitEnd s = .next running) ∧
      (s.drive.stage = .backing → s.drive.owner = some o →
        exec .backoffEnd s =
          .next
            (s.setDrive
              { s.drive with
                stage := .retryWait
                phaseTimer := 1000 * 2 ^ (ownerRetries s o - 1) }))) ∧
  (∀ (s : State) (o : Owner),
    Settled s →
      (s.drive.stage = .braking → s.drive.owner = some o →
        ∃ t, exec .brakeHoldEnd s = .next t ∧
          t.drive.lastActuator = o.actuator ∧
          t.drive.gap =
            (if s.params.gapTime = 0 then s.drive.gap else some ⟨s.params.gapTime, o.actuator⟩) ∧
          (chosen s = none ∨ s.time.power ≠ .active →
            t.drive.stage = .idle ∧ t.drive.owner = none ∧ t.drive.direction = none ∧
              t.drive.phaseTimer = 0 ∧ origins t chDrive = OriginSet.empty ∧
              t.motion = s.motion) ∧
          OriginsKeptBut [chDrive] s t ∧
          FlagsKeptBut [.moveDone, .moveFailed, .loadShed] s t ∧
          t = { afterWalk (afterEvent s t) t with drive := t.drive, motion := t.motion }) ∧
      (s.drive.gap.isSome = true →
        ∃ t, exec .gapTimerEnd s = .next t ∧
          t.drive.gap = none ∧
          (s.drive.stage ≠ .gap →
            t = { afterEvent s t with drive := { s.drive with gap := none } }) ∧
          (s.drive.stage = .gap → t.drive.stage ≠ .gap) ∧
          OriginsKeptBut [chDrive] s t ∧
          FlagsKeptBut [.moveDone, .moveFailed, .loadShed] s t ∧
          t = { afterWalk (afterEvent s t) t with drive := t.drive, motion := t.motion })) ∧
  (∀ (s : State) (o c : Owner),
    let due := if s.params.gapTime = 0 then s.drive.gap else some ⟨s.params.gapTime, o.actuator⟩
    s.drive.stage = .braking → s.drive.owner = some o → s.time.power = .active → chosen s = some c →
      ListsAgree s → Settled s →
      ∃ t, exec .brakeHoldEnd s = .next t ∧
        (∀ g ∈ due, g.actuator ≠ c.actuator →
          t.drive.stage = .gap ∧ t.drive.owner = none ∧ t.motion = s.motion ∧
            origins t chDrive = OriginSet.empty) ∧
        ((∀ g ∈ due, g.actuator = c.actuator) → c.motion = .override →
          (destinationReached s c = none →
            overrideOf t c.actuator = { overrideOf s c.actuator with state := .active } ∧
              t.drive.owner = some c ∧ t.drive.stage = .waking ∧ t.drive.direction = some .retract ∧
              t.drive.phaseTimer = s.params.settleTime ∧
              origins t chDrive = { OriginSet.empty with override := some 0 }) ∧
          (∀ r ∈ destinationReached s c, MotionEnded c r s t)) ∧
        ((∀ g ∈ due, g.actuator = c.actuator) → ∀ j, c.motion = .slot j →
          (slotAt s j).action ≠ .retract →
          (eventActive s .ignitionOn = true ∨ eventActive s .estop = true ∨ s.meter.band = .critical ∨
              (c.actuator = .awning ∧ s.wind.lockout = true) →
            SlotEnded j .refusedInterlock s t)) ∧
        ((∀ g ∈ due, g.actuator = c.actuator) → ∀ j, c.motion = .slot j →
          (slotAt s j).action = .retract → destinationReached s c = none →
            slotAt t j = { slotAt s j with state := .active } ∧ t.drive.owner = some c ∧
              t.drive.lastServed = c.actuator ∧
              (t.drive.stage = .claimed ∨ t.drive.stage = .waking) ∧
              origins t chDrive = { OriginSet.empty with motion := some 0 }))

/-- The ends of the motion of a slot or of an override (R114, R125, R127, R128): the result its rule
gives it, the stage in BRAKING where the motor had been switched on, and the stall in the middle of the
travel that only retries. GRANT_WAIT_EXPIRY reports that the grant wait has run out, whatever the phase
timer shows (log 4: the model's choice), and a MOVE_TO that is still CLAIMED has reached its target where
the reported position equals it (log 37). The edges of the three limit switches set the position and end
the motion toward them; an EXTEND or MOVE_TO of the awning runs on from the new zero (R139, R141, log
44). A stall with more retries used than the maximum fails like one with as many (log 47), and one that
ends a MOVE_TO at its end sets the position of its target (R139). A rising edge of IGNITION_ON ends an
EXTEND or MOVE_TO (R133) and raises the override of each actuator that is out (R117, R143), which
preempts a slot's motion (R119) and, with the stage IDLE, is taken at once, the one of the step where
both are raised (log 23: the model's reading). -/
def Obligations.TheEndsOfAMotion : Prop :=
  (∀ (s : State) (o : Owner) (r : MotionResult),
    let a := o.actuator
    let braking := brakingFrom o s
    s.drive.owner = some o → Settled s →
      (s.drive.stage = .claimed →
        ∃ t, exec .grantWaitExpiry s = .next t ∧ MotionEnded o .refusedBudget s t ∧ t.drive.owner ≠ some o ∧
          OriginsKeptBut [chDrive] s t ∧
          FlagsKeptBut [.moveDone, .moveFailed, .loadShed] s t ∧
          t = { afterWalk (afterEvent s t) t with drive := t.drive, motion := t.motion }) ∧
      (s.drive.stage = .running → travelTime s a * 3 / 2 < ownerRunTime s o →
        ∃ t, exec .motionTimeout s = .next t ∧ MotionEnded o .failedTimeout s t ∧ t.drive = braking ∧
          FlagsKeptBut [.moveFailed] s t ∧
          t = { afterEvent s t with
            drive := braking
            motion := t.motion
            act := { s.act with homing := if a = .step then none else s.act.homing } }) ∧
      (holdsStage s.drive.stage = true → destinationReached s o = some r →
        ∃ t, exec .destinationReached s = .next t ∧ MotionEnded o r s t ∧
          (s.drive.stage ≠ .claimed → t.drive = braking) ∧
          (s.drive.stage = .claimed → t.drive.owner ≠ some o) ∧
          OriginsKeptBut [chDrive] s t ∧
          FlagsKeptBut [.moveDone, .moveFailed, .loadShed] s t ∧
          t = { afterWalk (afterEvent s t) t with drive := t.drive, motion := t.motion }) ∧
      (s.drive.stage = .running → s.drive.stallDue = true →
        ∃ t, exec .motorStall s = .next t ∧
          (inEndZone s o = true → destinationSwitchMapped s o = true →
            MotionEnded o .failedLateStall s t ∧ t.drive = braking) ∧
          (inEndZone s o = true → destinationSwitchMapped s o = false →
            MotionEnded o .doneEndByStall s t ∧ t.drive = braking ∧
              (ownerAction s o = .extend →
                (a = .step → t.act.stepMs = some s.params.stepTravel) ∧
                (a = .awning → t.act.posMs = some s.params.awningTravel)) ∧
              (ownerAction s o = .retract →
                (a = .step → t.act.stepMs = some 0) ∧ (a = .awning → t.act.posMs = some 0)) ∧
              (ownerAction s o = .moveTo → a = .awning →
                t.act.posMs = some (ceilDiv (ownerTarget s o * s.params.awningTravel) 1000))) ∧
          (inEndZone s o = false → ownerRetries s o < s.params.maxRetries →
            MotionCounts o (ownerRetries s o + 1) (ownerRunTime s o) s t ∧
              t.drive = { s.drive with stage := .backing, phaseTimer := s.params.backoffTime }) ∧
          (inEndZone s o = false → s.params.maxRetries ≤ ownerRetries s o →
            MotionEnded o .failedStallLimit s t ∧ t.drive = braking) ∧
          t.table = s.table ∧
          FlagsKeptBut [.moveDone, .moveFailed, .roadUnsafe] s t ∧
          t = { afterEvent s t with
            drive := t.drive, motion := t.motion, act := t.act
            heater := { s.heater with cabinDue := t.heater.cabinDue }
            tanks := { s.tanks with senderDue := t.tanks.senderDue, tempDue := t.tanks.tempDue }
            pins := t.pins
            time := { s.time with power := t.time.power, idleDue := t.time.idleDue } })) ∧
  (∀ (s : State) (i j : Fin 16) (rising : Bool) (n : Nat) (xs : List Bool) (order : List HandOff)
    (a : Actuator),
    Settled s →
      let holds := decide (s.drive.owner = some ⟨a, .slot j⟩) && holdsStage s.drive.stage
      (EdgeAt i .stepInLimit rising n xs s →
        ∃ t, exec (.debounceComplete i xs order) s = .next t ∧
          t.act.posMs = s.act.posMs ∧
          t.act.stepMs =
            (if rising then some 0
            else if eventActive s .stepOutLimit then some s.params.stepTravel else s.act.stepMs) ∧
          (rising = true ∨ eventActive s .stepOutLimit = true → t.act.homing = none) ∧
          (rising = true → eventActive s .stepOutLimit = false → a = .step → holds = true →
            (slotAt s j).action = .retract → SlotEnded j .doneEndSwitch s t)) ∧
      (EdgeAt i .stepOutLimit rising n xs s →
        ∃ t, exec (.debounceComplete i xs order) s = .next t ∧
          t.act.posMs = s.act.posMs ∧
          t.act.stepMs =
            (if rising then some s.params.stepTravel
            else if eventActive s .stepInLimit then some 0 else s.act.stepMs) ∧
          (rising = true ∨ eventActive s .stepInLimit = true → t.act.homing = none) ∧
          (rising = true → a = .step → holds = true → (slotAt s j).action = .extend →
            SlotEnded j .doneEndSwitch s t)) ∧
      (EdgeAt i .awningInLimit rising n xs s →
        ∃ t, exec (.debounceComplete i xs order) s = .next t ∧
          t.act.stepMs = s.act.stepMs ∧ t.act.posMs = (if rising then some 0 else s.act.posMs) ∧
          (rising = true → a = .awning → holds = true → (slotAt s j).action = .retract →
            SlotEnded j .doneEndSwitch s t) ∧
          (rising = true → a = .awning → holds = true → (slotAt s j).action ≠ .retract →
            slotAt t j = slotAt s j ∧ t.drive = s.drive) ∧
          (rising = true → s.drive.owner = some ⟨.awning, .override⟩ → holdsStage s.drive.stage = true →
            MotionEnded ⟨.awning, .override⟩ .doneEndSwitch s t) ∧
          (rising = false → eventActive s .ignitionOn = true → awningStowed s = true →
            eventActive s .estop = false → (overrideOf s .awning).state = .none →
              (overrideOf t .awning).state ≠ .none ∧ (overrideOf t .awning).cause = some .ignition)) ∧
      (EdgeAt i .ignitionOn true n xs s →
        ∃ t, exec (.debounceComplete i xs order) s = .next t ∧
          t.act.posMs = s.act.posMs ∧ t.act.stepMs = s.act.stepMs ∧
          (∀ b ∈ [Actuator.step, Actuator.awning],
            (eventActive s .estop = false → stowed s b = false → (overrideOf s b).state = .none →
              (overrideOf t b).state ≠ .none ∧ (overrideOf t b).cause = some .ignition ∧
                (overrideOf t b).retries = 0 ∧ (overrideOf t b).runTime = 0) ∧
            (eventActive s .estop = true ∨ (overrideOf s b).state = .active →
              (overrideOf s b).state ≠ .raised → overrideOf t b = overrideOf s b)) ∧
          (holds = true → (slotAt s j).action ≠ .retract ∨
              (eventActive s .estop = false ∧ stowed s a = false ∧ (overrideOf s a).state = .none) →
            SlotEnded j .abortedPreempted s t ∧
              (afterWaking s.drive.stage = true → t.drive = brakingFrom ⟨a, .slot j⟩ s)) ∧
          (s.drive.stage = .idle → s.time.power = .active → s.drive.gap = none →
            origins s chDrive = OriginSet.empty → ListsAgree s → eventActive s .estop = false →
            stowed s .step = false → (overrideOf s .step).state = .none →
              (overrideOf t .step).state = .active ∧ t.drive.owner = some ⟨.step, .override⟩ ∧
                t.drive.stage = .waking ∧ t.drive.direction = some .retract ∧
                origins t chDrive = { OriginSet.empty with override := some 0 })))

/-- One millisecond of drive in RUNNING or BACKING of the motion of a slot or of an override (R115, R126,
R138, R141): the run time and the leg count, the position follows the direction, and every tenth
millisecond past the inrush blank takes a sample for the stall count, which is compared with the stall
time in force then (R134). While the step position is unknown the homing count stands for it, and sets
the position where it reaches the travel with no destination switch mapped (R142). -/
def Obligations.AMillisecondOfDrive : Prop :=
  (∀ (s : State) (x : MotorSample) (a : Actuator) (i : Fin 16) (d : Direction),
    let leg := s.drive.legTime + 1
    let extend := decide (d = .extend) == decide (s.drive.stage = .running)
    let high : Bool :=
      match x with
      | .current mA => decide ((if a = .step then s.params.stepStall else s.params.awningStall) ≤ mA)
      | .rail => true
    s.drive.owner = some ⟨a, .slot i⟩ → s.drive.direction = some d → s.time.power ≠ .dormant →
      s.drive.stage = .running ∨ s.drive.stage = .backing → Settled s →
        ∃ t, exec (.driveMillisecond x) s = .next t ∧
          t.drive.gap = s.drive.gap.map (fun g => { g with ms := g.ms - 1 }) ∧
          (s.drive.stage = .running →
            (slotAt t i).runTime = (slotAt s i).runTime + 1 ∧ t.drive.legTime = leg ∧
              t.drive.stallCount =
                (if leg % 10 = 0 ∧ s.drive.blank < leg then
                  if high = true then min 200 (s.drive.stallCount + 1) else 0
                else s.drive.stallCount) ∧
              t.drive.stallDue =
                (if leg % 10 = 0 ∧ s.drive.blank < leg then
                  decide (s.params.stallTime ≤ t.drive.stallCount * 10)
                else s.drive.stallDue)) ∧
          (s.drive.stage = .backing →
            (slotAt t i).runTime = (slotAt s i).runTime ∧ t.drive.legTime = s.drive.legTime ∧
              t.drive.stallCount = s.drive.stallCount ∧ t.drive.stallDue = s.drive.stallDue) ∧
          (a = .awning →
            t.act.posMs =
              s.act.posMs.map (fun n =>
                if extend then min s.params.awningTravel (n + 1) else n - 1) ∧
            t.act.stepMs = s.act.stepMs ∧ t.act.homing = s.act.homing) ∧
          (a = .step →
            t.act.posMs = s.act.posMs ∧
              ∀ n ∈ s.act.stepMs,
                t.act.stepMs = some (if extend then min s.params.stepTravel (n + 1) else n - 1)) ∧
          (eventActive s .ignitionOn = false →
            t.drive.stage = s.drive.stage ∧ t.drive.phaseTimer = s.drive.phaseTimer - 1 ∧
              t = { afterEvent s t with drive := t.drive, motion := t.motion, act := t.act }) ∧
          t.table = s.table ∧ FlagsKeptBut [.moveFailed, .roadUnsafe] s t) ∧
  (∀ (s : State) (x : MotorSample) (o : Owner) (d : Direction) (h : Nat),
    let leg := s.drive.legTime + 1
    let counted := s.drive.stage = .running ∧ leg % 10 = 0 ∧ s.drive.blank < leg
    let high : Bool :=
      match x with
      | .current mA =>
        decide ((if o.actuator = .step then s.params.stepStall else s.params.awningStall) ≤ mA)
      | .rail => true
    let count := if high = true then min 200 (s.drive.stallCount + 1) else 0
    let extend := decide (d = .extend) == decide (s.drive.stage = .running)
    let homed := if s.drive.stage = .running then h + 1 else h - 1
    s.drive.owner = some o → s.drive.direction = some d → s.time.power ≠ .dormant →
      s.drive.stage = .running ∨ s.drive.stage = .backing → Settled s →
        (o.motion = .override → (overrideOf s o.actuator).state = .active →
          ∃ t, exec (.driveMillisecond x) s = .next t ∧
            MotionCounts o (ownerRetries s o)
              (ownerRunTime s o + if s.drive.stage = .running then 1 else 0) s t ∧
            t.drive =
              { s.drive with
                phaseTimer := s.drive.phaseTimer - 1
                gap := s.drive.gap.map (fun g => { g with ms := g.ms - 1 })
                legTime := if s.drive.stage = .running then leg else s.drive.legTime
                stallCount := if counted then count else s.drive.stallCount
                stallDue := if counted then decide (s.params.stallTime ≤ count * 10) else s.drive.stallDue } ∧
            (o.actuator = .awning →
              t.act = { s.act with
                posMs := s.act.posMs.map (fun p =>
                  if extend then min s.params.awningTravel (p + 1) else p - 1) }) ∧
            (o.actuator = .step → ∀ p ∈ s.act.stepMs,
              t.act = { s.act with
                stepMs := some (if extend then min s.params.stepTravel (p + 1) else p - 1) })) ∧
        (o.actuator = .step → s.act.stepMs = none → s.act.homing = some h →
          ∃ t, exec (.driveMillisecond x) s = .next t ∧
            t.act =
              (if s.params.stepTravel ≤ homed ∧ destinationSwitchMapped s o = false then
                { s.act with
                  stepMs := some (if ownerAction s o = .extend then s.params.stepTravel else 0)
                  homing := none }
              else { s.act with homing := some homed })))

/-- A rising edge of ESTOP (R132): no slot is READY or ACTIVE and no override raised or active, every one
that was has completed ABORTED(ESTOP), and the stage brakes or is idle. -/
def Obligations.EmergencyStopEndsEveryMotion : Prop :=
  ∀ (s : State) (i : Fin 16) (samples : List Bool) (order : List HandOff) (w : Bool) (n : Nat)
    (pol : Polarity) (m : PinMode),
    pinAt s i = ⟨m, pol, some (.input .estop), w, .joined false n⟩ →
      eventActive s .estop = false → n < (if s.time.power = .dormant then 2 else 20) →
      samples =
        List.replicate ((if s.time.power = .dormant then 2 else 20) - n)
          (decide (pol = .activeHigh)) →
      Settled s →
        ∃ t, exec (.debounceComplete i samples order) s = .next t ∧
          eventActive t .estop = true ∧ flagSet t .estopActive = true ∧
          (∀ j, (slotAt s j).state = .ready ∨ (slotAt s j).state = .active →
            SlotEnded j .abortedEstop s t) ∧
          (∀ j, (slotAt s j).state = .free ∨ (slotAt s j).state = .complete →
            slotAt t j = slotAt s j) ∧
          (∀ a ∈ [Actuator.step, Actuator.awning],
            (overrideOf t a).state = .none ∧
              ((overrideOf s a).state ≠ .none →
                (overrideOf t a).lastResult = some .abortedEstop)) ∧
          holdsStage t.drive.stage = false ∧
          (afterWaking s.drive.stage = true → t.drive.stage = .braking) ∧
          t.time.power = (if asleep s then .leaving else s.time.power) ∧
          OriginsKeptBut [chDrive] s t ∧
          FlagsKeptBut [.estopActive, .moveFailed, .loadShed] s t ∧
          t = { afterWalk (afterEvent s t) t with
            heater :=
              { (afterWalk (afterEvent s t) t).heater with cabinDue := t.heater.cabinDue }
            tanks :=
              { (afterWalk (afterEvent s t) t).tanks with
                senderDue := t.tanks.senderDue
                tempDue := t.tanks.tempDue }
            drive := t.drive
            motion := t.motion
            pins := t.pins
            time := { s.time with power := t.time.power, idleDue := t.time.idleDue } }

/-! ## Pins and wind -/

/-- The debounce of a pin (R160, R162): a JOINED pin takes a level that differs for the whole debounce
count of its event, and a SETTLING pin joins at a level that stays for that long; no contribution of any
other pin changes. An edge of SHORE_PRESENT or LOAD_LIMIT recomputes the budget (R34). What the other
owners do at an edge: a wall switch lights or darkens its lamp (R61), the door lights the entry lamp and
restarts its hold (R62), its falling edge at the level that stands (log 50: the model's choice),
SCENE_SELECT recalls (R66), PUMP_DEMAND demands the pump past its guard (R96), a flame lost in RUNNING is
a failed start (R80), and the ignition holds the levels or empties the windows (R93). -/
def Obligations.DebouncedPinsTakeTheLevel : Prop :=
  (∀ (s : State) (i : Fin 16) (e : InputEvent) (level c : Bool) (order : List HandOff) (n : Nat),
    let need := debounceCount e s.time.power
    let kept := fun (t : State) =>
      t.meter = s.meter ∧ t.params = s.params ∧ t.pending = s.pending ∧
        t.time.tick = s.time.tick ∧ t.time.schedule = s.time.schedule ∧
        t.link.inbox = s.link.inbox ∧ t.link.replies = s.link.replies ∧
        (∀ j, j ≠ i → (pinAt t j).event = (pinAt s j).event ∧
          (pinAt t j).mode = (pinAt s j).mode ∧ (pinAt t j).polarity = (pinAt s j).polarity ∧
          (pinAt t j).wake = (pinAt s j).wake ∧
          ∀ e', (pinAt t j).joinedTo e' = (pinAt s j).joinedTo e')
    (pinAt s i).event = some (.input e) → e ≠ .windPulse → Settled s →
      ((pinAt s i).binding = .joined c n → n < need → (pinAt s i).converted level = !c →
        ∃ t, exec (.debounceComplete i (List.replicate (need - n) level) order) s = .next t ∧
          pinAt t i = { pinAt s i with binding := .joined (!c) 0 } ∧ kept t ∧
          (eventActive t e ≠ eventActive s e → e = .shorePresent ∨ e = .loadLimit →
            t.table.budget = budgetNow t)) ∧
      ((pinAt s i).binding = .joined c n → (pinAt s i).converted level = c →
        exec (.debounceComplete i [level] order) s =
          .next (s.setPins (vput s.pins i { pinAt s i with binding := .joined c 0 }))) ∧
      ((pinAt s i).binding = .settling none 0 →
        ∃ t, exec (.pinJoin i (List.replicate need level) order) s = .next t ∧
          pinAt t i = { pinAt s i with binding := .joined ((pinAt s i).converted level) 0 } ∧
          eventMapped t e = true ∧ kept t)) ∧
  (∀ (s : State) (i : Fin 16) (e : InputEvent) (rising : Bool) (n : Nat) (xs : List Bool)
    (order : List HandOff),
    EdgeAt i e rising n xs s → e ≠ .windPulse → Settled s →
      ∃ t, exec (.debounceComplete i xs order) s = .next t ∧
        eventActive t e = rising ∧ eventMapped t e = true ∧
        (∀ k : Fin 6, e = .lightSwitch k →
          origins t (chLamp k) =
            (if rising = false then origins s (chLamp k)
            else if 0 < lampTarget s k then
              { origins s (chLamp k) with host := none, schedule := none, switch := none, scene := none }
            else { origins s (chLamp k) with switch := some (s.params.switchLevel k) }) ∧
          OriginsKeptBut [chLamp k] s t) ∧
        (e = .sceneSelect →
          let number : Int := if rising then s.params.val 57 else s.params.val 58
          (number < 0 → OriginsKeptBut [] s t) ∧
          (∀ k : Fin 4, number = (k.val : Int) →
            (∀ j : Fin 6, origins t (chLamp j) =
              match s.lamps.scenes[k][j] with
              | none => origins s (chLamp j)
              | some l => { origins s (chLamp j) with scene := if l = 0 then none else some l }) ∧
            OriginsKeptBut (allLamps.map chLamp) s t)) ∧
        (e = .doorOpen →
          (eventActive s .ignitionOn = true ∨ s.params.entryChannel < 0 →
            OriginsKeptBut [chDrive] s t ∧ t.lamps.entryDue = s.lamps.entryDue) ∧
          (eventActive s .ignitionOn = false → ∀ k : Fin 6, s.params.entryChannel = (k.val : Int) →
            t.lamps.entryDue =
              (if rising = true ∨ s.lamps.entryDue.isSome = true then
                some (s.ahead (s.params.entryHold * 16))
              else none) ∧
            origins t (chLamp k) =
              (if rising then { origins s (chLamp k) with entry := some s.params.entryLevel }
              else origins s (chLamp k)) ∧
            OriginsKeptBut [chLamp k, chDrive] s t)) ∧
        (e = .pumpDemand →
          origins t chPump =
            (if rising = false then { origins s chPump with switch := none }
            else if pumpGuard s then origins s chPump
            else { origins s chPump with switch := some 0 }) ∧
          OriginsKeptBut [chPump] s t) ∧
        (e = .heaterFlame →
          (rising = false → s.heater.state = .running →
            t.heater.state = .purging ∧ t.heater.failed = min 3 (s.heater.failed + 1) ∧
              t.heater.purgeDue = some (s.ahead (s.params.purgeTime * 16)) ∧
              (2 ≤ s.heater.failed → t.heater.latch = true ∧ flagBits t .heaterLockout = ⟨true, true⟩) ∧
              (s.heater.failed < 2 → t.heater.latch = s.heater.latch)) ∧
          (rising = true ∨ s.heater.state ≠ .running →
            t.heater = { s.heater with cabinDue := t.heater.cabinDue } ∧ t.table = s.table)) ∧
        (e = .ignitionOn →
          ∀ k : Fin 3, tankRec t k =
            if rising then
              { tankRec s k with
                source :=
                  match (tankRec s k).source with
                  | .parked => .held (levelInUse (tankRec s k))
                  | .held l => .held l }
            else { tankRec s k with window := [] }))

/-- PIN_MAP (R157 to R161, R163): the refusals leave the record as it was; an accepted record takes
effect whole. A pin that leaves an input event no longer contributes to it: the event is formed again
from its other JOINED pins, with the edge that this is, and WIND_PULSE or HEATER_FLAME without a pin is
no longer supervised. A new input binding begins SETTLING, but a WIND_PULSE pin joins at once with its
converted level, and a rising edge by that is counted. -/
def Obligations.PinMapWritesTheRecord : Prop :=
  (∀ (s : State) (tag pin mode pol ev wf : Byte) (i : Fin 16) (level : Bool) (order : List HandOff),
    let p := [pin, mode, pol, ev, wf]
    RequestAt 13 tag p s → Settled s →
      (16 ≤ pin.toNat →
        exec (.pinMap tag p level order) s = .next (answered 13 tag [4#8] s)) ∧
      (pin.toNat = i.val → parsePin mode pol ev wf = none →
        exec (.pinMap tag p level order) s =
          .next (answered 13 tag (pinMapReply .range pin (pinAt s i)) s)) ∧
      (pin.toNat = i.val → ∀ new ∈ parsePin mode pol ev wf,
        pinBusy s (pinAt s i) new = true →
        exec (.pinMap tag p level order) s =
          .next (answered 13 tag (pinMapReply .busy pin (pinAt s i)) s)) ∧
      (pin.toNat = i.val → ∀ new ∈ parsePin mode pol ev wf,
        pinBusy s (pinAt s i) new = false → (pinAt s i).inputEvent = none →
        new.event ≠ some (.input .windPulse) →
        let binding :=
          if keepsBinding (pinAt s i) new then (pinAt s i).binding
          else if new.inputEvent.isSome then .settling none 0 else .unbound
        exec (.pinMap tag p level order) s =
          .next
            ((answered 13 tag (pinMapReply .accepted pin { new with binding := binding }) s).setPins
              (vput s.pins i { new with binding := binding })))) ∧
  (∀ (s : State) (tag pin mode pol ev wf : Byte) (i : Fin 16) (level : Bool) (order : List HandOff)
    (e : InputEvent),
    let p := [pin, mode, pol, ev, wf]
    RequestAt 13 tag p s → Settled s → pin.toNat = i.val →
      ∀ new ∈ parsePin mode pol ev wf, pinBusy s (pinAt s i) new = false →
      ((pinAt s i).event = some (.input e) → new.event ≠ some (.input e) →
        new.event ≠ some (.input .windPulse) →
        let record := { new with binding := if new.inputEvent.isSome then .settling none 0 else .unbound }
        ∃ t, exec (.pinMap tag p level order) s = .next t ∧
          Replied 13 tag (pinMapReply .accepted pin record) s t ∧ pinAt t i = record ∧
          eventMapped t e = decide (∃ j, j ≠ i ∧ (pinAt s j).joinedTo e ≠ none) ∧
          eventActive t e = decide (∃ j, j ≠ i ∧ (pinAt s j).joinedTo e = some true) ∧
          (∀ j, j ≠ i → (pinAt t j).mode = (pinAt s j).mode ∧ (pinAt t j).event = (pinAt s j).event ∧
            (pinAt t j).polarity = (pinAt s j).polarity ∧ (pinAt t j).wake = (pinAt s j).wake ∧
            ∀ e', (pinAt t j).joinedTo e' = (pinAt s j).joinedTo e') ∧
          (eventActive t e ≠ eventActive s e → e = .shorePresent ∨ e = .loadLimit →
            t.table.budget = budgetNow t) ∧
          (e = .windPulse → eventMapped s e = true → eventMapped t e = false →
            t.wind.lockout = false ∧ t.wind.high = 0 ∧ t.wind.calm = 0 ∧ t.wind.count = 0) ∧
          (e = .heaterFlame → eventMapped t e = false →
            t.heater = { s.heater with cabinDue := t.heater.cabinDue }) ∧
          (e ≠ .ignitionOn → e ≠ .doorOpen → e ≠ .estop → e ≠ .stepInLimit → e ≠ .stepOutLimit →
            e ≠ .awningInLimit → t.motion = s.motion ∧ t.act.posMs = s.act.posMs ∧
              t.act.stepMs = s.act.stepMs) ∧
          t.params = s.params ∧ t.meter = s.meter ∧ t.pending = s.pending) ∧
      ((pinAt s i).inputEvent = none → new.event = some (.input .windPulse) →
        let record := { new with binding := .joined (new.converted level) 0 }
        ∃ t, exec (.pinMap tag p level order) s = .next t ∧
          Replied 13 tag (pinMapReply .accepted pin record) s t ∧ pinAt t i = record ∧
          eventMapped t .windPulse = true ∧
          eventActive t .windPulse = (eventActive s .windPulse || new.converted level) ∧
          t.wind =
            { s.wind with
              count :=
                if eventActive s .windPulse = false ∧ new.converted level = true then
                  min 65535 (s.wind.count + 1)
                else s.wind.count } ∧
          t.table = s.table ∧ t.drive = s.drive ∧ t.motion = s.motion ∧ t.act = s.act ∧
          t.params = s.params ∧ t.meter = s.meter ∧ t.pending = s.pending))

/-- A change of level of a WIND_PULSE pin (R163, R147): the contribution follows at once, and a
rising edge of the event, and no other change, is counted. The end of a wind window (R147, R148,
R149): the speed of the counted pulses, the high count, and the lockout, which the second high
window in a row starts and enough calm ends; a trip raises the override of an awning that is out,
which preempts a slot's motion (R119). That a window ending with WIND_PULSE unmapped also clears the
count and begins the next window is the model's reading (log 32). -/
def Obligations.WindPulsesAndWindows : Prop :=
  (∀ (s : State) (i : Fin 16) (level c : Bool) (n : Nat),
    (pinAt s i).event = some (.input .windPulse) → (pinAt s i).binding = .joined c n →
      (pinAt s i).converted level = !c → Settled s →
        ∃ t, exec (.windPulse i level) s = .next t ∧
          (pinAt t i).joinedTo .windPulse = some (!c) ∧
          t.wind =
            { s.wind with
              count :=
                if eventActive s .windPulse = false ∧ eventActive t .windPulse = true then
                  min 65535 (s.wind.count + 1)
                else s.wind.count } ∧
          FlagsKeptBut [] s t ∧
          t = { afterEvent s t with
            wind := t.wind
            pins := t.pins
            heater := { s.heater with cabinDue := t.heater.cabinDue }
            tanks := { s.tanks with senderDue := t.tanks.senderDue, tempDue := t.tanks.tempDue }
            time := { s.time with power := t.time.power, idleDue := t.time.idleDue } }) ∧
  (∀ (s : State),
    let speed := min 65535 (s.wind.count * s.params.windFactor)
    let calm := s.wind.calm + ticksSince s.now s.wind.start
    reached s.now s.wind.due = true → Settled s →
      (eventMapped s .windPulse = false →
        exec .windWindowEnd s =
          .next
            (s.setWind
              { s.wind with count := 0, due := s.wind.due + 48, start := s.now, speed := 0 })) ∧
      (eventMapped s .windPulse = true →
        ∃ t, exec .windWindowEnd s = .next t ∧
          t.wind.speed = speed ∧ t.wind.count = 0 ∧ t.wind.due = s.wind.due + 48 ∧
          t.wind.start = s.now ∧
          (speed < s.params.tripSpeed →
            t.wind.high = 0 ∧
              (s.wind.lockout = true →
                (calm < s.params.lockoutRelease * 16 →
                  t.wind.lockout = true ∧ t.wind.calm = calm) ∧
                (s.params.lockoutRelease * 16 ≤ calm →
                  t.wind.lockout = false ∧ t.wind.calm = 0)) ∧
              (s.wind.lockout = false → t.wind.lockout = false)) ∧
          (s.params.tripSpeed ≤ speed →
            t.wind.high = min 2 (s.wind.high + 1) ∧ t.wind.calm = 0 ∧
              t.wind.lockout = (s.wind.lockout || decide (1 ≤ s.wind.high)) ∧
              (1 ≤ s.wind.high → s.wind.lockout = false → awningStowed s = false →
                eventActive s .estop = false → (overrideOf s .awning).state = .none →
                (overrideOf t .awning).state ≠ .none ∧ (overrideOf t .awning).cause = some .wind ∧
                  (overrideOf t .awning).retries = 0 ∧
                  ∀ b ∈ [Actuator.step, .awning], ∀ j, s.drive.owner = some ⟨b, .slot j⟩ →
                    holdsStage s.drive.stage = true →
                      SlotEnded j .abortedPreempted s t ∧
                        (afterWaking s.drive.stage = true → t.drive = brakingFrom ⟨b, .slot j⟩ s)) ∧
              (1 ≤ s.wind.high → s.wind.lockout = false → awningStowed s = false →
                eventActive s .estop = false → (overrideOf s .awning).state = .none →
                s.drive.stage ≠ .idle → holdsStage s.drive.stage = false →
                (overrideOf t .awning).state = .raised ∧
                  (overrideOf t .awning).cause = some .wind)) ∧
          flagSet t .windLockout = (t.wind.lockout || flagSet s .windLockout) ∧
          OriginsKeptBut [chDrive] s t ∧
          FlagsKeptBut [.windLockout, .moveDone, .moveFailed, .loadShed] s t ∧
          t.meter = s.meter ∧ t.params = s.params ∧ t.pending = s.pending ∧
          t.lamps.scenes = s.lamps.scenes ∧ t.act.posMs = s.act.posMs ∧ t.act.stepMs = s.act.stepMs ∧
          t.time.schedule = s.time.schedule ∧ t.time.tick = s.time.tick))

/-! ## Schedule and device time -/

/-- SCHED_WRITE and SCHED_FREE (R179, R184): an accepted write makes the entry ARMED with every field as
given, and an entry whose due instant is already reached fires within it; a free clears the entry or all
of them; the refusals change nothing. A missed
count of 0 stands for none in a FREE entry (log 25). -/
def Obligations.ScheduleWriteAndFree : Prop :=
  ∀ (s : State) (tag x : Byte) (i : Fin 16) (due : Tick) (period : BitVec 32) (notify : Bool)
    (act : SchedAction) (b : List Byte),
    let rest := u32 due.toNat ++ u32 period.toNat ++ flag8 notify ++ actionBytes act
    let u := setEntry s i ⟨.armed, some due, period.toNat, some act, notify, none, 0⟩
    let freed := fun (e : SchedEntry) =>
      { e with state := .free, due := none, action := none, outcome := none, missed := 0 }
    Settled s →
      (parseEntry (BitVec.ofNat 8 i.val :: rest) = some (due, period.toNat, act, notify) →
        RequestAt 10 tag (BitVec.ofNat 8 i.val :: rest) s →
        (reached s.now due = false →
          exec (.schedWrite tag (BitVec.ofNat 8 i.val :: rest)) s =
            .next (answered 10 tag (0#8 :: entryBytes u i) u)) ∧
        (reached s.now due = true →
          ∃ t, exec (.schedWrite tag (BitVec.ofNat 8 i.val :: rest)) s = .next t ∧
            Replied 10 tag (0#8 :: entryBytes t i) s t ∧
            entryAt t i =
              SchedEntry.reschedule s.now
                ⟨.armed, some due, period.toNat, some act, notify, some (runAction act u).1, 0⟩ ∧
            (∀ j, j ≠ i → entryAt t j = entryAt s j))) ∧
      ((match act with | .move _ _ target => decide (target < 65536) | _ => true) = true →
        (parseEntry (BitVec.ofNat 8 i.val :: rest) = some (due, period.toNat, act, notify) ↔
          period.toNat = 0 ∨ (16 ≤ period.toNat ∧ period.toNat ≤ 2147483647))) ∧
      (b.length = 14 → parseEntry (BitVec.ofNat 8 i.val :: b) = none →
        RequestAt 10 tag (BitVec.ofNat 8 i.val :: b) s →
        exec (.schedWrite tag (BitVec.ofNat 8 i.val :: b)) s =
          .next (answered 10 tag (4#8 :: entryBytes s i) s)) ∧
      (b.length = 14 → 16 ≤ x.toNat → RequestAt 10 tag (x :: b) s →
        exec (.schedWrite tag (x :: b)) s = .next (answered 10 tag [4#8] s)) ∧
      (RequestAt 12 tag [BitVec.ofNat 8 i.val] s →
        exec (.schedFree tag [BitVec.ofNat 8 i.val]) s =
          .next (setEntry (answered 12 tag [0#8] s) i (freed (entryAt s i)))) ∧
      (RequestAt 12 tag [255#8] s →
        exec (.schedFree tag [255#8]) s =
          .next
            ((answered 12 tag [0#8] s).setTime
              { s.time with schedule := vmap (fun _ e => freed e) s.time.schedule })) ∧
      (16 ≤ x.toNat → x ≠ 255#8 → RequestAt 12 tag [x] s →
        exec (.schedFree tag [x]) s = .next (answered 12 tag [4#8] s))

/-- A firing (R180, R181, R182, R190): the action is taken through its own rule, its result is the
entry's last outcome, SCHED_FIRED is flagged where notify is set, the entry is rescheduled or SPENT, and
the part wakes; no other entry changes. LOAD sets or withdraws the SCHEDULE origin of a channel (R48),
HEAT sets the SCHEDULE mode (R73), SCENE recalls (R64), MOVE posts with origin SCHEDULE and notify set
(R122), and NOTE does nothing; each has the result of its rule. -/
def Obligations.AnEntryFires : Prop :=
  (∀ (s : State) (i : Fin 16) (act : SchedAction),
    (entryAt s i).state = .armed → dueReached s.now (entryAt s i).due = true →
      (entryAt s i).action = some act →
      (∀ j, j < i → (entryAt s j).state = .armed → dueReached s.now (entryAt s j).due = false) →
      Settled s →
        ∃ t, exec (.scheduleFire i) s = .next t ∧
          entryAt t i =
            SchedEntry.reschedule s.now
              { entryAt s i with outcome := some (runAction act s).1 } ∧
          (∀ j, j ≠ i → entryAt t j = entryAt s j) ∧
          ((entryAt s i).notify = true → flagBits t .schedFired = ⟨true, true⟩) ∧
          ((entryAt s i).notify = false → flagBits t .schedFired = flagBits s .schedFired) ∧
          t.time.power = (if asleep s then .leaving else s.time.power) ∧
          (∀ ch, origins t ch = origins (runAction act s).2 ch) ∧
          t.motion = (runAction act s).2.motion ∧
          t.heater.schedMode = (runAction act s).2.heater.schedMode ∧
          t.time.tick = s.time.tick ∧ t.meter = s.meter ∧ t.params = s.params ∧
          t.wind = s.wind ∧ t.act.posMs = s.act.posMs ∧ t.act.stepMs = s.act.stepMs ∧
          t.link.inbox = s.link.inbox ∧ t.link.replies = s.link.replies ∧ t.pending = s.pending ∧
          FlagsKeptBut [.schedFired, .moveDone, .moveFailed, .loadShed] s t) ∧
  (∀ (s : State) (i : Fin 16) (act : SchedAction),
    (entryAt s i).state = .armed → dueReached s.now (entryAt s i).due = true →
      (entryAt s i).action = some act →
      (∀ j, j < i → (entryAt s j).state = .armed → dueReached s.now (entryAt s j).due = false) →
      Settled s →
        ∃ t, exec (.scheduleFire i) s = .next t ∧
          let result := (entryAt t i).outcome
          (match act with
          | .load channel level =>
            let outcome := if level.toNat ≤ 100 then Result.accepted else .clamped
            (∀ ch : Channel, channel.toNat = ch.val → ch.val < 6 ∨ ch.val = 10 ∨ ch.val = 11 →
              result = some outcome ∧
                origins t ch =
                  { origins s ch with
                    schedule := if level.toNat = 0 then none else some (min level.toNat 100) } ∧
                OriginsKeptBut [ch] s t) ∧
            (channel.toNat = 7 → level.toNat = 0 ∨ pumpGuard s = false →
              result = some outcome ∧
                origins t chPump =
                  { origins s chPump with schedule := if level.toNat = 0 then none else some 0 } ∧
                OriginsKeptBut [chPump] s t) ∧
            (channel.toNat = 7 → level.toNat ≠ 0 → pumpGuard s = true →
              result = some .condition ∧ OriginsKeptBut [] s t) ∧
            (channel.toNat = 6 ∨ channel.toNat = 8 ∨ channel.toNat = 9 ∨ 12 ≤ channel.toNat →
              result = some .range ∧ OriginsKeptBut [] s t)
          | .heat code =>
            t.heater.hostMode = s.heater.hostMode ∧ OriginsKeptBut [chHeater] s t ∧
              (∀ m ∈ [HeatMode.off, .frost, .economy, .comfort], code.toNat = m.code →
                result = some .accepted ∧ t.heater.schedMode = m ∧
                  t.heater.effective = (requestedMode t.heater).inf (ceilingOf s.meter.band)) ∧
              (code.toNat = 255 → result = some .accepted ∧ t.heater.schedMode = s.heater.schedMode) ∧
              (4 ≤ code.toNat → code.toNat ≠ 255 →
                result = some .range ∧ t.heater.schedMode = s.heater.schedMode)
          | .scene number =>
            (∀ k : Fin 4, number.toNat = k.val →
              result = some .accepted ∧
                (∀ j : Fin 6, origins t (chLamp j) =
                  match s.lamps.scenes[k][j] with
                  | none => origins s (chLamp j)
                  | some l => { origins s (chLamp j) with scene := if l = 0 then none else some l }) ∧
                OriginsKeptBut (allLamps.map chLamp) s t) ∧
              (4 ≤ number.toNat → result = some .range ∧ OriginsKeptBut [] s t)
          | .move ring action target =>
            (∀ a ∈ [Actuator.step, .awning], ∀ m ∈ [MoveAction.extend, .retract, .moveTo],
              ring.toNat = a.code → action.toNat = m.code →
                (m = .moveTo → a = .awning ∧ target ≤ 1000) →
                (RingTakes a s →
                  result = some .accepted ∧
                    Posted a m (if m = .moveTo then some target else none) true .schedule s t) ∧
                (eventActive s .estop = true → result = some .estop ∧ t.motion = s.motion) ∧
                (eventActive s .estop = false → ¬RingTakes a s →
                  result = some .full ∧ t.motion = s.motion)) ∧
              (1 < ring.toNat ∨ 2 < action.toNat ∨
                  (action.toNat = 2 ∧ (ring.toNat = 0 ∨ 1000 < target)) →
                result = some .range ∧ t.motion = s.motion)
          | .note =>
            result = some .accepted ∧ t.table = s.table ∧ t.motion = s.motion ∧
              t.drive = s.drive ∧ t.lamps = s.lamps ∧
              t.heater = { s.heater with cabinDue := t.heater.cabinDue }))

/-- R182: a period carries a reached due instant to the first one that is not yet reached: the one before
it is reached, and each period passed over is counted as missed. -/
def Obligations.RescheduledDueIsTheFirstNotReached : Prop :=
  ∀ (now due : Tick) (e : SchedEntry),
    e.due = some due → reached now due = true →
      (e.period = 0 →
        e.reschedule now = { e with state := .spent }) ∧
      (1 ≤ e.period → e.period ≤ 2147483647 →
        let k := ticksSince now due / e.period
        (e.reschedule now).due = some (due + BitVec.ofNat 32 ((k + 1) * e.period)) ∧
          reached now (due + BitVec.ofNat 32 ((k + 1) * e.period)) = false ∧
          (∀ j, j ≤ k → reached now (due + BitVec.ofNat 32 (j * e.period)) = true) ∧
          (e.reschedule now).missed = min 255 (e.missed + k) ∧
          (e.reschedule now).state = e.state ∧ (e.reschedule now).outcome = e.outcome ∧
          (e.reschedule now).action = e.action ∧ (e.reschedule now).period = e.period ∧
          (e.reschedule now).notify = e.notify)

/-- TIME_SET (R177, R183, and R43, R63, R75, R85, R90, R100, R108, R147, R187 for the instants): device
time is the value given, the instants move by the amount of the set, and no entry is left ARMED with its
due instant reached, where every ARMED entry holds an action and a period that SCHED_WRITE takes. -/
def Obligations.TimeSetMovesTheInstants : Prop :=
  ∀ (s : State) (tag : Byte) (new : Tick) (input : MeterInput),
    let p := u32 new.toNat
    let delta := new - s.now
    temperatureOk input.temperature = true → RequestAt 25 tag p s → Settled s →
      ∃ t, exec (.timeSet tag p input) s = .next t ∧ Replied 25 tag (0#8 :: p) s t ∧
        t.time.tick = new ∧ t.time.fraction = 0 ∧ t.time.inc = s.time.inc ∧
        t.meter.intervalStart = new ∧ t.meter.acc = IntervalAcc.empty ∧
        t.tanks.tempDue = s.tanks.tempDue + delta ∧
        t.tanks.senderDue = s.tanks.senderDue.map (· + delta) ∧
        t.tanks.fresh = { s.tanks.fresh with
          dangerDue := s.tanks.fresh.dangerDue.map (· + delta) } ∧
        t.tanks.grey = { s.tanks.grey with
          dangerDue := s.tanks.grey.dangerDue.map (· + delta) } ∧
        t.heater.cabinDue = s.heater.cabinDue + delta ∧
        t.wind = { s.wind with due := s.wind.due + delta, start := s.wind.start + delta } ∧
        ((∀ i, (entryAt s i).state ≠ .armed) → s.meter.acc.count = 0 → input.samples = [] →
          t.lamps = { s.lamps with entryDue := s.lamps.entryDue.map (· + delta) } ∧
            t.heater = { s.heater with
              glowDue := s.heater.glowDue.map (· + delta)
              purgeDue := s.heater.purgeDue.map (· + delta)
              cabinDue := s.heater.cabinDue + delta } ∧
            t.tanks.pumpDue = s.tanks.pumpDue.map (· + delta) ∧
            (∀ ch : Channel, t.table.recs[ch] =
              { s.table.recs[ch] with waitStart := s.table.recs[ch].waitStart.map (· + delta) }) ∧
            t.time.idleDue = s.time.idleDue.map (· + delta) ∧
            t.time.schedule = s.time.schedule ∧ t.motion = s.motion ∧ t.drive = s.drive ∧
            t.act = s.act ∧ t.pins = s.pins ∧ FlagsKeptBut [] s t) ∧
        ((∀ i, (entryAt s i).state = .armed →
            (entryAt s i).period ≤ 2147483647 ∧ (entryAt s i).action.isSome = true) →
          ∀ i, (entryAt t i).state = .armed → dueReached new (entryAt t i).due = false) ∧
        t.params = s.params ∧ t.pending = s.pending

/-- The entry to and the return from the Dormant state (R67, R187, R188, R191): the idle due instant
makes the part ENTERING with every lamp dark; a slow step with the link quiet makes it DORMANT, unless
that step's interval changes the band and wakes it, and the receiver is then in HUNT (log 43); in LEAVING
a slow step makes it ACTIVE. Device time goes on by Inc. -/
def Obligations.EnteringDormantAndLeaving : Prop :=
  ∀ (s : State) (input : MeterInput),
    let next : BitVec 48 := (s.time.tick ++ s.time.fraction) + BitVec.ofNat 48 s.time.inc
    temperatureOk input.temperature = true → Settled s →
      (s.time.power = .active → dueReached s.now s.time.idleDue = true →
        ∃ t, exec .idleDue s = .next t ∧
          t.time.power = .entering ∧ t.time.idleDue = none ∧
          (∀ i : Fin 6, t.lamps.chans[i].output = 0 ∧ t.lamps.chans[i].fade = .steady) ∧
          OriginsKeptBut [] s t ∧ FlagsKeptBut [.loadShed] s t ∧
          t = { afterWalk (afterEvent s t) t with
            time := { s.time with power := .entering, idleDue := none } }) ∧
      (s.time.power = .entering → linkQuiet s = true →
        ∃ t, exec (.dormantEntry input) s = .next t ∧
          t.time.tick ++ t.time.fraction = next ∧
          t.time.power = (if t.meter.band = s.meter.band then .dormant else .leaving) ∧
          (t.time.power = .dormant →
            t.tanks.senderDue = none ∧ t.tanks.tempDue = t.ahead 128 ∧
              t.heater.cabinDue = t.ahead 128) ∧
          t.link.rx = .hunt ∧ t.link.received = [] ∧ t.link.expected = 0 ∧
          t.meter.intervalStart = t.now ∧ t.meter.acc = IntervalAcc.empty ∧
          (∀ i, (pinAt t i).binding = (pinAt s i).clearCount.binding) ∧
          OriginsKeptBut [chHeater] s t ∧ t.params = s.params ∧ t.motion = s.motion ∧
          t.act.posMs = s.act.posMs ∧ t.act.stepMs = s.act.stepMs ∧ t.wind = s.wind ∧
          t.time.schedule = s.time.schedule ∧ t.pending = s.pending) ∧
      (s.time.power = .leaving →
        ∃ t, exec (.leavingToActive input) s = .next t ∧
          t.time.tick ++ t.time.fraction = next ∧ t.time.power = .active ∧
          t.meter.intervalStart = t.now ∧ t.meter.acc = IntervalAcc.empty ∧
          t.params = s.params ∧ t.pins = s.pins ∧ t.wind = s.wind ∧
          t.act.posMs = s.act.posMs ∧ t.act.stepMs = s.act.stepMs ∧
          t.time.schedule = s.time.schedule ∧ t.pending = s.pending ∧
          OriginsKeptBut [chHeater, chDrive] s t)

/-- The measurement of a calibration and the advances of device time (R58, R172, R175, R208): the first
slow step of a measurement starts its fast time, each later one adds the fast time since the step before,
and the one that completes 256 such spans (the 257th step: log 8) gives Inc or FAULT; a measurement that
768 ticks of fast time have not ended gives FAULT. A fast tick in ACTIVE counts one tick, moves every
fading lamp by 16 × fade rate, leaving its fade state to FADE_END (log 28), and lowers the silence count;
a slow step outside ACTIVE adds Inc to the 48-bit number. -/
def Obligations.CalibrationAndDeviceTime : Prop :=
  ∀ (s : State) (input : MeterInput) (steps measured ticks fastTime : Nat),
    let candidate := (measured + fastTime + 128) / 256
    let next : BitVec 48 := (s.time.tick ++ s.time.fraction) + BitVec.ofNat 48 s.time.inc
    temperatureOk input.temperature = true → Settled s →
      (s.time.power = .active → s.time.calib = .running 256 measured ticks →
        ∃ t, exec (.calibrationEnd fastTime) s = .next t ∧
          t.time.calib = .idle ∧
          (98304 ≤ candidate → candidate ≤ 163840 →
            t.time.inc = candidate ∧ t.time.crystal = .good) ∧
          (candidate < 98304 ∨ 163840 < candidate →
            t.time.inc = s.time.inc ∧ t.time.crystal = .fault) ∧
          FlagsKeptBut [] s t ∧
          t = { afterEvent s t with
            time :=
              { (afterEvent s t).time with
                calib := .idle
                inc := t.time.inc
                crystal := t.time.crystal } }) ∧
      (s.time.calib = .running steps measured ticks → 768 ≤ ticks →
        ∃ t, exec .calibrationNoSteps s = .next t ∧ FlagsKeptBut [] s t ∧
          t = { afterEvent s t with
            time := { (afterEvent s t).time with calib := .idle, crystal := .fault } }) ∧
      (s.time.power = .active →
        ∃ t, exec (.deviceTimeAdvance .fastTick input) s = .next t ∧
          t.time.tick = s.time.tick + 1 ∧ t.time.fraction = s.time.fraction ∧
          t.link.silence = s.link.silence.map (fun n => n - 1) ∧
          (∀ i : Fin 6,
            let x := s.lamps.chans[i]
            let target := if isGranted s (chLamp i) then x.applied * 256 else 0
            t.lamps.chans[i] =
              { x with
                output :=
                  if x.output < target then min target (x.output + 16 * s.params.fadeRate)
                  else max target (x.output - 16 * s.params.fadeRate) }) ∧
          (s.time.calib = .running steps measured ticks →
            t.time.calib = .running steps measured (ticks + 1)) ∧
          (s.time.calib = .idle → t.time.calib = .idle) ∧
          t.meter = (accumulate input.samples s).meter ∧ FlagsKeptBut [] s t ∧
          t = { afterEvent s t with
            meter := t.meter
            lamps := { s.lamps with chans := t.lamps.chans }
            time :=
              { (afterEvent s t).time with tick := t.time.tick, calib := t.time.calib }
            link := { (afterEvent s t).link with silence := t.link.silence } }) ∧
      (s.time.power = .active → s.time.calib = .running steps measured ticks → steps < 256 →
        ∃ t, exec (.deviceTimeAdvance (.slowStep fastTime) input) s = .next t ∧
          t.time.calib =
            (if steps = 0 then .running 1 0 ticks
            else .running (steps + 1) (measured + fastTime) ticks) ∧
          t.meter = (accumulate input.samples s).meter ∧ FlagsKeptBut [] s t ∧
          t = { afterEvent s t with
            meter := t.meter
            time := { (afterEvent s t).time with calib := t.time.calib } }) ∧
      (s.time.power = .dormant ∨ (s.time.power = .entering ∧ linkQuiet s = false) →
        ∃ t, exec (.deviceTimeAdvance (.slowStep fastTime) input) s = .next t ∧
          t.time.tick ++ t.time.fraction = next ∧
          t.link.silence =
            (if s.time.power = .dormant then s.link.silence
            else s.link.silence.map (fun n => n - ticksSince t.now s.now)) ∧
          t.meter = (accumulate input.samples s).meter ∧ FlagsKeptBut [] s t ∧
          t = { afterEvent s t with
            meter := t.meter
            time :=
              { (afterEvent s t).time with tick := t.time.tick, fraction := t.time.fraction }
            link := { (afterEvent s t).link with silence := t.link.silence } })

/-- The restart after the RESTART reply has been sent (R54, R70, R89, R112, R136, R185, R192, R210): queues,
schedule, modes, motions and scenes' demands go; scenes, parameters, pins, account and clock stay; the
condition flags are set exactly where their conditions hold. -/
def Obligations.TheRestartClearsAndKeeps : Prop :=
  ∀ (s : State) (order : List HandOff),
    s.link.restartPending = true → s.link.replies = [] → s.time.power ≠ .dormant →
      ∃ t, exec (.restartPerform order) s = .next t ∧
        t.link.rx = .hunt ∧ t.link.received = [] ∧ t.link.inbox = [] ∧ t.link.replies = [] ∧
        t.link.tx = .free ∧ t.link.restartPending = false ∧ t.link.hold = 0 ∧
        t.link.attended = .attended ∧
        t.link.silence =
          (if s.params.silenceTimeout = 0 then none else some (s.params.silenceTimeout * 16)) ∧
        t.link.masked = s.link.masked ∧ t.link.noticeCounter = s.link.noticeCounter ∧
        (∀ f, f.kind = .condition → flagSet t f = conditionHolds t f) ∧
        (s.heater.latch = true → flagBits t .heaterLockout = ⟨true, true⟩) ∧
        (s.tanks.pumpFault = true → flagBits t .pumpFault = ⟨true, true⟩) ∧
        (∀ i, (entryAt t i).state = .free) ∧
        t.time.power = (if s.time.power = .entering then .leaving else s.time.power) ∧
        t.time.tick = s.time.tick ∧ t.time.fraction = s.time.fraction ∧ t.time.inc = s.time.inc ∧
        t.time.calib = s.time.calib ∧ t.time.crystal = s.time.crystal ∧
        t.heater.hostMode = .off ∧ t.heater.schedMode = .off ∧
        t.heater.latch = s.heater.latch ∧ t.heater.failed = s.heater.failed ∧
        t.heater.reading = s.heater.reading ∧ t.heater.sensor = s.heater.sensor ∧
        t.lamps.scenes = s.lamps.scenes ∧ t.lamps.entryDue = none ∧
        (∀ ch : Channel, ch.val < 6 ∨ ch = chPump ∨ ch = chAux0 ∨ ch = chAux1 →
          origins t ch = { OriginSet.empty with frost := (origins s ch).frost }) ∧
        (∀ i, (slotAt t i).state = .free) ∧ t.motion.awningTail = 15 ∧
        t.motion.stepTail = Fin.ofNat 16 (s.params.ringSplit - 1) ∧
        (∀ a ∈ [Actuator.step, Actuator.awning], ∀ j : Fin 16,
          t.drive.owner = some ⟨a, .slot j⟩ → holdsStage t.drive.stage = false) ∧
        t.table.overdraw = 0 ∧ t.table.clear = 0 ∧ t.table.budget = budgetNow t ∧
        (∀ ch : Channel, t.table.recs[ch].overdrawHold = false) ∧
        t.tanks.recs = s.tanks.recs ∧ t.tanks.fresh = s.tanks.fresh ∧ t.tanks.grey = s.tanks.grey ∧
        t.meter = s.meter ∧ t.wind = s.wind ∧ t.pins = s.pins ∧ t.params = s.params ∧
        t.act.posMs = s.act.posMs ∧ t.act.stepMs = s.act.stepMs ∧ t.pending = s.pending

end
end

