-- ==== Sys2Proof/Laws/State.lean ====
section
/-! SUPPORT. One lemma for each field under each replacement of a block of the state, and the present time
under them. -/

namespace Sys2Proof.Machine

section
variable (s : State) (x : Meter)
@[simp] theorem State.setMeter_meter : (s.setMeter x).meter = x := rfl
@[simp] theorem State.setMeter_table : (s.setMeter x).table = s.table := rfl
@[simp] theorem State.setMeter_lamps : (s.setMeter x).lamps = s.lamps := rfl
@[simp] theorem State.setMeter_heater : (s.setMeter x).heater = s.heater := rfl
@[simp] theorem State.setMeter_tanks : (s.setMeter x).tanks = s.tanks := rfl
@[simp] theorem State.setMeter_drive : (s.setMeter x).drive = s.drive := rfl
@[simp] theorem State.setMeter_motion : (s.setMeter x).motion = s.motion := rfl
@[simp] theorem State.setMeter_act : (s.setMeter x).act = s.act := rfl
@[simp] theorem State.setMeter_wind : (s.setMeter x).wind = s.wind := rfl
@[simp] theorem State.setMeter_pins : (s.setMeter x).pins = s.pins := rfl
@[simp] theorem State.setMeter_time : (s.setMeter x).time = s.time := rfl
@[simp] theorem State.setMeter_link : (s.setMeter x).link = s.link := rfl
@[simp] theorem State.setMeter_params : (s.setMeter x).params = s.params := rfl
@[simp] theorem State.setMeter_pending : (s.setMeter x).pending = s.pending := rfl
@[simp] theorem State.setMeter_now : (s.setMeter x).now = s.now := rfl
@[simp] theorem State.setMeter_self : s.setMeter s.meter = s := rfl
@[simp] theorem State.setMeter_setMeter (y : Meter) :
    (s.setMeter y).setMeter x = s.setMeter x := rfl
end

section
variable (s : State) (x : LoadTable)
@[simp] theorem State.setTable_meter : (s.setTable x).meter = s.meter := rfl
@[simp] theorem State.setTable_table : (s.setTable x).table = x := rfl
@[simp] theorem State.setTable_lamps : (s.setTable x).lamps = s.lamps := rfl
@[simp] theorem State.setTable_heater : (s.setTable x).heater = s.heater := rfl
@[simp] theorem State.setTable_tanks : (s.setTable x).tanks = s.tanks := rfl
@[simp] theorem State.setTable_drive : (s.setTable x).drive = s.drive := rfl
@[simp] theorem State.setTable_motion : (s.setTable x).motion = s.motion := rfl
@[simp] theorem State.setTable_act : (s.setTable x).act = s.act := rfl
@[simp] theorem State.setTable_wind : (s.setTable x).wind = s.wind := rfl
@[simp] theorem State.setTable_pins : (s.setTable x).pins = s.pins := rfl
@[simp] theorem State.setTable_time : (s.setTable x).time = s.time := rfl
@[simp] theorem State.setTable_link : (s.setTable x).link = s.link := rfl
@[simp] theorem State.setTable_params : (s.setTable x).params = s.params := rfl
@[simp] theorem State.setTable_pending : (s.setTable x).pending = s.pending := rfl
@[simp] theorem State.setTable_now : (s.setTable x).now = s.now := rfl
@[simp] theorem State.setTable_self : s.setTable s.table = s := rfl
@[simp] theorem State.setTable_setTable (y : LoadTable) :
    (s.setTable y).setTable x = s.setTable x := rfl
end

section
variable (s : State) (x : Lamps)
@[simp] theorem State.setLamps_meter : (s.setLamps x).meter = s.meter := rfl
@[simp] theorem State.setLamps_table : (s.setLamps x).table = s.table := rfl
@[simp] theorem State.setLamps_lamps : (s.setLamps x).lamps = x := rfl
@[simp] theorem State.setLamps_heater : (s.setLamps x).heater = s.heater := rfl
@[simp] theorem State.setLamps_tanks : (s.setLamps x).tanks = s.tanks := rfl
@[simp] theorem State.setLamps_drive : (s.setLamps x).drive = s.drive := rfl
@[simp] theorem State.setLamps_motion : (s.setLamps x).motion = s.motion := rfl
@[simp] theorem State.setLamps_act : (s.setLamps x).act = s.act := rfl
@[simp] theorem State.setLamps_wind : (s.setLamps x).wind = s.wind := rfl
@[simp] theorem State.setLamps_pins : (s.setLamps x).pins = s.pins := rfl
@[simp] theorem State.setLamps_time : (s.setLamps x).time = s.time := rfl
@[simp] theorem State.setLamps_link : (s.setLamps x).link = s.link := rfl
@[simp] theorem State.setLamps_params : (s.setLamps x).params = s.params := rfl
@[simp] theorem State.setLamps_pending : (s.setLamps x).pending = s.pending := rfl
@[simp] theorem State.setLamps_now : (s.setLamps x).now = s.now := rfl
@[simp] theorem State.setLamps_self : s.setLamps s.lamps = s := rfl
@[simp] theorem State.setLamps_setLamps (y : Lamps) :
    (s.setLamps y).setLamps x = s.setLamps x := rfl
end

section
variable (s : State) (x : Heater)
@[simp] theorem State.setHeater_meter : (s.setHeater x).meter = s.meter := rfl
@[simp] theorem State.setHeater_table : (s.setHeater x).table = s.table := rfl
@[simp] theorem State.setHeater_lamps : (s.setHeater x).lamps = s.lamps := rfl
@[simp] theorem State.setHeater_heater : (s.setHeater x).heater = x := rfl
@[simp] theorem State.setHeater_tanks : (s.setHeater x).tanks = s.tanks := rfl
@[simp] theorem State.setHeater_drive : (s.setHeater x).drive = s.drive := rfl
@[simp] theorem State.setHeater_motion : (s.setHeater x).motion = s.motion := rfl
@[simp] theorem State.setHeater_act : (s.setHeater x).act = s.act := rfl
@[simp] theorem State.setHeater_wind : (s.setHeater x).wind = s.wind := rfl
@[simp] theorem State.setHeater_pins : (s.setHeater x).pins = s.pins := rfl
@[simp] theorem State.setHeater_time : (s.setHeater x).time = s.time := rfl
@[simp] theorem State.setHeater_link : (s.setHeater x).link = s.link := rfl
@[simp] theorem State.setHeater_params : (s.setHeater x).params = s.params := rfl
@[simp] theorem State.setHeater_pending : (s.setHeater x).pending = s.pending := rfl
@[simp] theorem State.setHeater_now : (s.setHeater x).now = s.now := rfl
@[simp] theorem State.setHeater_self : s.setHeater s.heater = s := rfl
@[simp] theorem State.setHeater_setHeater (y : Heater) :
    (s.setHeater y).setHeater x = s.setHeater x := rfl
end

section
variable (s : State) (x : Tanks)
@[simp] theorem State.setTanks_meter : (s.setTanks x).meter = s.meter := rfl
@[simp] theorem State.setTanks_table : (s.setTanks x).table = s.table := rfl
@[simp] theorem State.setTanks_lamps : (s.setTanks x).lamps = s.lamps := rfl
@[simp] theorem State.setTanks_heater : (s.setTanks x).heater = s.heater := rfl
@[simp] theorem State.setTanks_tanks : (s.setTanks x).tanks = x := rfl
@[simp] theorem State.setTanks_drive : (s.setTanks x).drive = s.drive := rfl
@[simp] theorem State.setTanks_motion : (s.setTanks x).motion = s.motion := rfl
@[simp] theorem State.setTanks_act : (s.setTanks x).act = s.act := rfl
@[simp] theorem State.setTanks_wind : (s.setTanks x).wind = s.wind := rfl
@[simp] theorem State.setTanks_pins : (s.setTanks x).pins = s.pins := rfl
@[simp] theorem State.setTanks_time : (s.setTanks x).time = s.time := rfl
@[simp] theorem State.setTanks_link : (s.setTanks x).link = s.link := rfl
@[simp] theorem State.setTanks_params : (s.setTanks x).params = s.params := rfl
@[simp] theorem State.setTanks_pending : (s.setTanks x).pending = s.pending := rfl
@[simp] theorem State.setTanks_now : (s.setTanks x).now = s.now := rfl
@[simp] theorem State.setTanks_self : s.setTanks s.tanks = s := rfl
@[simp] theorem State.setTanks_setTanks (y : Tanks) :
    (s.setTanks y).setTanks x = s.setTanks x := rfl
end

section
variable (s : State) (x : DriveStage)
@[simp] theorem State.setDrive_meter : (s.setDrive x).meter = s.meter := rfl
@[simp] theorem State.setDrive_table : (s.setDrive x).table = s.table := rfl
@[simp] theorem State.setDrive_lamps : (s.setDrive x).lamps = s.lamps := rfl
@[simp] theorem State.setDrive_heater : (s.setDrive x).heater = s.heater := rfl
@[simp] theorem State.setDrive_tanks : (s.setDrive x).tanks = s.tanks := rfl
@[simp] theorem State.setDrive_drive : (s.setDrive x).drive = x := rfl
@[simp] theorem State.setDrive_motion : (s.setDrive x).motion = s.motion := rfl
@[simp] theorem State.setDrive_act : (s.setDrive x).act = s.act := rfl
@[simp] theorem State.setDrive_wind : (s.setDrive x).wind = s.wind := rfl
@[simp] theorem State.setDrive_pins : (s.setDrive x).pins = s.pins := rfl
@[simp] theorem State.setDrive_time : (s.setDrive x).time = s.time := rfl
@[simp] theorem State.setDrive_link : (s.setDrive x).link = s.link := rfl
@[simp] theorem State.setDrive_params : (s.setDrive x).params = s.params := rfl
@[simp] theorem State.setDrive_pending : (s.setDrive x).pending = s.pending := rfl
@[simp] theorem State.setDrive_now : (s.setDrive x).now = s.now := rfl
@[simp] theorem State.setDrive_self : s.setDrive s.drive = s := rfl
@[simp] theorem State.setDrive_setDrive (y : DriveStage) :
    (s.setDrive y).setDrive x = s.setDrive x := rfl
end

section
variable (s : State) (x : MotionTable)
@[simp] theorem State.setMotion_meter : (s.setMotion x).meter = s.meter := rfl
@[simp] theorem State.setMotion_table : (s.setMotion x).table = s.table := rfl
@[simp] theorem State.setMotion_lamps : (s.setMotion x).lamps = s.lamps := rfl
@[simp] theorem State.setMotion_heater : (s.setMotion x).heater = s.heater := rfl
@[simp] theorem State.setMotion_tanks : (s.setMotion x).tanks = s.tanks := rfl
@[simp] theorem State.setMotion_drive : (s.setMotion x).drive = s.drive := rfl
@[simp] theorem State.setMotion_motion : (s.setMotion x).motion = x := rfl
@[simp] theorem State.setMotion_act : (s.setMotion x).act = s.act := rfl
@[simp] theorem State.setMotion_wind : (s.setMotion x).wind = s.wind := rfl
@[simp] theorem State.setMotion_pins : (s.setMotion x).pins = s.pins := rfl
@[simp] theorem State.setMotion_time : (s.setMotion x).time = s.time := rfl
@[simp] theorem State.setMotion_link : (s.setMotion x).link = s.link := rfl
@[simp] theorem State.setMotion_params : (s.setMotion x).params = s.params := rfl
@[simp] theorem State.setMotion_pending : (s.setMotion x).pending = s.pending := rfl
@[simp] theorem State.setMotion_now : (s.setMotion x).now = s.now := rfl
@[simp] theorem State.setMotion_self : s.setMotion s.motion = s := rfl
@[simp] theorem State.setMotion_setMotion (y : MotionTable) :
    (s.setMotion y).setMotion x = s.setMotion x := rfl
end

section
variable (s : State) (x : Actuators)
@[simp] theorem State.setAct_meter : (s.setAct x).meter = s.meter := rfl
@[simp] theorem State.setAct_table : (s.setAct x).table = s.table := rfl
@[simp] theorem State.setAct_lamps : (s.setAct x).lamps = s.lamps := rfl
@[simp] theorem State.setAct_heater : (s.setAct x).heater = s.heater := rfl
@[simp] theorem State.setAct_tanks : (s.setAct x).tanks = s.tanks := rfl
@[simp] theorem State.setAct_drive : (s.setAct x).drive = s.drive := rfl
@[simp] theorem State.setAct_motion : (s.setAct x).motion = s.motion := rfl
@[simp] theorem State.setAct_act : (s.setAct x).act = x := rfl
@[simp] theorem State.setAct_wind : (s.setAct x).wind = s.wind := rfl
@[simp] theorem State.setAct_pins : (s.setAct x).pins = s.pins := rfl
@[simp] theorem State.setAct_time : (s.setAct x).time = s.time := rfl
@[simp] theorem State.setAct_link : (s.setAct x).link = s.link := rfl
@[simp] theorem State.setAct_params : (s.setAct x).params = s.params := rfl
@[simp] theorem State.setAct_pending : (s.setAct x).pending = s.pending := rfl
@[simp] theorem State.setAct_now : (s.setAct x).now = s.now := rfl
@[simp] theorem State.setAct_self : s.setAct s.act = s := rfl
@[simp] theorem State.setAct_setAct (y : Actuators) :
    (s.setAct y).setAct x = s.setAct x := rfl
end

section
variable (s : State) (x : Wind)
@[simp] theorem State.setWind_meter : (s.setWind x).meter = s.meter := rfl
@[simp] theorem State.setWind_table : (s.setWind x).table = s.table := rfl
@[simp] theorem State.setWind_lamps : (s.setWind x).lamps = s.lamps := rfl
@[simp] theorem State.setWind_heater : (s.setWind x).heater = s.heater := rfl
@[simp] theorem State.setWind_tanks : (s.setWind x).tanks = s.tanks := rfl
@[simp] theorem State.setWind_drive : (s.setWind x).drive = s.drive := rfl
@[simp] theorem State.setWind_motion : (s.setWind x).motion = s.motion := rfl
@[simp] theorem State.setWind_act : (s.setWind x).act = s.act := rfl
@[simp] theorem State.setWind_wind : (s.setWind x).wind = x := rfl
@[simp] theorem State.setWind_pins : (s.setWind x).pins = s.pins := rfl
@[simp] theorem State.setWind_time : (s.setWind x).time = s.time := rfl
@[simp] theorem State.setWind_link : (s.setWind x).link = s.link := rfl
@[simp] theorem State.setWind_params : (s.setWind x).params = s.params := rfl
@[simp] theorem State.setWind_pending : (s.setWind x).pending = s.pending := rfl
@[simp] theorem State.setWind_now : (s.setWind x).now = s.now := rfl
@[simp] theorem State.setWind_self : s.setWind s.wind = s := rfl
@[simp] theorem State.setWind_setWind (y : Wind) :
    (s.setWind y).setWind x = s.setWind x := rfl
end

section
variable (s : State) (x : Vector Pin 16)
@[simp] theorem State.setPins_meter : (s.setPins x).meter = s.meter := rfl
@[simp] theorem State.setPins_table : (s.setPins x).table = s.table := rfl
@[simp] theorem State.setPins_lamps : (s.setPins x).lamps = s.lamps := rfl
@[simp] theorem State.setPins_heater : (s.setPins x).heater = s.heater := rfl
@[simp] theorem State.setPins_tanks : (s.setPins x).tanks = s.tanks := rfl
@[simp] theorem State.setPins_drive : (s.setPins x).drive = s.drive := rfl
@[simp] theorem State.setPins_motion : (s.setPins x).motion = s.motion := rfl
@[simp] theorem State.setPins_act : (s.setPins x).act = s.act := rfl
@[simp] theorem State.setPins_wind : (s.setPins x).wind = s.wind := rfl
@[simp] theorem State.setPins_pins : (s.setPins x).pins = x := rfl
@[simp] theorem State.setPins_time : (s.setPins x).time = s.time := rfl
@[simp] theorem State.setPins_link : (s.setPins x).link = s.link := rfl
@[simp] theorem State.setPins_params : (s.setPins x).params = s.params := rfl
@[simp] theorem State.setPins_pending : (s.setPins x).pending = s.pending := rfl
@[simp] theorem State.setPins_now : (s.setPins x).now = s.now := rfl
@[simp] theorem State.setPins_self : s.setPins s.pins = s := rfl
@[simp] theorem State.setPins_setPins (y : Vector Pin 16) :
    (s.setPins y).setPins x = s.setPins x := rfl
end

section
variable (s : State) (x : TimeUnit)
@[simp] theorem State.setTime_meter : (s.setTime x).meter = s.meter := rfl
@[simp] theorem State.setTime_table : (s.setTime x).table = s.table := rfl
@[simp] theorem State.setTime_lamps : (s.setTime x).lamps = s.lamps := rfl
@[simp] theorem State.setTime_heater : (s.setTime x).heater = s.heater := rfl
@[simp] theorem State.setTime_tanks : (s.setTime x).tanks = s.tanks := rfl
@[simp] theorem State.setTime_drive : (s.setTime x).drive = s.drive := rfl
@[simp] theorem State.setTime_motion : (s.setTime x).motion = s.motion := rfl
@[simp] theorem State.setTime_act : (s.setTime x).act = s.act := rfl
@[simp] theorem State.setTime_wind : (s.setTime x).wind = s.wind := rfl
@[simp] theorem State.setTime_pins : (s.setTime x).pins = s.pins := rfl
@[simp] theorem State.setTime_time : (s.setTime x).time = x := rfl
@[simp] theorem State.setTime_link : (s.setTime x).link = s.link := rfl
@[simp] theorem State.setTime_params : (s.setTime x).params = s.params := rfl
@[simp] theorem State.setTime_pending : (s.setTime x).pending = s.pending := rfl
@[simp] theorem State.setTime_now : (s.setTime x).now = x.tick := rfl
@[simp] theorem State.setTime_self : s.setTime s.time = s := rfl
@[simp] theorem State.setTime_setTime (y : TimeUnit) :
    (s.setTime y).setTime x = s.setTime x := rfl
end

section
variable (s : State) (x : Link)
@[simp] theorem State.setLink_meter : (s.setLink x).meter = s.meter := rfl
@[simp] theorem State.setLink_table : (s.setLink x).table = s.table := rfl
@[simp] theorem State.setLink_lamps : (s.setLink x).lamps = s.lamps := rfl
@[simp] theorem State.setLink_heater : (s.setLink x).heater = s.heater := rfl
@[simp] theorem State.setLink_tanks : (s.setLink x).tanks = s.tanks := rfl
@[simp] theorem State.setLink_drive : (s.setLink x).drive = s.drive := rfl
@[simp] theorem State.setLink_motion : (s.setLink x).motion = s.motion := rfl
@[simp] theorem State.setLink_act : (s.setLink x).act = s.act := rfl
@[simp] theorem State.setLink_wind : (s.setLink x).wind = s.wind := rfl
@[simp] theorem State.setLink_pins : (s.setLink x).pins = s.pins := rfl
@[simp] theorem State.setLink_time : (s.setLink x).time = s.time := rfl
@[simp] theorem State.setLink_link : (s.setLink x).link = x := rfl
@[simp] theorem State.setLink_params : (s.setLink x).params = s.params := rfl
@[simp] theorem State.setLink_pending : (s.setLink x).pending = s.pending := rfl
@[simp] theorem State.setLink_now : (s.setLink x).now = s.now := rfl
@[simp] theorem State.setLink_self : s.setLink s.link = s := rfl
@[simp] theorem State.setLink_setLink (y : Link) :
    (s.setLink y).setLink x = s.setLink x := rfl
end

section
variable (s : State) (x : Params)
@[simp] theorem State.setParams_meter : (s.setParams x).meter = s.meter := rfl
@[simp] theorem State.setParams_table : (s.setParams x).table = s.table := rfl
@[simp] theorem State.setParams_lamps : (s.setParams x).lamps = s.lamps := rfl
@[simp] theorem State.setParams_heater : (s.setParams x).heater = s.heater := rfl
@[simp] theorem State.setParams_tanks : (s.setParams x).tanks = s.tanks := rfl
@[simp] theorem State.setParams_drive : (s.setParams x).drive = s.drive := rfl
@[simp] theorem State.setParams_motion : (s.setParams x).motion = s.motion := rfl
@[simp] theorem State.setParams_act : (s.setParams x).act = s.act := rfl
@[simp] theorem State.setParams_wind : (s.setParams x).wind = s.wind := rfl
@[simp] theorem State.setParams_pins : (s.setParams x).pins = s.pins := rfl
@[simp] theorem State.setParams_time : (s.setParams x).time = s.time := rfl
@[simp] theorem State.setParams_link : (s.setParams x).link = s.link := rfl
@[simp] theorem State.setParams_params : (s.setParams x).params = x := rfl
@[simp] theorem State.setParams_pending : (s.setParams x).pending = s.pending := rfl
@[simp] theorem State.setParams_now : (s.setParams x).now = s.now := rfl
@[simp] theorem State.setParams_self : s.setParams s.params = s := rfl
@[simp] theorem State.setParams_setParams (y : Params) :
    (s.setParams y).setParams x = s.setParams x := rfl
end

section
variable (s : State) (x : List Instr)
@[simp] theorem State.setPending_meter : (s.setPending x).meter = s.meter := rfl
@[simp] theorem State.setPending_table : (s.setPending x).table = s.table := rfl
@[simp] theorem State.setPending_lamps : (s.setPending x).lamps = s.lamps := rfl
@[simp] theorem State.setPending_heater : (s.setPending x).heater = s.heater := rfl
@[simp] theorem State.setPending_tanks : (s.setPending x).tanks = s.tanks := rfl
@[simp] theorem State.setPending_drive : (s.setPending x).drive = s.drive := rfl
@[simp] theorem State.setPending_motion : (s.setPending x).motion = s.motion := rfl
@[simp] theorem State.setPending_act : (s.setPending x).act = s.act := rfl
@[simp] theorem State.setPending_wind : (s.setPending x).wind = s.wind := rfl
@[simp] theorem State.setPending_pins : (s.setPending x).pins = s.pins := rfl
@[simp] theorem State.setPending_time : (s.setPending x).time = s.time := rfl
@[simp] theorem State.setPending_link : (s.setPending x).link = s.link := rfl
@[simp] theorem State.setPending_params : (s.setPending x).params = s.params := rfl
@[simp] theorem State.setPending_pending : (s.setPending x).pending = x := rfl
@[simp] theorem State.setPending_now : (s.setPending x).now = s.now := rfl
@[simp] theorem State.setPending_self : s.setPending s.pending = s := rfl
@[simp] theorem State.setPending_setPending (y : List Instr) :
    (s.setPending y).setPending x = s.setPending x := rfl
end

end Sys2Proof.Machine
end

