-- ==== Sys2Proof/Laws/Basics.lean ====
section
/-! SUPPORT. The lemmas of the shared small definitions: fixed-length vectors, folds, hand-offs taken in
order, and what a fold or a hand-off list keeps. -/

namespace Sys2Proof.Machine

/-! ## Vectors -/

@[simp] theorem vput_getElem {α : Type} {n : Nat} (v : Vector α n) (i : Fin n) (x : α) (j : Nat)
    (h : j < n) : (vput v i x)[j] = if i.val = j then x else v[j] := by
  simp [vput, Vector.getElem_set]

theorem vput_get {α : Type} {n : Nat} (v : Vector α n) (i j : Fin n) (x : α) :
    (vput v i x)[j] = if i = j then x else v[j] := by
  simp [Fin.ext_iff]

@[simp] theorem vmap_getElem {α β : Type} {n : Nat} (f : Fin n → α → β) (v : Vector α n) (j : Nat)
    (h : j < n) : (vmap f v)[j] = f ⟨j, h⟩ v[j] := by
  simp [vmap]

@[simp] theorem mem_vlist {α : Type} {n : Nat} (v : Vector α n) (x : α) :
    x ∈ vlist v ↔ ∃ i : Fin n, v[i] = x := by
  simp [vlist]

/-! ## Folds and hand-offs -/

/-- A property that every application keeps is kept by the fold. -/
theorem foldl_keeps {α σ : Type} (P : σ → Prop) (f : σ → α → σ) (l : List α) (s : σ) (h0 : P s)
    (h : ∀ t a, P t → P (f t a)) : P (l.foldl f s) := by
  induction l generalizing s with
  | nil => exact h0
  | cons a l ih => exact ih _ (h s a h0)

/-- What holds of both branches holds of the choice. -/
theorem ite_keeps {σ : Type} (P : σ → Prop) (c : Prop) [Decidable c] (a b : σ) (ha : P a)
    (hb : P b) : P (if c then a else b) := by
  split <;> assumption

/-- A property that every hand-off of the list keeps is kept whatever the order (log 3). -/
theorem inOrder_keeps (P : State → Prop) (order : List HandOff)
    (acts : List (HandOff × (State → State))) (s : State) (h0 : P s)
    (h : ∀ a ∈ acts, ∀ t, P t → P (a.2 t)) : P (inOrder order acts s) := by
  induction order generalizing acts s with
  | nil =>
    unfold inOrder
    induction acts generalizing s with
    | nil => exact h0
    | cons a acts ih =>
      exact ih _ (h a (by simp) s h0) (fun b hb => h b (by simp [hb]))
  | cons k rest ih =>
    unfold inOrder
    split
    · next a ha =>
      refine ih _ _ (h a (List.mem_of_find?_eq_some ha) s h0) ?_
      intro b hb
      exact h b (List.mem_of_mem_filter hb)
    · exact ih _ _ h0 h

/-- Without an order of its own, a command takes its hand-offs in the order of the rule. -/
@[simp] theorem inOrder_nil (acts : List (HandOff × (State → State))) (s : State) :
    inOrder [] acts s = acts.foldl (fun t a => a.2 t) s := rfl

end Sys2Proof.Machine
end

