-- ==== Sys2Proof/Laws/Frames.lean ====
section
/-! SUPPORT. What an operation leaves unchanged, as relations between the state before and after:
`OnlyX s t` says that the fields named by X are all that can differ. -/

namespace Sys2Proof.Machine

/-- All but: heater.cabinDue, pins, tanks.senderDue, tanks.tempDue, time.power. -/
abbrev OnlyWake (s t : State) : Prop :=
    t.meter = s.meter ∧ t.table = s.table ∧ t.lamps = s.lamps ∧
    t.heater.state = s.heater.state ∧ t.heater.hostMode = s.heater.hostMode ∧
    t.heater.schedMode = s.heater.schedMode ∧ t.heater.frostOrigin = s.heater.frostOrigin ∧
    t.heater.ceiling = s.heater.ceiling ∧ t.heater.effective = s.heater.effective ∧
    t.heater.reading = s.heater.reading ∧ t.heater.sensor = s.heater.sensor ∧
    t.heater.thermostat = s.heater.thermostat ∧ t.heater.demand = s.heater.demand ∧
    t.heater.failed = s.heater.failed ∧ t.heater.latch = s.heater.latch ∧
    t.heater.glowDue = s.heater.glowDue ∧ t.heater.purgeDue = s.heater.purgeDue ∧
    t.tanks.recs = s.tanks.recs ∧ t.tanks.fresh = s.tanks.fresh ∧
    t.tanks.grey = s.tanks.grey ∧ t.tanks.pumpDue = s.tanks.pumpDue ∧
    t.tanks.pumpFault = s.tanks.pumpFault ∧ t.drive = s.drive ∧ t.motion = s.motion ∧
    t.act = s.act ∧ t.wind = s.wind ∧ t.time.tick = s.time.tick ∧
    t.time.fraction = s.time.fraction ∧ t.time.inc = s.time.inc ∧
    t.time.calib = s.time.calib ∧ t.time.crystal = s.time.crystal ∧
    t.time.idleDue = s.time.idleDue ∧ t.time.schedule = s.time.schedule ∧ t.link = s.link ∧
    t.params = s.params ∧ t.pending = s.pending

/-- All but: act.homing, drive.direction, drive.phaseTimer, drive.stage, heater.glowDue,
heater.purgeDue, heater.state, lamps.chans, link.flags, table.granted, table.recs, table.waiting,
tanks.pumpDue. -/
abbrev OnlyLoads (s t : State) : Prop :=
    t.meter = s.meter ∧ t.table.budget = s.table.budget ∧ t.table.band = s.table.band ∧
    t.table.overdraw = s.table.overdraw ∧ t.table.clear = s.table.clear ∧
    t.lamps.scenes = s.lamps.scenes ∧ t.lamps.entryDue = s.lamps.entryDue ∧
    t.heater.hostMode = s.heater.hostMode ∧ t.heater.schedMode = s.heater.schedMode ∧
    t.heater.frostOrigin = s.heater.frostOrigin ∧ t.heater.ceiling = s.heater.ceiling ∧
    t.heater.effective = s.heater.effective ∧ t.heater.reading = s.heater.reading ∧
    t.heater.sensor = s.heater.sensor ∧ t.heater.thermostat = s.heater.thermostat ∧
    t.heater.demand = s.heater.demand ∧ t.heater.failed = s.heater.failed ∧
    t.heater.latch = s.heater.latch ∧ t.heater.cabinDue = s.heater.cabinDue ∧
    t.tanks.recs = s.tanks.recs ∧ t.tanks.fresh = s.tanks.fresh ∧ t.tanks.grey = s.tanks.grey ∧
    t.tanks.senderDue = s.tanks.senderDue ∧ t.tanks.tempDue = s.tanks.tempDue ∧
    t.tanks.pumpFault = s.tanks.pumpFault ∧ t.drive.owner = s.drive.owner ∧
    t.drive.gap = s.drive.gap ∧ t.drive.lastActuator = s.drive.lastActuator ∧
    t.drive.lastServed = s.drive.lastServed ∧ t.drive.stallCount = s.drive.stallCount ∧
    t.drive.legTime = s.drive.legTime ∧ t.drive.blank = s.drive.blank ∧
    t.drive.stallDue = s.drive.stallDue ∧ t.drive.braked = s.drive.braked ∧ t.motion = s.motion ∧
    t.act.posMs = s.act.posMs ∧ t.act.stepMs = s.act.stepMs ∧ t.wind = s.wind ∧ t.pins = s.pins ∧
    t.time = s.time ∧ t.link.rx = s.link.rx ∧ t.link.received = s.link.received ∧
    t.link.expected = s.link.expected ∧ t.link.inbox = s.link.inbox ∧
    t.link.replies = s.link.replies ∧ t.link.tx = s.link.tx ∧
    t.link.restartPending = s.link.restartPending ∧ t.link.masked = s.link.masked ∧
    t.link.hold = s.link.hold ∧ t.link.noticeCounter = s.link.noticeCounter ∧
    t.link.attended = s.link.attended ∧ t.link.silence = s.link.silence ∧ t.params = s.params ∧
    t.pending = s.pending

/-- All but: act.homing, drive.direction, drive.phaseTimer, drive.stage, heater.ceiling,
heater.demand, heater.effective, heater.glowDue, heater.purgeDue, heater.state, heater.thermostat,
lamps.chans, link.flags, table.granted, table.recs, table.waiting, tanks.pumpDue. -/
abbrev OnlyHeat (s t : State) : Prop :=
    t.meter = s.meter ∧ t.table.budget = s.table.budget ∧ t.table.band = s.table.band ∧
    t.table.overdraw = s.table.overdraw ∧ t.table.clear = s.table.clear ∧
    t.lamps.scenes = s.lamps.scenes ∧ t.lamps.entryDue = s.lamps.entryDue ∧
    t.heater.hostMode = s.heater.hostMode ∧ t.heater.schedMode = s.heater.schedMode ∧
    t.heater.frostOrigin = s.heater.frostOrigin ∧ t.heater.reading = s.heater.reading ∧
    t.heater.sensor = s.heater.sensor ∧ t.heater.failed = s.heater.failed ∧
    t.heater.latch = s.heater.latch ∧ t.heater.cabinDue = s.heater.cabinDue ∧
    t.tanks.recs = s.tanks.recs ∧ t.tanks.fresh = s.tanks.fresh ∧ t.tanks.grey = s.tanks.grey ∧
    t.tanks.senderDue = s.tanks.senderDue ∧ t.tanks.tempDue = s.tanks.tempDue ∧
    t.tanks.pumpFault = s.tanks.pumpFault ∧ t.drive.owner = s.drive.owner ∧
    t.drive.gap = s.drive.gap ∧ t.drive.lastActuator = s.drive.lastActuator ∧
    t.drive.lastServed = s.drive.lastServed ∧ t.drive.stallCount = s.drive.stallCount ∧
    t.drive.legTime = s.drive.legTime ∧ t.drive.blank = s.drive.blank ∧
    t.drive.stallDue = s.drive.stallDue ∧ t.drive.braked = s.drive.braked ∧ t.motion = s.motion ∧
    t.act.posMs = s.act.posMs ∧ t.act.stepMs = s.act.stepMs ∧ t.wind = s.wind ∧ t.pins = s.pins ∧
    t.time = s.time ∧ t.link.rx = s.link.rx ∧ t.link.received = s.link.received ∧
    t.link.expected = s.link.expected ∧ t.link.inbox = s.link.inbox ∧
    t.link.replies = s.link.replies ∧ t.link.tx = s.link.tx ∧
    t.link.restartPending = s.link.restartPending ∧ t.link.masked = s.link.masked ∧
    t.link.hold = s.link.hold ∧ t.link.noticeCounter = s.link.noticeCounter ∧
    t.link.attended = s.link.attended ∧ t.link.silence = s.link.silence ∧ t.params = s.params ∧
    t.pending = s.pending

/-- All but: act.homing, drive.direction, drive.phaseTimer, drive.stage, heater.ceiling,
heater.demand, heater.effective, heater.frostOrigin, heater.glowDue, heater.purgeDue, heater.state,
heater.thermostat, lamps.chans, link.flags, table.granted, table.recs, table.waiting,
tanks.pumpDue. -/
abbrev OnlyHeatFrost (s t : State) : Prop :=
    t.meter = s.meter ∧ t.table.budget = s.table.budget ∧ t.table.band = s.table.band ∧
    t.table.overdraw = s.table.overdraw ∧ t.table.clear = s.table.clear ∧
    t.lamps.scenes = s.lamps.scenes ∧ t.lamps.entryDue = s.lamps.entryDue ∧
    t.heater.hostMode = s.heater.hostMode ∧ t.heater.schedMode = s.heater.schedMode ∧
    t.heater.reading = s.heater.reading ∧ t.heater.sensor = s.heater.sensor ∧
    t.heater.failed = s.heater.failed ∧ t.heater.latch = s.heater.latch ∧
    t.heater.cabinDue = s.heater.cabinDue ∧ t.tanks.recs = s.tanks.recs ∧
    t.tanks.fresh = s.tanks.fresh ∧ t.tanks.grey = s.tanks.grey ∧
    t.tanks.senderDue = s.tanks.senderDue ∧ t.tanks.tempDue = s.tanks.tempDue ∧
    t.tanks.pumpFault = s.tanks.pumpFault ∧ t.drive.owner = s.drive.owner ∧
    t.drive.gap = s.drive.gap ∧ t.drive.lastActuator = s.drive.lastActuator ∧
    t.drive.lastServed = s.drive.lastServed ∧ t.drive.stallCount = s.drive.stallCount ∧
    t.drive.legTime = s.drive.legTime ∧ t.drive.blank = s.drive.blank ∧
    t.drive.stallDue = s.drive.stallDue ∧ t.drive.braked = s.drive.braked ∧ t.motion = s.motion ∧
    t.act.posMs = s.act.posMs ∧ t.act.stepMs = s.act.stepMs ∧ t.wind = s.wind ∧ t.pins = s.pins ∧
    t.time = s.time ∧ t.link.rx = s.link.rx ∧ t.link.received = s.link.received ∧
    t.link.expected = s.link.expected ∧ t.link.inbox = s.link.inbox ∧
    t.link.replies = s.link.replies ∧ t.link.tx = s.link.tx ∧
    t.link.restartPending = s.link.restartPending ∧ t.link.masked = s.link.masked ∧
    t.link.hold = s.link.hold ∧ t.link.noticeCounter = s.link.noticeCounter ∧
    t.link.attended = s.link.attended ∧ t.link.silence = s.link.silence ∧ t.params = s.params ∧
    t.pending = s.pending

/-- All but: act.homing, drive.braked, drive.direction, drive.lastServed, drive.owner,
drive.phaseTimer, drive.stage, heater.glowDue, heater.purgeDue, heater.state, lamps.chans,
link.flags, motion.awningOverride, motion.slots, motion.stepOverride, table.granted, table.recs,
table.waiting, tanks.pumpDue. -/
abbrev OnlyArbiter (s t : State) : Prop :=
    t.meter = s.meter ∧ t.table.budget = s.table.budget ∧ t.table.band = s.table.band ∧
    t.table.overdraw = s.table.overdraw ∧ t.table.clear = s.table.clear ∧
    t.lamps.scenes = s.lamps.scenes ∧ t.lamps.entryDue = s.lamps.entryDue ∧
    t.heater.hostMode = s.heater.hostMode ∧ t.heater.schedMode = s.heater.schedMode ∧
    t.heater.frostOrigin = s.heater.frostOrigin ∧ t.heater.ceiling = s.heater.ceiling ∧
    t.heater.effective = s.heater.effective ∧ t.heater.reading = s.heater.reading ∧
    t.heater.sensor = s.heater.sensor ∧ t.heater.thermostat = s.heater.thermostat ∧
    t.heater.demand = s.heater.demand ∧ t.heater.failed = s.heater.failed ∧
    t.heater.latch = s.heater.latch ∧ t.heater.cabinDue = s.heater.cabinDue ∧
    t.tanks.recs = s.tanks.recs ∧ t.tanks.fresh = s.tanks.fresh ∧ t.tanks.grey = s.tanks.grey ∧
    t.tanks.senderDue = s.tanks.senderDue ∧ t.tanks.tempDue = s.tanks.tempDue ∧
    t.tanks.pumpFault = s.tanks.pumpFault ∧ t.drive.gap = s.drive.gap ∧
    t.drive.lastActuator = s.drive.lastActuator ∧ t.drive.stallCount = s.drive.stallCount ∧
    t.drive.legTime = s.drive.legTime ∧ t.drive.blank = s.drive.blank ∧
    t.drive.stallDue = s.drive.stallDue ∧ t.motion.stepTail = s.motion.stepTail ∧
    t.motion.awningTail = s.motion.awningTail ∧ t.act.posMs = s.act.posMs ∧
    t.act.stepMs = s.act.stepMs ∧ t.wind = s.wind ∧ t.pins = s.pins ∧ t.time = s.time ∧
    t.link.rx = s.link.rx ∧ t.link.received = s.link.received ∧ t.link.expected = s.link.expected ∧
    t.link.inbox = s.link.inbox ∧ t.link.replies = s.link.replies ∧ t.link.tx = s.link.tx ∧
    t.link.restartPending = s.link.restartPending ∧ t.link.masked = s.link.masked ∧
    t.link.hold = s.link.hold ∧ t.link.noticeCounter = s.link.noticeCounter ∧
    t.link.attended = s.link.attended ∧ t.link.silence = s.link.silence ∧ t.params = s.params ∧
    t.pending = s.pending

/-- All but: act.homing, drive.braked, drive.direction, drive.lastServed, drive.owner,
drive.phaseTimer, drive.stage, heater.cabinDue, heater.glowDue, heater.purgeDue, heater.state,
lamps.chans, link.flags, motion.awningOverride, motion.slots, motion.stepOverride, pins,
table.granted, table.recs, table.waiting, tanks.pumpDue, tanks.senderDue, tanks.tempDue,
time.power. -/
abbrev OnlyArbiterWake (s t : State) : Prop :=
    t.meter = s.meter ∧ t.table.budget = s.table.budget ∧ t.table.band = s.table.band ∧
    t.table.overdraw = s.table.overdraw ∧ t.table.clear = s.table.clear ∧
    t.lamps.scenes = s.lamps.scenes ∧ t.lamps.entryDue = s.lamps.entryDue ∧
    t.heater.hostMode = s.heater.hostMode ∧ t.heater.schedMode = s.heater.schedMode ∧
    t.heater.frostOrigin = s.heater.frostOrigin ∧ t.heater.ceiling = s.heater.ceiling ∧
    t.heater.effective = s.heater.effective ∧ t.heater.reading = s.heater.reading ∧
    t.heater.sensor = s.heater.sensor ∧ t.heater.thermostat = s.heater.thermostat ∧
    t.heater.demand = s.heater.demand ∧ t.heater.failed = s.heater.failed ∧
    t.heater.latch = s.heater.latch ∧ t.tanks.recs = s.tanks.recs ∧ t.tanks.fresh = s.tanks.fresh ∧
    t.tanks.grey = s.tanks.grey ∧ t.tanks.pumpFault = s.tanks.pumpFault ∧
    t.drive.gap = s.drive.gap ∧ t.drive.lastActuator = s.drive.lastActuator ∧
    t.drive.stallCount = s.drive.stallCount ∧ t.drive.legTime = s.drive.legTime ∧
    t.drive.blank = s.drive.blank ∧ t.drive.stallDue = s.drive.stallDue ∧
    t.motion.stepTail = s.motion.stepTail ∧ t.motion.awningTail = s.motion.awningTail ∧
    t.act.posMs = s.act.posMs ∧ t.act.stepMs = s.act.stepMs ∧ t.wind = s.wind ∧
    t.time.tick = s.time.tick ∧ t.time.fraction = s.time.fraction ∧ t.time.inc = s.time.inc ∧
    t.time.calib = s.time.calib ∧ t.time.crystal = s.time.crystal ∧
    t.time.idleDue = s.time.idleDue ∧ t.time.schedule = s.time.schedule ∧ t.link.rx = s.link.rx ∧
    t.link.received = s.link.received ∧ t.link.expected = s.link.expected ∧
    t.link.inbox = s.link.inbox ∧ t.link.replies = s.link.replies ∧ t.link.tx = s.link.tx ∧
    t.link.restartPending = s.link.restartPending ∧ t.link.masked = s.link.masked ∧
    t.link.hold = s.link.hold ∧ t.link.noticeCounter = s.link.noticeCounter ∧
    t.link.attended = s.link.attended ∧ t.link.silence = s.link.silence ∧ t.params = s.params ∧
    t.pending = s.pending

/-- All but: act.homing, drive.braked, drive.direction, drive.lastServed, drive.owner,
drive.phaseTimer, drive.stage, heater.cabinDue, heater.glowDue, heater.purgeDue, heater.state,
lamps.chans, link.flags, motion, pins, table.granted, table.recs, table.waiting, tanks.pumpDue,
tanks.senderDue, tanks.tempDue, time.power. -/
abbrev OnlyPost (s t : State) : Prop :=
    t.meter = s.meter ∧ t.table.budget = s.table.budget ∧ t.table.band = s.table.band ∧
    t.table.overdraw = s.table.overdraw ∧ t.table.clear = s.table.clear ∧
    t.lamps.scenes = s.lamps.scenes ∧ t.lamps.entryDue = s.lamps.entryDue ∧
    t.heater.hostMode = s.heater.hostMode ∧ t.heater.schedMode = s.heater.schedMode ∧
    t.heater.frostOrigin = s.heater.frostOrigin ∧ t.heater.ceiling = s.heater.ceiling ∧
    t.heater.effective = s.heater.effective ∧ t.heater.reading = s.heater.reading ∧
    t.heater.sensor = s.heater.sensor ∧ t.heater.thermostat = s.heater.thermostat ∧
    t.heater.demand = s.heater.demand ∧ t.heater.failed = s.heater.failed ∧
    t.heater.latch = s.heater.latch ∧ t.tanks.recs = s.tanks.recs ∧ t.tanks.fresh = s.tanks.fresh ∧
    t.tanks.grey = s.tanks.grey ∧ t.tanks.pumpFault = s.tanks.pumpFault ∧
    t.drive.gap = s.drive.gap ∧ t.drive.lastActuator = s.drive.lastActuator ∧
    t.drive.stallCount = s.drive.stallCount ∧ t.drive.legTime = s.drive.legTime ∧
    t.drive.blank = s.drive.blank ∧ t.drive.stallDue = s.drive.stallDue ∧
    t.act.posMs = s.act.posMs ∧ t.act.stepMs = s.act.stepMs ∧ t.wind = s.wind ∧
    t.time.tick = s.time.tick ∧ t.time.fraction = s.time.fraction ∧ t.time.inc = s.time.inc ∧
    t.time.calib = s.time.calib ∧ t.time.crystal = s.time.crystal ∧
    t.time.idleDue = s.time.idleDue ∧ t.time.schedule = s.time.schedule ∧ t.link.rx = s.link.rx ∧
    t.link.received = s.link.received ∧ t.link.expected = s.link.expected ∧
    t.link.inbox = s.link.inbox ∧ t.link.replies = s.link.replies ∧ t.link.tx = s.link.tx ∧
    t.link.restartPending = s.link.restartPending ∧ t.link.masked = s.link.masked ∧
    t.link.hold = s.link.hold ∧ t.link.noticeCounter = s.link.noticeCounter ∧
    t.link.attended = s.link.attended ∧ t.link.silence = s.link.silence ∧ t.params = s.params ∧
    t.pending = s.pending

/-- All but: act.homing, drive.braked, drive.direction, drive.phaseTimer, drive.stage,
heater.cabinDue, heater.ceiling, heater.demand, heater.effective, heater.glowDue, heater.purgeDue,
heater.state, heater.thermostat, lamps.chans, link.flags, meter, pins, table, tanks.pumpDue,
tanks.senderDue, tanks.tempDue, time.power. -/
abbrev OnlyInterval (s t : State) : Prop :=
    t.lamps.scenes = s.lamps.scenes ∧ t.lamps.entryDue = s.lamps.entryDue ∧
    t.heater.hostMode = s.heater.hostMode ∧ t.heater.schedMode = s.heater.schedMode ∧
    t.heater.frostOrigin = s.heater.frostOrigin ∧ t.heater.reading = s.heater.reading ∧
    t.heater.sensor = s.heater.sensor ∧ t.heater.failed = s.heater.failed ∧
    t.heater.latch = s.heater.latch ∧ t.tanks.recs = s.tanks.recs ∧ t.tanks.fresh = s.tanks.fresh ∧
    t.tanks.grey = s.tanks.grey ∧ t.tanks.pumpFault = s.tanks.pumpFault ∧
    t.drive.owner = s.drive.owner ∧ t.drive.gap = s.drive.gap ∧
    t.drive.lastActuator = s.drive.lastActuator ∧ t.drive.lastServed = s.drive.lastServed ∧
    t.drive.stallCount = s.drive.stallCount ∧ t.drive.legTime = s.drive.legTime ∧
    t.drive.blank = s.drive.blank ∧ t.drive.stallDue = s.drive.stallDue ∧ t.motion = s.motion ∧
    t.act.posMs = s.act.posMs ∧ t.act.stepMs = s.act.stepMs ∧ t.wind = s.wind ∧
    t.time.tick = s.time.tick ∧ t.time.fraction = s.time.fraction ∧ t.time.inc = s.time.inc ∧
    t.time.calib = s.time.calib ∧ t.time.crystal = s.time.crystal ∧
    t.time.idleDue = s.time.idleDue ∧ t.time.schedule = s.time.schedule ∧ t.link.rx = s.link.rx ∧
    t.link.received = s.link.received ∧ t.link.expected = s.link.expected ∧
    t.link.inbox = s.link.inbox ∧ t.link.replies = s.link.replies ∧ t.link.tx = s.link.tx ∧
    t.link.restartPending = s.link.restartPending ∧ t.link.masked = s.link.masked ∧
    t.link.hold = s.link.hold ∧ t.link.noticeCounter = s.link.noticeCounter ∧
    t.link.attended = s.link.attended ∧ t.link.silence = s.link.silence ∧ t.params = s.params ∧
    t.pending = s.pending

/-- All but: act.homing, drive.braked, drive.direction, drive.phaseTimer, drive.stage,
heater.cabinDue, heater.ceiling, heater.demand, heater.effective, heater.glowDue, heater.purgeDue,
heater.state, heater.thermostat, lamps.chans, link.expected, link.flags, link.received, link.rx,
meter, pins, table, tanks.pumpDue, tanks.senderDue, tanks.tempDue, time.power. -/
abbrev OnlyBecomeDormant (s t : State) : Prop :=
    t.lamps.scenes = s.lamps.scenes ∧ t.lamps.entryDue = s.lamps.entryDue ∧
    t.heater.hostMode = s.heater.hostMode ∧ t.heater.schedMode = s.heater.schedMode ∧
    t.heater.frostOrigin = s.heater.frostOrigin ∧ t.heater.reading = s.heater.reading ∧
    t.heater.sensor = s.heater.sensor ∧ t.heater.failed = s.heater.failed ∧
    t.heater.latch = s.heater.latch ∧ t.tanks.recs = s.tanks.recs ∧ t.tanks.fresh = s.tanks.fresh ∧
    t.tanks.grey = s.tanks.grey ∧ t.tanks.pumpFault = s.tanks.pumpFault ∧
    t.drive.owner = s.drive.owner ∧ t.drive.gap = s.drive.gap ∧
    t.drive.lastActuator = s.drive.lastActuator ∧ t.drive.lastServed = s.drive.lastServed ∧
    t.drive.stallCount = s.drive.stallCount ∧ t.drive.legTime = s.drive.legTime ∧
    t.drive.blank = s.drive.blank ∧ t.drive.stallDue = s.drive.stallDue ∧ t.motion = s.motion ∧
    t.act.posMs = s.act.posMs ∧ t.act.stepMs = s.act.stepMs ∧ t.wind = s.wind ∧
    t.time.tick = s.time.tick ∧ t.time.fraction = s.time.fraction ∧ t.time.inc = s.time.inc ∧
    t.time.calib = s.time.calib ∧ t.time.crystal = s.time.crystal ∧
    t.time.idleDue = s.time.idleDue ∧ t.time.schedule = s.time.schedule ∧
    t.link.inbox = s.link.inbox ∧ t.link.replies = s.link.replies ∧ t.link.tx = s.link.tx ∧
    t.link.restartPending = s.link.restartPending ∧ t.link.masked = s.link.masked ∧
    t.link.hold = s.link.hold ∧ t.link.noticeCounter = s.link.noticeCounter ∧
    t.link.attended = s.link.attended ∧ t.link.silence = s.link.silence ∧ t.params = s.params ∧
    t.pending = s.pending

/-- All but: act.homing, drive.direction, drive.phaseTimer, drive.stage, heater.cabinDue,
heater.ceiling, heater.demand, heater.effective, heater.frostOrigin, heater.glowDue,
heater.purgeDue, heater.state, heater.thermostat, lamps.chans, link.flags, pins, table.granted,
table.recs, table.waiting, tanks.fresh, tanks.grey, tanks.pumpDue, tanks.senderDue, tanks.tempDue,
time.power. -/
abbrev OnlyFrost (s t : State) : Prop :=
    t.meter = s.meter ∧ t.table.budget = s.table.budget ∧ t.table.band = s.table.band ∧
    t.table.overdraw = s.table.overdraw ∧ t.table.clear = s.table.clear ∧
    t.lamps.scenes = s.lamps.scenes ∧ t.lamps.entryDue = s.lamps.entryDue ∧
    t.heater.hostMode = s.heater.hostMode ∧ t.heater.schedMode = s.heater.schedMode ∧
    t.heater.reading = s.heater.reading ∧ t.heater.sensor = s.heater.sensor ∧
    t.heater.failed = s.heater.failed ∧ t.heater.latch = s.heater.latch ∧
    t.tanks.recs = s.tanks.recs ∧ t.tanks.pumpFault = s.tanks.pumpFault ∧
    t.drive.owner = s.drive.owner ∧ t.drive.gap = s.drive.gap ∧
    t.drive.lastActuator = s.drive.lastActuator ∧ t.drive.lastServed = s.drive.lastServed ∧
    t.drive.stallCount = s.drive.stallCount ∧ t.drive.legTime = s.drive.legTime ∧
    t.drive.blank = s.drive.blank ∧ t.drive.stallDue = s.drive.stallDue ∧
    t.drive.braked = s.drive.braked ∧ t.motion = s.motion ∧ t.act.posMs = s.act.posMs ∧
    t.act.stepMs = s.act.stepMs ∧ t.wind = s.wind ∧ t.time.tick = s.time.tick ∧
    t.time.fraction = s.time.fraction ∧ t.time.inc = s.time.inc ∧ t.time.calib = s.time.calib ∧
    t.time.crystal = s.time.crystal ∧ t.time.idleDue = s.time.idleDue ∧
    t.time.schedule = s.time.schedule ∧ t.link.rx = s.link.rx ∧ t.link.received = s.link.received ∧
    t.link.expected = s.link.expected ∧ t.link.inbox = s.link.inbox ∧
    t.link.replies = s.link.replies ∧ t.link.tx = s.link.tx ∧
    t.link.restartPending = s.link.restartPending ∧ t.link.masked = s.link.masked ∧
    t.link.hold = s.link.hold ∧ t.link.noticeCounter = s.link.noticeCounter ∧
    t.link.attended = s.link.attended ∧ t.link.silence = s.link.silence ∧ t.params = s.params ∧
    t.pending = s.pending

/-- All but: act, drive.braked, drive.direction, drive.lastServed, drive.owner, drive.phaseTimer,
drive.stage, heater.cabinDue, heater.failed, heater.glowDue, heater.latch, heater.purgeDue,
heater.state, lamps.chans, lamps.entryDue, link.flags, motion, pins, table.budget, table.granted,
table.recs, table.waiting, tanks.pumpDue, tanks.recs, tanks.senderDue, tanks.tempDue, time.power,
wind. -/
abbrev OnlyEdge (s t : State) : Prop :=
    t.meter = s.meter ∧ t.table.band = s.table.band ∧ t.table.overdraw = s.table.overdraw ∧
    t.table.clear = s.table.clear ∧ t.lamps.scenes = s.lamps.scenes ∧
    t.heater.hostMode = s.heater.hostMode ∧ t.heater.schedMode = s.heater.schedMode ∧
    t.heater.frostOrigin = s.heater.frostOrigin ∧ t.heater.ceiling = s.heater.ceiling ∧
    t.heater.effective = s.heater.effective ∧ t.heater.reading = s.heater.reading ∧
    t.heater.sensor = s.heater.sensor ∧ t.heater.thermostat = s.heater.thermostat ∧
    t.heater.demand = s.heater.demand ∧ t.tanks.fresh = s.tanks.fresh ∧
    t.tanks.grey = s.tanks.grey ∧ t.tanks.pumpFault = s.tanks.pumpFault ∧
    t.drive.gap = s.drive.gap ∧ t.drive.lastActuator = s.drive.lastActuator ∧
    t.drive.stallCount = s.drive.stallCount ∧ t.drive.legTime = s.drive.legTime ∧
    t.drive.blank = s.drive.blank ∧ t.drive.stallDue = s.drive.stallDue ∧
    t.time.tick = s.time.tick ∧ t.time.fraction = s.time.fraction ∧ t.time.inc = s.time.inc ∧
    t.time.calib = s.time.calib ∧ t.time.crystal = s.time.crystal ∧
    t.time.idleDue = s.time.idleDue ∧ t.time.schedule = s.time.schedule ∧ t.link.rx = s.link.rx ∧
    t.link.received = s.link.received ∧ t.link.expected = s.link.expected ∧
    t.link.inbox = s.link.inbox ∧ t.link.replies = s.link.replies ∧ t.link.tx = s.link.tx ∧
    t.link.restartPending = s.link.restartPending ∧ t.link.masked = s.link.masked ∧
    t.link.hold = s.link.hold ∧ t.link.noticeCounter = s.link.noticeCounter ∧
    t.link.attended = s.link.attended ∧ t.link.silence = s.link.silence ∧ t.params = s.params ∧
    t.pending = s.pending

/-- All but: act, drive.braked, drive.direction, drive.lastServed, drive.owner, drive.phaseTimer,
drive.stage, heater.cabinDue, heater.failed, heater.glowDue, heater.latch, heater.purgeDue,
heater.state, lamps.chans, lamps.entryDue, link.flags, motion, pins, table.budget, table.granted,
table.recs, table.waiting, tanks.pumpDue, tanks.recs, tanks.senderDue, tanks.tempDue, time.idleDue,
time.power, wind. -/
abbrev OnlyPin (s t : State) : Prop :=
    t.meter = s.meter ∧ t.table.band = s.table.band ∧ t.table.overdraw = s.table.overdraw ∧
    t.table.clear = s.table.clear ∧ t.lamps.scenes = s.lamps.scenes ∧
    t.heater.hostMode = s.heater.hostMode ∧ t.heater.schedMode = s.heater.schedMode ∧
    t.heater.frostOrigin = s.heater.frostOrigin ∧ t.heater.ceiling = s.heater.ceiling ∧
    t.heater.effective = s.heater.effective ∧ t.heater.reading = s.heater.reading ∧
    t.heater.sensor = s.heater.sensor ∧ t.heater.thermostat = s.heater.thermostat ∧
    t.heater.demand = s.heater.demand ∧ t.tanks.fresh = s.tanks.fresh ∧
    t.tanks.grey = s.tanks.grey ∧ t.tanks.pumpFault = s.tanks.pumpFault ∧
    t.drive.gap = s.drive.gap ∧ t.drive.lastActuator = s.drive.lastActuator ∧
    t.drive.stallCount = s.drive.stallCount ∧ t.drive.legTime = s.drive.legTime ∧
    t.drive.blank = s.drive.blank ∧ t.drive.stallDue = s.drive.stallDue ∧
    t.time.tick = s.time.tick ∧ t.time.fraction = s.time.fraction ∧ t.time.inc = s.time.inc ∧
    t.time.calib = s.time.calib ∧ t.time.crystal = s.time.crystal ∧
    t.time.schedule = s.time.schedule ∧ t.link.rx = s.link.rx ∧ t.link.received = s.link.received ∧
    t.link.expected = s.link.expected ∧ t.link.inbox = s.link.inbox ∧
    t.link.replies = s.link.replies ∧ t.link.tx = s.link.tx ∧
    t.link.restartPending = s.link.restartPending ∧ t.link.masked = s.link.masked ∧
    t.link.hold = s.link.hold ∧ t.link.noticeCounter = s.link.noticeCounter ∧
    t.link.attended = s.link.attended ∧ t.link.silence = s.link.silence ∧ t.params = s.params ∧
    t.pending = s.pending

/-- All but: act.homing, drive.braked, drive.direction, drive.lastServed, drive.owner,
drive.phaseTimer, drive.stage, heater.cabinDue, heater.ceiling, heater.demand, heater.effective,
heater.glowDue, heater.purgeDue, heater.schedMode, heater.state, heater.thermostat, lamps.chans,
link.flags, motion, pins, table.granted, table.recs, table.waiting, tanks.pumpDue, tanks.senderDue,
tanks.tempDue, time.power. -/
abbrev OnlyAction (s t : State) : Prop :=
    t.meter = s.meter ∧ t.table.budget = s.table.budget ∧ t.table.band = s.table.band ∧
    t.table.overdraw = s.table.overdraw ∧ t.table.clear = s.table.clear ∧
    t.lamps.scenes = s.lamps.scenes ∧ t.lamps.entryDue = s.lamps.entryDue ∧
    t.heater.hostMode = s.heater.hostMode ∧ t.heater.frostOrigin = s.heater.frostOrigin ∧
    t.heater.reading = s.heater.reading ∧ t.heater.sensor = s.heater.sensor ∧
    t.heater.failed = s.heater.failed ∧ t.heater.latch = s.heater.latch ∧
    t.tanks.recs = s.tanks.recs ∧ t.tanks.fresh = s.tanks.fresh ∧ t.tanks.grey = s.tanks.grey ∧
    t.tanks.pumpFault = s.tanks.pumpFault ∧ t.drive.gap = s.drive.gap ∧
    t.drive.lastActuator = s.drive.lastActuator ∧ t.drive.stallCount = s.drive.stallCount ∧
    t.drive.legTime = s.drive.legTime ∧ t.drive.blank = s.drive.blank ∧
    t.drive.stallDue = s.drive.stallDue ∧ t.act.posMs = s.act.posMs ∧ t.act.stepMs = s.act.stepMs ∧
    t.wind = s.wind ∧ t.time.tick = s.time.tick ∧ t.time.fraction = s.time.fraction ∧
    t.time.inc = s.time.inc ∧ t.time.calib = s.time.calib ∧ t.time.crystal = s.time.crystal ∧
    t.time.idleDue = s.time.idleDue ∧ t.time.schedule = s.time.schedule ∧ t.link.rx = s.link.rx ∧
    t.link.received = s.link.received ∧ t.link.expected = s.link.expected ∧
    t.link.inbox = s.link.inbox ∧ t.link.replies = s.link.replies ∧ t.link.tx = s.link.tx ∧
    t.link.restartPending = s.link.restartPending ∧ t.link.masked = s.link.masked ∧
    t.link.hold = s.link.hold ∧ t.link.noticeCounter = s.link.noticeCounter ∧
    t.link.attended = s.link.attended ∧ t.link.silence = s.link.silence ∧ t.params = s.params ∧
    t.pending = s.pending

/-- All but: act.homing, drive.braked, drive.direction, drive.lastServed, drive.owner,
drive.phaseTimer, drive.stage, heater.cabinDue, heater.ceiling, heater.demand, heater.effective,
heater.glowDue, heater.purgeDue, heater.schedMode, heater.state, heater.thermostat, lamps.chans,
link.flags, motion, pins, table.granted, table.recs, table.waiting, tanks.pumpDue, tanks.senderDue,
tanks.tempDue, time.power, time.schedule. -/
abbrev OnlyFire (s t : State) : Prop :=
    t.meter = s.meter ∧ t.table.budget = s.table.budget ∧ t.table.band = s.table.band ∧
    t.table.overdraw = s.table.overdraw ∧ t.table.clear = s.table.clear ∧
    t.lamps.scenes = s.lamps.scenes ∧ t.lamps.entryDue = s.lamps.entryDue ∧
    t.heater.hostMode = s.heater.hostMode ∧ t.heater.frostOrigin = s.heater.frostOrigin ∧
    t.heater.reading = s.heater.reading ∧ t.heater.sensor = s.heater.sensor ∧
    t.heater.failed = s.heater.failed ∧ t.heater.latch = s.heater.latch ∧
    t.tanks.recs = s.tanks.recs ∧ t.tanks.fresh = s.tanks.fresh ∧ t.tanks.grey = s.tanks.grey ∧
    t.tanks.pumpFault = s.tanks.pumpFault ∧ t.drive.gap = s.drive.gap ∧
    t.drive.lastActuator = s.drive.lastActuator ∧ t.drive.stallCount = s.drive.stallCount ∧
    t.drive.legTime = s.drive.legTime ∧ t.drive.blank = s.drive.blank ∧
    t.drive.stallDue = s.drive.stallDue ∧ t.act.posMs = s.act.posMs ∧ t.act.stepMs = s.act.stepMs ∧
    t.wind = s.wind ∧ t.time.tick = s.time.tick ∧ t.time.fraction = s.time.fraction ∧
    t.time.inc = s.time.inc ∧ t.time.calib = s.time.calib ∧ t.time.crystal = s.time.crystal ∧
    t.time.idleDue = s.time.idleDue ∧ t.link.rx = s.link.rx ∧ t.link.received = s.link.received ∧
    t.link.expected = s.link.expected ∧ t.link.inbox = s.link.inbox ∧
    t.link.replies = s.link.replies ∧ t.link.tx = s.link.tx ∧
    t.link.restartPending = s.link.restartPending ∧ t.link.masked = s.link.masked ∧
    t.link.hold = s.link.hold ∧ t.link.noticeCounter = s.link.noticeCounter ∧
    t.link.attended = s.link.attended ∧ t.link.silence = s.link.silence ∧ t.params = s.params ∧
    t.pending = s.pending

/-- All but: act.homing, drive.braked, drive.direction, drive.lastServed, drive.owner,
drive.phaseTimer, drive.stage, heater.cabinDue, heater.ceiling, heater.demand, heater.effective,
heater.glowDue, heater.purgeDue, heater.schedMode, heater.state, heater.thermostat, lamps.chans,
link.flags, motion, pins, table.granted, table.recs, table.waiting, tanks.pumpDue, tanks.senderDue,
tanks.tempDue, time.idleDue, time.power, time.schedule. -/
abbrev OnlyFireSettled (s t : State) : Prop :=
    t.meter = s.meter ∧ t.table.budget = s.table.budget ∧ t.table.band = s.table.band ∧
    t.table.overdraw = s.table.overdraw ∧ t.table.clear = s.table.clear ∧
    t.lamps.scenes = s.lamps.scenes ∧ t.lamps.entryDue = s.lamps.entryDue ∧
    t.heater.hostMode = s.heater.hostMode ∧ t.heater.frostOrigin = s.heater.frostOrigin ∧
    t.heater.reading = s.heater.reading ∧ t.heater.sensor = s.heater.sensor ∧
    t.heater.failed = s.heater.failed ∧ t.heater.latch = s.heater.latch ∧
    t.tanks.recs = s.tanks.recs ∧ t.tanks.fresh = s.tanks.fresh ∧ t.tanks.grey = s.tanks.grey ∧
    t.tanks.pumpFault = s.tanks.pumpFault ∧ t.drive.gap = s.drive.gap ∧
    t.drive.lastActuator = s.drive.lastActuator ∧ t.drive.stallCount = s.drive.stallCount ∧
    t.drive.legTime = s.drive.legTime ∧ t.drive.blank = s.drive.blank ∧
    t.drive.stallDue = s.drive.stallDue ∧ t.act.posMs = s.act.posMs ∧ t.act.stepMs = s.act.stepMs ∧
    t.wind = s.wind ∧ t.time.tick = s.time.tick ∧ t.time.fraction = s.time.fraction ∧
    t.time.inc = s.time.inc ∧ t.time.calib = s.time.calib ∧ t.time.crystal = s.time.crystal ∧
    t.link.rx = s.link.rx ∧ t.link.received = s.link.received ∧ t.link.expected = s.link.expected ∧
    t.link.inbox = s.link.inbox ∧ t.link.replies = s.link.replies ∧ t.link.tx = s.link.tx ∧
    t.link.restartPending = s.link.restartPending ∧ t.link.masked = s.link.masked ∧
    t.link.hold = s.link.hold ∧ t.link.noticeCounter = s.link.noticeCounter ∧
    t.link.attended = s.link.attended ∧ t.link.silence = s.link.silence ∧ t.params = s.params ∧
    t.pending = s.pending

/-- All but: heater.cabinDue, heater.glowDue, heater.purgeDue, lamps.entryDue, table.recs,
tanks.fresh, tanks.grey, tanks.pumpDue, tanks.senderDue, tanks.tempDue, time.idleDue, wind. -/
abbrev OnlyInstants (s t : State) : Prop :=
    t.meter = s.meter ∧ t.table.waiting = s.table.waiting ∧
    t.table.granted = s.table.granted ∧ t.table.budget = s.table.budget ∧
    t.table.band = s.table.band ∧ t.table.overdraw = s.table.overdraw ∧
    t.table.clear = s.table.clear ∧ t.lamps.chans = s.lamps.chans ∧
    t.lamps.scenes = s.lamps.scenes ∧ t.heater.state = s.heater.state ∧
    t.heater.hostMode = s.heater.hostMode ∧ t.heater.schedMode = s.heater.schedMode ∧
    t.heater.frostOrigin = s.heater.frostOrigin ∧ t.heater.ceiling = s.heater.ceiling ∧
    t.heater.effective = s.heater.effective ∧ t.heater.reading = s.heater.reading ∧
    t.heater.sensor = s.heater.sensor ∧ t.heater.thermostat = s.heater.thermostat ∧
    t.heater.demand = s.heater.demand ∧ t.heater.failed = s.heater.failed ∧
    t.heater.latch = s.heater.latch ∧ t.tanks.recs = s.tanks.recs ∧
    t.tanks.pumpFault = s.tanks.pumpFault ∧ t.drive = s.drive ∧ t.motion = s.motion ∧
    t.act = s.act ∧ t.pins = s.pins ∧ t.time.tick = s.time.tick ∧
    t.time.fraction = s.time.fraction ∧ t.time.inc = s.time.inc ∧
    t.time.power = s.time.power ∧ t.time.calib = s.time.calib ∧
    t.time.crystal = s.time.crystal ∧ t.time.schedule = s.time.schedule ∧ t.link = s.link ∧
    t.params = s.params ∧ t.pending = s.pending

/-- All but: act.homing, drive.braked, drive.direction, drive.lastServed, drive.owner,
drive.phaseTimer, drive.stage, heater.cabinDue, heater.ceiling, heater.demand, heater.effective,
heater.glowDue, heater.purgeDue, heater.state, heater.thermostat, lamps.chans, link.expected,
link.flags, link.received, link.rx, link.silence, meter, motion.awningOverride, motion.slots,
motion.stepOverride, pins, table, tanks.pumpDue, tanks.senderDue, tanks.tempDue, time.calib,
time.crystal, time.fraction, time.inc, time.power, time.tick. -/
abbrev OnlySlowStep (s t : State) : Prop :=
    t.lamps.scenes = s.lamps.scenes ∧ t.lamps.entryDue = s.lamps.entryDue ∧
    t.heater.hostMode = s.heater.hostMode ∧ t.heater.schedMode = s.heater.schedMode ∧
    t.heater.frostOrigin = s.heater.frostOrigin ∧ t.heater.reading = s.heater.reading ∧
    t.heater.sensor = s.heater.sensor ∧ t.heater.failed = s.heater.failed ∧
    t.heater.latch = s.heater.latch ∧ t.tanks.recs = s.tanks.recs ∧ t.tanks.fresh = s.tanks.fresh ∧
    t.tanks.grey = s.tanks.grey ∧ t.tanks.pumpFault = s.tanks.pumpFault ∧
    t.drive.gap = s.drive.gap ∧ t.drive.lastActuator = s.drive.lastActuator ∧
    t.drive.stallCount = s.drive.stallCount ∧ t.drive.legTime = s.drive.legTime ∧
    t.drive.blank = s.drive.blank ∧ t.drive.stallDue = s.drive.stallDue ∧
    t.motion.stepTail = s.motion.stepTail ∧ t.motion.awningTail = s.motion.awningTail ∧
    t.act.posMs = s.act.posMs ∧ t.act.stepMs = s.act.stepMs ∧ t.wind = s.wind ∧
    t.time.idleDue = s.time.idleDue ∧ t.time.schedule = s.time.schedule ∧
    t.link.inbox = s.link.inbox ∧ t.link.replies = s.link.replies ∧ t.link.tx = s.link.tx ∧
    t.link.restartPending = s.link.restartPending ∧ t.link.masked = s.link.masked ∧
    t.link.hold = s.link.hold ∧ t.link.noticeCounter = s.link.noticeCounter ∧
    t.link.attended = s.link.attended ∧ t.params = s.params ∧ t.pending = s.pending

/-- All but: act, drive.braked, drive.direction, drive.lastServed, drive.owner, drive.phaseTimer,
drive.stage, heater.cabinDue, heater.ceiling, heater.demand, heater.effective, heater.frostOrigin,
heater.glowDue, heater.purgeDue, heater.state, heater.thermostat, lamps.chans, lamps.entryDue,
link.attended, link.flags, link.silence, meter, motion, params, pins, table, tanks.fresh,
tanks.grey, tanks.pumpDue, tanks.recs, tanks.senderDue, tanks.tempDue, time.idleDue, time.power. -/
abbrev OnlyParamWrite (s t : State) : Prop :=
    t.lamps.scenes = s.lamps.scenes ∧ t.heater.hostMode = s.heater.hostMode ∧
    t.heater.schedMode = s.heater.schedMode ∧ t.heater.reading = s.heater.reading ∧
    t.heater.sensor = s.heater.sensor ∧ t.heater.failed = s.heater.failed ∧
    t.heater.latch = s.heater.latch ∧ t.tanks.pumpFault = s.tanks.pumpFault ∧
    t.drive.gap = s.drive.gap ∧ t.drive.lastActuator = s.drive.lastActuator ∧
    t.drive.stallCount = s.drive.stallCount ∧ t.drive.legTime = s.drive.legTime ∧
    t.drive.blank = s.drive.blank ∧ t.drive.stallDue = s.drive.stallDue ∧ t.wind = s.wind ∧
    t.time.tick = s.time.tick ∧ t.time.fraction = s.time.fraction ∧ t.time.inc = s.time.inc ∧
    t.time.calib = s.time.calib ∧ t.time.crystal = s.time.crystal ∧
    t.time.schedule = s.time.schedule ∧ t.link.rx = s.link.rx ∧ t.link.received = s.link.received ∧
    t.link.expected = s.link.expected ∧ t.link.inbox = s.link.inbox ∧
    t.link.replies = s.link.replies ∧ t.link.tx = s.link.tx ∧
    t.link.restartPending = s.link.restartPending ∧ t.link.masked = s.link.masked ∧
    t.link.hold = s.link.hold ∧ t.link.noticeCounter = s.link.noticeCounter ∧ t.pending = s.pending

/-- All but: act.homing, drive.direction, drive.phaseTimer, drive.stage, heater.glowDue,
heater.state, lamps.chans, tanks.pumpDue. -/
abbrev OnlyHandOff (s t : State) : Prop :=
    t.meter = s.meter ∧ t.table = s.table ∧ t.lamps.scenes = s.lamps.scenes ∧
    t.lamps.entryDue = s.lamps.entryDue ∧ t.heater.hostMode = s.heater.hostMode ∧
    t.heater.schedMode = s.heater.schedMode ∧ t.heater.frostOrigin = s.heater.frostOrigin ∧
    t.heater.ceiling = s.heater.ceiling ∧ t.heater.effective = s.heater.effective ∧
    t.heater.reading = s.heater.reading ∧ t.heater.sensor = s.heater.sensor ∧
    t.heater.thermostat = s.heater.thermostat ∧ t.heater.demand = s.heater.demand ∧
    t.heater.failed = s.heater.failed ∧ t.heater.latch = s.heater.latch ∧
    t.heater.purgeDue = s.heater.purgeDue ∧ t.heater.cabinDue = s.heater.cabinDue ∧
    t.tanks.recs = s.tanks.recs ∧ t.tanks.fresh = s.tanks.fresh ∧ t.tanks.grey = s.tanks.grey ∧
    t.tanks.senderDue = s.tanks.senderDue ∧ t.tanks.tempDue = s.tanks.tempDue ∧
    t.tanks.pumpFault = s.tanks.pumpFault ∧ t.drive.owner = s.drive.owner ∧
    t.drive.gap = s.drive.gap ∧ t.drive.lastActuator = s.drive.lastActuator ∧
    t.drive.lastServed = s.drive.lastServed ∧ t.drive.stallCount = s.drive.stallCount ∧
    t.drive.legTime = s.drive.legTime ∧ t.drive.blank = s.drive.blank ∧
    t.drive.stallDue = s.drive.stallDue ∧ t.drive.braked = s.drive.braked ∧ t.motion = s.motion ∧
    t.act.posMs = s.act.posMs ∧ t.act.stepMs = s.act.stepMs ∧ t.wind = s.wind ∧ t.pins = s.pins ∧
    t.time = s.time ∧ t.link = s.link ∧ t.params = s.params ∧ t.pending = s.pending

/-- All but: table.granted, table.recs, table.waiting. -/
abbrev OnlyLists (s t : State) : Prop :=
    t.meter = s.meter ∧ t.table.budget = s.table.budget ∧ t.table.band = s.table.band ∧
    t.table.overdraw = s.table.overdraw ∧ t.table.clear = s.table.clear ∧
    t.lamps = s.lamps ∧ t.heater = s.heater ∧ t.tanks = s.tanks ∧ t.drive = s.drive ∧
    t.motion = s.motion ∧ t.act = s.act ∧ t.wind = s.wind ∧ t.pins = s.pins ∧
    t.time = s.time ∧ t.link = s.link ∧ t.params = s.params ∧ t.pending = s.pending

/-- All but: heater.glowDue, heater.purgeDue, heater.state, table.granted, table.recs,
table.waiting. -/
abbrev OnlySheds (s t : State) : Prop :=
    t.meter = s.meter ∧ t.table.budget = s.table.budget ∧ t.table.band = s.table.band ∧
    t.table.overdraw = s.table.overdraw ∧ t.table.clear = s.table.clear ∧
    t.lamps = s.lamps ∧ t.heater.hostMode = s.heater.hostMode ∧
    t.heater.schedMode = s.heater.schedMode ∧ t.heater.frostOrigin = s.heater.frostOrigin ∧
    t.heater.ceiling = s.heater.ceiling ∧ t.heater.effective = s.heater.effective ∧
    t.heater.reading = s.heater.reading ∧ t.heater.sensor = s.heater.sensor ∧
    t.heater.thermostat = s.heater.thermostat ∧ t.heater.demand = s.heater.demand ∧
    t.heater.failed = s.heater.failed ∧ t.heater.latch = s.heater.latch ∧
    t.heater.cabinDue = s.heater.cabinDue ∧ t.tanks = s.tanks ∧ t.drive = s.drive ∧
    t.motion = s.motion ∧ t.act = s.act ∧ t.wind = s.wind ∧ t.pins = s.pins ∧
    t.time = s.time ∧ t.link = s.link ∧ t.params = s.params ∧ t.pending = s.pending

/-- All but: heater.glowDue, heater.purgeDue, heater.state, link.flags, table.granted, table.recs,
table.waiting. -/
abbrev OnlyWalk (s t : State) : Prop :=
    t.meter = s.meter ∧ t.table.budget = s.table.budget ∧ t.table.band = s.table.band ∧
    t.table.overdraw = s.table.overdraw ∧ t.table.clear = s.table.clear ∧
    t.lamps = s.lamps ∧ t.heater.hostMode = s.heater.hostMode ∧
    t.heater.schedMode = s.heater.schedMode ∧ t.heater.frostOrigin = s.heater.frostOrigin ∧
    t.heater.ceiling = s.heater.ceiling ∧ t.heater.effective = s.heater.effective ∧
    t.heater.reading = s.heater.reading ∧ t.heater.sensor = s.heater.sensor ∧
    t.heater.thermostat = s.heater.thermostat ∧ t.heater.demand = s.heater.demand ∧
    t.heater.failed = s.heater.failed ∧ t.heater.latch = s.heater.latch ∧
    t.heater.cabinDue = s.heater.cabinDue ∧ t.tanks = s.tanks ∧ t.drive = s.drive ∧
    t.motion = s.motion ∧ t.act = s.act ∧ t.wind = s.wind ∧ t.pins = s.pins ∧
    t.time = s.time ∧ t.link.rx = s.link.rx ∧ t.link.received = s.link.received ∧
    t.link.expected = s.link.expected ∧ t.link.inbox = s.link.inbox ∧
    t.link.replies = s.link.replies ∧ t.link.tx = s.link.tx ∧
    t.link.restartPending = s.link.restartPending ∧ t.link.masked = s.link.masked ∧
    t.link.hold = s.link.hold ∧ t.link.noticeCounter = s.link.noticeCounter ∧
    t.link.attended = s.link.attended ∧ t.link.silence = s.link.silence ∧
    t.params = s.params ∧ t.pending = s.pending

/-- All but: act.homing, drive.direction, drive.phaseTimer, drive.stage, heater.glowDue,
heater.purgeDue, heater.state, lamps.chans, link.flags, table.budget, table.granted, table.recs,
table.waiting, tanks.pumpDue. -/
abbrev OnlyBudget (s t : State) : Prop :=
    t.meter = s.meter ∧ t.table.band = s.table.band ∧ t.table.overdraw = s.table.overdraw ∧
    t.table.clear = s.table.clear ∧ t.lamps.scenes = s.lamps.scenes ∧
    t.lamps.entryDue = s.lamps.entryDue ∧ t.heater.hostMode = s.heater.hostMode ∧
    t.heater.schedMode = s.heater.schedMode ∧ t.heater.frostOrigin = s.heater.frostOrigin ∧
    t.heater.ceiling = s.heater.ceiling ∧ t.heater.effective = s.heater.effective ∧
    t.heater.reading = s.heater.reading ∧ t.heater.sensor = s.heater.sensor ∧
    t.heater.thermostat = s.heater.thermostat ∧ t.heater.demand = s.heater.demand ∧
    t.heater.failed = s.heater.failed ∧ t.heater.latch = s.heater.latch ∧
    t.heater.cabinDue = s.heater.cabinDue ∧ t.tanks.recs = s.tanks.recs ∧
    t.tanks.fresh = s.tanks.fresh ∧ t.tanks.grey = s.tanks.grey ∧
    t.tanks.senderDue = s.tanks.senderDue ∧ t.tanks.tempDue = s.tanks.tempDue ∧
    t.tanks.pumpFault = s.tanks.pumpFault ∧ t.drive.owner = s.drive.owner ∧
    t.drive.gap = s.drive.gap ∧ t.drive.lastActuator = s.drive.lastActuator ∧
    t.drive.lastServed = s.drive.lastServed ∧ t.drive.stallCount = s.drive.stallCount ∧
    t.drive.legTime = s.drive.legTime ∧ t.drive.blank = s.drive.blank ∧
    t.drive.stallDue = s.drive.stallDue ∧ t.drive.braked = s.drive.braked ∧ t.motion = s.motion ∧
    t.act.posMs = s.act.posMs ∧ t.act.stepMs = s.act.stepMs ∧ t.wind = s.wind ∧ t.pins = s.pins ∧
    t.time = s.time ∧ t.link.rx = s.link.rx ∧ t.link.received = s.link.received ∧
    t.link.expected = s.link.expected ∧ t.link.inbox = s.link.inbox ∧
    t.link.replies = s.link.replies ∧ t.link.tx = s.link.tx ∧
    t.link.restartPending = s.link.restartPending ∧ t.link.masked = s.link.masked ∧
    t.link.hold = s.link.hold ∧ t.link.noticeCounter = s.link.noticeCounter ∧
    t.link.attended = s.link.attended ∧ t.link.silence = s.link.silence ∧ t.params = s.params ∧
    t.pending = s.pending

/-- All but: act.homing, drive.direction, drive.phaseTimer, drive.stage, heater.glowDue,
heater.purgeDue, heater.state, lamps.chans, link.flags, table.band, table.budget, table.granted,
table.recs, table.waiting, tanks.pumpDue. -/
abbrev OnlyBandBudget (s t : State) : Prop :=
    t.meter = s.meter ∧ t.table.overdraw = s.table.overdraw ∧ t.table.clear = s.table.clear ∧
    t.lamps.scenes = s.lamps.scenes ∧ t.lamps.entryDue = s.lamps.entryDue ∧
    t.heater.hostMode = s.heater.hostMode ∧ t.heater.schedMode = s.heater.schedMode ∧
    t.heater.frostOrigin = s.heater.frostOrigin ∧ t.heater.ceiling = s.heater.ceiling ∧
    t.heater.effective = s.heater.effective ∧ t.heater.reading = s.heater.reading ∧
    t.heater.sensor = s.heater.sensor ∧ t.heater.thermostat = s.heater.thermostat ∧
    t.heater.demand = s.heater.demand ∧ t.heater.failed = s.heater.failed ∧
    t.heater.latch = s.heater.latch ∧ t.heater.cabinDue = s.heater.cabinDue ∧
    t.tanks.recs = s.tanks.recs ∧ t.tanks.fresh = s.tanks.fresh ∧ t.tanks.grey = s.tanks.grey ∧
    t.tanks.senderDue = s.tanks.senderDue ∧ t.tanks.tempDue = s.tanks.tempDue ∧
    t.tanks.pumpFault = s.tanks.pumpFault ∧ t.drive.owner = s.drive.owner ∧
    t.drive.gap = s.drive.gap ∧ t.drive.lastActuator = s.drive.lastActuator ∧
    t.drive.lastServed = s.drive.lastServed ∧ t.drive.stallCount = s.drive.stallCount ∧
    t.drive.legTime = s.drive.legTime ∧ t.drive.blank = s.drive.blank ∧
    t.drive.stallDue = s.drive.stallDue ∧ t.drive.braked = s.drive.braked ∧ t.motion = s.motion ∧
    t.act.posMs = s.act.posMs ∧ t.act.stepMs = s.act.stepMs ∧ t.wind = s.wind ∧ t.pins = s.pins ∧
    t.time = s.time ∧ t.link.rx = s.link.rx ∧ t.link.received = s.link.received ∧
    t.link.expected = s.link.expected ∧ t.link.inbox = s.link.inbox ∧
    t.link.replies = s.link.replies ∧ t.link.tx = s.link.tx ∧
    t.link.restartPending = s.link.restartPending ∧ t.link.masked = s.link.masked ∧
    t.link.hold = s.link.hold ∧ t.link.noticeCounter = s.link.noticeCounter ∧
    t.link.attended = s.link.attended ∧ t.link.silence = s.link.silence ∧ t.params = s.params ∧
    t.pending = s.pending

/-- All but: act.homing, drive.direction, drive.phaseTimer, drive.stage, heater.glowDue,
heater.purgeDue, heater.state, lamps.chans, link.flags, table.clear, table.granted, table.overdraw,
table.recs, table.waiting, tanks.pumpDue. -/
abbrev OnlyOverdraw (s t : State) : Prop :=
    t.meter = s.meter ∧ t.table.budget = s.table.budget ∧ t.table.band = s.table.band ∧
    t.lamps.scenes = s.lamps.scenes ∧ t.lamps.entryDue = s.lamps.entryDue ∧
    t.heater.hostMode = s.heater.hostMode ∧ t.heater.schedMode = s.heater.schedMode ∧
    t.heater.frostOrigin = s.heater.frostOrigin ∧ t.heater.ceiling = s.heater.ceiling ∧
    t.heater.effective = s.heater.effective ∧ t.heater.reading = s.heater.reading ∧
    t.heater.sensor = s.heater.sensor ∧ t.heater.thermostat = s.heater.thermostat ∧
    t.heater.demand = s.heater.demand ∧ t.heater.failed = s.heater.failed ∧
    t.heater.latch = s.heater.latch ∧ t.heater.cabinDue = s.heater.cabinDue ∧
    t.tanks.recs = s.tanks.recs ∧ t.tanks.fresh = s.tanks.fresh ∧ t.tanks.grey = s.tanks.grey ∧
    t.tanks.senderDue = s.tanks.senderDue ∧ t.tanks.tempDue = s.tanks.tempDue ∧
    t.tanks.pumpFault = s.tanks.pumpFault ∧ t.drive.owner = s.drive.owner ∧
    t.drive.gap = s.drive.gap ∧ t.drive.lastActuator = s.drive.lastActuator ∧
    t.drive.lastServed = s.drive.lastServed ∧ t.drive.stallCount = s.drive.stallCount ∧
    t.drive.legTime = s.drive.legTime ∧ t.drive.blank = s.drive.blank ∧
    t.drive.stallDue = s.drive.stallDue ∧ t.drive.braked = s.drive.braked ∧ t.motion = s.motion ∧
    t.act.posMs = s.act.posMs ∧ t.act.stepMs = s.act.stepMs ∧ t.wind = s.wind ∧ t.pins = s.pins ∧
    t.time = s.time ∧ t.link.rx = s.link.rx ∧ t.link.received = s.link.received ∧
    t.link.expected = s.link.expected ∧ t.link.inbox = s.link.inbox ∧
    t.link.replies = s.link.replies ∧ t.link.tx = s.link.tx ∧
    t.link.restartPending = s.link.restartPending ∧ t.link.masked = s.link.masked ∧
    t.link.hold = s.link.hold ∧ t.link.noticeCounter = s.link.noticeCounter ∧
    t.link.attended = s.link.attended ∧ t.link.silence = s.link.silence ∧ t.params = s.params ∧
    t.pending = s.pending

/-- All but: act.homing, drive.direction, drive.phaseTimer, drive.stage, heater.glowDue,
heater.purgeDue, heater.state, lamps.chans, lamps.entryDue, link.flags, table.granted, table.recs,
table.waiting, tanks.pumpDue. -/
abbrev OnlyEntry (s t : State) : Prop :=
    t.meter = s.meter ∧ t.table.budget = s.table.budget ∧ t.table.band = s.table.band ∧
    t.table.overdraw = s.table.overdraw ∧ t.table.clear = s.table.clear ∧
    t.lamps.scenes = s.lamps.scenes ∧ t.heater.hostMode = s.heater.hostMode ∧
    t.heater.schedMode = s.heater.schedMode ∧ t.heater.frostOrigin = s.heater.frostOrigin ∧
    t.heater.ceiling = s.heater.ceiling ∧ t.heater.effective = s.heater.effective ∧
    t.heater.reading = s.heater.reading ∧ t.heater.sensor = s.heater.sensor ∧
    t.heater.thermostat = s.heater.thermostat ∧ t.heater.demand = s.heater.demand ∧
    t.heater.failed = s.heater.failed ∧ t.heater.latch = s.heater.latch ∧
    t.heater.cabinDue = s.heater.cabinDue ∧ t.tanks.recs = s.tanks.recs ∧
    t.tanks.fresh = s.tanks.fresh ∧ t.tanks.grey = s.tanks.grey ∧
    t.tanks.senderDue = s.tanks.senderDue ∧ t.tanks.tempDue = s.tanks.tempDue ∧
    t.tanks.pumpFault = s.tanks.pumpFault ∧ t.drive.owner = s.drive.owner ∧
    t.drive.gap = s.drive.gap ∧ t.drive.lastActuator = s.drive.lastActuator ∧
    t.drive.lastServed = s.drive.lastServed ∧ t.drive.stallCount = s.drive.stallCount ∧
    t.drive.legTime = s.drive.legTime ∧ t.drive.blank = s.drive.blank ∧
    t.drive.stallDue = s.drive.stallDue ∧ t.drive.braked = s.drive.braked ∧ t.motion = s.motion ∧
    t.act.posMs = s.act.posMs ∧ t.act.stepMs = s.act.stepMs ∧ t.wind = s.wind ∧ t.pins = s.pins ∧
    t.time = s.time ∧ t.link.rx = s.link.rx ∧ t.link.received = s.link.received ∧
    t.link.expected = s.link.expected ∧ t.link.inbox = s.link.inbox ∧
    t.link.replies = s.link.replies ∧ t.link.tx = s.link.tx ∧
    t.link.restartPending = s.link.restartPending ∧ t.link.masked = s.link.masked ∧
    t.link.hold = s.link.hold ∧ t.link.noticeCounter = s.link.noticeCounter ∧
    t.link.attended = s.link.attended ∧ t.link.silence = s.link.silence ∧ t.params = s.params ∧
    t.pending = s.pending

/-- All but: act.homing, drive.direction, drive.phaseTimer, drive.stage, heater.ceiling,
heater.demand, heater.effective, heater.glowDue, heater.hostMode, heater.purgeDue, heater.state,
heater.thermostat, lamps.chans, link.flags, table.granted, table.recs, table.waiting,
tanks.pumpDue. -/
abbrev OnlyHostMode (s t : State) : Prop :=
    t.meter = s.meter ∧ t.table.budget = s.table.budget ∧ t.table.band = s.table.band ∧
    t.table.overdraw = s.table.overdraw ∧ t.table.clear = s.table.clear ∧
    t.lamps.scenes = s.lamps.scenes ∧ t.lamps.entryDue = s.lamps.entryDue ∧
    t.heater.schedMode = s.heater.schedMode ∧ t.heater.frostOrigin = s.heater.frostOrigin ∧
    t.heater.reading = s.heater.reading ∧ t.heater.sensor = s.heater.sensor ∧
    t.heater.failed = s.heater.failed ∧ t.heater.latch = s.heater.latch ∧
    t.heater.cabinDue = s.heater.cabinDue ∧ t.tanks.recs = s.tanks.recs ∧
    t.tanks.fresh = s.tanks.fresh ∧ t.tanks.grey = s.tanks.grey ∧
    t.tanks.senderDue = s.tanks.senderDue ∧ t.tanks.tempDue = s.tanks.tempDue ∧
    t.tanks.pumpFault = s.tanks.pumpFault ∧ t.drive.owner = s.drive.owner ∧
    t.drive.gap = s.drive.gap ∧ t.drive.lastActuator = s.drive.lastActuator ∧
    t.drive.lastServed = s.drive.lastServed ∧ t.drive.stallCount = s.drive.stallCount ∧
    t.drive.legTime = s.drive.legTime ∧ t.drive.blank = s.drive.blank ∧
    t.drive.stallDue = s.drive.stallDue ∧ t.drive.braked = s.drive.braked ∧ t.motion = s.motion ∧
    t.act.posMs = s.act.posMs ∧ t.act.stepMs = s.act.stepMs ∧ t.wind = s.wind ∧ t.pins = s.pins ∧
    t.time = s.time ∧ t.link.rx = s.link.rx ∧ t.link.received = s.link.received ∧
    t.link.expected = s.link.expected ∧ t.link.inbox = s.link.inbox ∧
    t.link.replies = s.link.replies ∧ t.link.tx = s.link.tx ∧
    t.link.restartPending = s.link.restartPending ∧ t.link.masked = s.link.masked ∧
    t.link.hold = s.link.hold ∧ t.link.noticeCounter = s.link.noticeCounter ∧
    t.link.attended = s.link.attended ∧ t.link.silence = s.link.silence ∧ t.params = s.params ∧
    t.pending = s.pending

/-- All but: act.homing, drive.direction, drive.phaseTimer, drive.stage, heater.ceiling,
heater.demand, heater.effective, heater.glowDue, heater.purgeDue, heater.schedMode, heater.state,
heater.thermostat, lamps.chans, link.flags, table.granted, table.recs, table.waiting,
tanks.pumpDue. -/
abbrev OnlySchedMode (s t : State) : Prop :=
    t.meter = s.meter ∧ t.table.budget = s.table.budget ∧ t.table.band = s.table.band ∧
    t.table.overdraw = s.table.overdraw ∧ t.table.clear = s.table.clear ∧
    t.lamps.scenes = s.lamps.scenes ∧ t.lamps.entryDue = s.lamps.entryDue ∧
    t.heater.hostMode = s.heater.hostMode ∧ t.heater.frostOrigin = s.heater.frostOrigin ∧
    t.heater.reading = s.heater.reading ∧ t.heater.sensor = s.heater.sensor ∧
    t.heater.failed = s.heater.failed ∧ t.heater.latch = s.heater.latch ∧
    t.heater.cabinDue = s.heater.cabinDue ∧ t.tanks.recs = s.tanks.recs ∧
    t.tanks.fresh = s.tanks.fresh ∧ t.tanks.grey = s.tanks.grey ∧
    t.tanks.senderDue = s.tanks.senderDue ∧ t.tanks.tempDue = s.tanks.tempDue ∧
    t.tanks.pumpFault = s.tanks.pumpFault ∧ t.drive.owner = s.drive.owner ∧
    t.drive.gap = s.drive.gap ∧ t.drive.lastActuator = s.drive.lastActuator ∧
    t.drive.lastServed = s.drive.lastServed ∧ t.drive.stallCount = s.drive.stallCount ∧
    t.drive.legTime = s.drive.legTime ∧ t.drive.blank = s.drive.blank ∧
    t.drive.stallDue = s.drive.stallDue ∧ t.drive.braked = s.drive.braked ∧ t.motion = s.motion ∧
    t.act.posMs = s.act.posMs ∧ t.act.stepMs = s.act.stepMs ∧ t.wind = s.wind ∧ t.pins = s.pins ∧
    t.time = s.time ∧ t.link.rx = s.link.rx ∧ t.link.received = s.link.received ∧
    t.link.expected = s.link.expected ∧ t.link.inbox = s.link.inbox ∧
    t.link.replies = s.link.replies ∧ t.link.tx = s.link.tx ∧
    t.link.restartPending = s.link.restartPending ∧ t.link.masked = s.link.masked ∧
    t.link.hold = s.link.hold ∧ t.link.noticeCounter = s.link.noticeCounter ∧
    t.link.attended = s.link.attended ∧ t.link.silence = s.link.silence ∧ t.params = s.params ∧
    t.pending = s.pending

/-- All but: act.homing, drive.direction, drive.phaseTimer, drive.stage, heater.cabinDue,
heater.ceiling, heater.demand, heater.effective, heater.glowDue, heater.purgeDue, heater.reading,
heater.sensor, heater.state, heater.thermostat, lamps.chans, link.flags, table.granted, table.recs,
table.waiting, tanks.pumpDue. -/
abbrev OnlyCabin (s t : State) : Prop :=
    t.meter = s.meter ∧ t.table.budget = s.table.budget ∧ t.table.band = s.table.band ∧
    t.table.overdraw = s.table.overdraw ∧ t.table.clear = s.table.clear ∧
    t.lamps.scenes = s.lamps.scenes ∧ t.lamps.entryDue = s.lamps.entryDue ∧
    t.heater.hostMode = s.heater.hostMode ∧ t.heater.schedMode = s.heater.schedMode ∧
    t.heater.frostOrigin = s.heater.frostOrigin ∧ t.heater.failed = s.heater.failed ∧
    t.heater.latch = s.heater.latch ∧ t.tanks.recs = s.tanks.recs ∧ t.tanks.fresh = s.tanks.fresh ∧
    t.tanks.grey = s.tanks.grey ∧ t.tanks.senderDue = s.tanks.senderDue ∧
    t.tanks.tempDue = s.tanks.tempDue ∧ t.tanks.pumpFault = s.tanks.pumpFault ∧
    t.drive.owner = s.drive.owner ∧ t.drive.gap = s.drive.gap ∧
    t.drive.lastActuator = s.drive.lastActuator ∧ t.drive.lastServed = s.drive.lastServed ∧
    t.drive.stallCount = s.drive.stallCount ∧ t.drive.legTime = s.drive.legTime ∧
    t.drive.blank = s.drive.blank ∧ t.drive.stallDue = s.drive.stallDue ∧
    t.drive.braked = s.drive.braked ∧ t.motion = s.motion ∧ t.act.posMs = s.act.posMs ∧
    t.act.stepMs = s.act.stepMs ∧ t.wind = s.wind ∧ t.pins = s.pins ∧ t.time = s.time ∧
    t.link.rx = s.link.rx ∧ t.link.received = s.link.received ∧ t.link.expected = s.link.expected ∧
    t.link.inbox = s.link.inbox ∧ t.link.replies = s.link.replies ∧ t.link.tx = s.link.tx ∧
    t.link.restartPending = s.link.restartPending ∧ t.link.masked = s.link.masked ∧
    t.link.hold = s.link.hold ∧ t.link.noticeCounter = s.link.noticeCounter ∧
    t.link.attended = s.link.attended ∧ t.link.silence = s.link.silence ∧ t.params = s.params ∧
    t.pending = s.pending

/-- All but: act.homing, drive.direction, drive.phaseTimer, drive.stage, heater.failed,
heater.glowDue, heater.latch, heater.purgeDue, heater.state, lamps.chans, link.flags,
table.granted, table.recs, table.waiting, tanks.pumpDue. -/
abbrev OnlyFlame (s t : State) : Prop :=
    t.meter = s.meter ∧ t.table.budget = s.table.budget ∧ t.table.band = s.table.band ∧
    t.table.overdraw = s.table.overdraw ∧ t.table.clear = s.table.clear ∧
    t.lamps.scenes = s.lamps.scenes ∧ t.lamps.entryDue = s.lamps.entryDue ∧
    t.heater.hostMode = s.heater.hostMode ∧ t.heater.schedMode = s.heater.schedMode ∧
    t.heater.frostOrigin = s.heater.frostOrigin ∧ t.heater.ceiling = s.heater.ceiling ∧
    t.heater.effective = s.heater.effective ∧ t.heater.reading = s.heater.reading ∧
    t.heater.sensor = s.heater.sensor ∧ t.heater.thermostat = s.heater.thermostat ∧
    t.heater.demand = s.heater.demand ∧ t.heater.cabinDue = s.heater.cabinDue ∧
    t.tanks.recs = s.tanks.recs ∧ t.tanks.fresh = s.tanks.fresh ∧ t.tanks.grey = s.tanks.grey ∧
    t.tanks.senderDue = s.tanks.senderDue ∧ t.tanks.tempDue = s.tanks.tempDue ∧
    t.tanks.pumpFault = s.tanks.pumpFault ∧ t.drive.owner = s.drive.owner ∧
    t.drive.gap = s.drive.gap ∧ t.drive.lastActuator = s.drive.lastActuator ∧
    t.drive.lastServed = s.drive.lastServed ∧ t.drive.stallCount = s.drive.stallCount ∧
    t.drive.legTime = s.drive.legTime ∧ t.drive.blank = s.drive.blank ∧
    t.drive.stallDue = s.drive.stallDue ∧ t.drive.braked = s.drive.braked ∧ t.motion = s.motion ∧
    t.act.posMs = s.act.posMs ∧ t.act.stepMs = s.act.stepMs ∧ t.wind = s.wind ∧ t.pins = s.pins ∧
    t.time = s.time ∧ t.link.rx = s.link.rx ∧ t.link.received = s.link.received ∧
    t.link.expected = s.link.expected ∧ t.link.inbox = s.link.inbox ∧
    t.link.replies = s.link.replies ∧ t.link.tx = s.link.tx ∧
    t.link.restartPending = s.link.restartPending ∧ t.link.masked = s.link.masked ∧
    t.link.hold = s.link.hold ∧ t.link.noticeCounter = s.link.noticeCounter ∧
    t.link.attended = s.link.attended ∧ t.link.silence = s.link.silence ∧ t.params = s.params ∧
    t.pending = s.pending

/-- All but: act.homing, drive.direction, drive.phaseTimer, drive.stage, heater.ceiling,
heater.demand, heater.effective, heater.glowDue, heater.hostMode, heater.purgeDue,
heater.schedMode, heater.state, heater.thermostat, lamps.chans, link.flags, table.granted,
table.recs, table.waiting, tanks.pumpDue. -/
abbrev OnlyHeaterRestart (s t : State) : Prop :=
    t.meter = s.meter ∧ t.table.budget = s.table.budget ∧ t.table.band = s.table.band ∧
    t.table.overdraw = s.table.overdraw ∧ t.table.clear = s.table.clear ∧
    t.lamps.scenes = s.lamps.scenes ∧ t.lamps.entryDue = s.lamps.entryDue ∧
    t.heater.frostOrigin = s.heater.frostOrigin ∧ t.heater.reading = s.heater.reading ∧
    t.heater.sensor = s.heater.sensor ∧ t.heater.failed = s.heater.failed ∧
    t.heater.latch = s.heater.latch ∧ t.heater.cabinDue = s.heater.cabinDue ∧
    t.tanks.recs = s.tanks.recs ∧ t.tanks.fresh = s.tanks.fresh ∧ t.tanks.grey = s.tanks.grey ∧
    t.tanks.senderDue = s.tanks.senderDue ∧ t.tanks.tempDue = s.tanks.tempDue ∧
    t.tanks.pumpFault = s.tanks.pumpFault ∧ t.drive.owner = s.drive.owner ∧
    t.drive.gap = s.drive.gap ∧ t.drive.lastActuator = s.drive.lastActuator ∧
    t.drive.lastServed = s.drive.lastServed ∧ t.drive.stallCount = s.drive.stallCount ∧
    t.drive.legTime = s.drive.legTime ∧ t.drive.blank = s.drive.blank ∧
    t.drive.stallDue = s.drive.stallDue ∧ t.drive.braked = s.drive.braked ∧ t.motion = s.motion ∧
    t.act.posMs = s.act.posMs ∧ t.act.stepMs = s.act.stepMs ∧ t.wind = s.wind ∧ t.pins = s.pins ∧
    t.time = s.time ∧ t.link.rx = s.link.rx ∧ t.link.received = s.link.received ∧
    t.link.expected = s.link.expected ∧ t.link.inbox = s.link.inbox ∧
    t.link.replies = s.link.replies ∧ t.link.tx = s.link.tx ∧
    t.link.restartPending = s.link.restartPending ∧ t.link.masked = s.link.masked ∧
    t.link.hold = s.link.hold ∧ t.link.noticeCounter = s.link.noticeCounter ∧
    t.link.attended = s.link.attended ∧ t.link.silence = s.link.silence ∧ t.params = s.params ∧
    t.pending = s.pending

/-- All but: heater.glowDue, heater.purgeDue, heater.state. -/
abbrev OnlyHeaterPhase (s t : State) : Prop :=
    t.meter = s.meter ∧ t.table = s.table ∧ t.lamps = s.lamps ∧
    t.heater.hostMode = s.heater.hostMode ∧ t.heater.schedMode = s.heater.schedMode ∧
    t.heater.frostOrigin = s.heater.frostOrigin ∧ t.heater.ceiling = s.heater.ceiling ∧
    t.heater.effective = s.heater.effective ∧ t.heater.reading = s.heater.reading ∧
    t.heater.sensor = s.heater.sensor ∧ t.heater.thermostat = s.heater.thermostat ∧
    t.heater.demand = s.heater.demand ∧ t.heater.failed = s.heater.failed ∧
    t.heater.latch = s.heater.latch ∧ t.heater.cabinDue = s.heater.cabinDue ∧
    t.tanks = s.tanks ∧ t.drive = s.drive ∧ t.motion = s.motion ∧ t.act = s.act ∧
    t.wind = s.wind ∧ t.pins = s.pins ∧ t.time = s.time ∧ t.link = s.link ∧
    t.params = s.params ∧ t.pending = s.pending

/-- All but: heater.ceiling, heater.demand, heater.effective, heater.thermostat. -/
abbrev OnlyThermostat (s t : State) : Prop :=
    t.meter = s.meter ∧ t.table = s.table ∧ t.lamps = s.lamps ∧
    t.heater.state = s.heater.state ∧ t.heater.hostMode = s.heater.hostMode ∧
    t.heater.schedMode = s.heater.schedMode ∧ t.heater.frostOrigin = s.heater.frostOrigin ∧
    t.heater.reading = s.heater.reading ∧ t.heater.sensor = s.heater.sensor ∧
    t.heater.failed = s.heater.failed ∧ t.heater.latch = s.heater.latch ∧
    t.heater.glowDue = s.heater.glowDue ∧ t.heater.purgeDue = s.heater.purgeDue ∧
    t.heater.cabinDue = s.heater.cabinDue ∧ t.tanks = s.tanks ∧ t.drive = s.drive ∧
    t.motion = s.motion ∧ t.act = s.act ∧ t.wind = s.wind ∧ t.pins = s.pins ∧
    t.time = s.time ∧ t.link = s.link ∧ t.params = s.params ∧ t.pending = s.pending

/-- All but: act.homing, drive.direction, drive.phaseTimer, drive.stage. -/
abbrev OnlyWaking (s t : State) : Prop :=
    t.meter = s.meter ∧ t.table = s.table ∧ t.lamps = s.lamps ∧ t.heater = s.heater ∧
    t.tanks = s.tanks ∧ t.drive.owner = s.drive.owner ∧ t.drive.gap = s.drive.gap ∧
    t.drive.lastActuator = s.drive.lastActuator ∧ t.drive.lastServed = s.drive.lastServed ∧
    t.drive.stallCount = s.drive.stallCount ∧ t.drive.legTime = s.drive.legTime ∧
    t.drive.blank = s.drive.blank ∧ t.drive.stallDue = s.drive.stallDue ∧
    t.drive.braked = s.drive.braked ∧ t.motion = s.motion ∧ t.act.posMs = s.act.posMs ∧
    t.act.stepMs = s.act.stepMs ∧ t.wind = s.wind ∧ t.pins = s.pins ∧ t.time = s.time ∧
    t.link = s.link ∧ t.params = s.params ∧ t.pending = s.pending

/-- All but: heater.cabinDue, pins, tanks.senderDue, tanks.tempDue. -/
abbrev OnlyWakeFromDormant (s t : State) : Prop :=
    t.meter = s.meter ∧ t.table = s.table ∧ t.lamps = s.lamps ∧
    t.heater.state = s.heater.state ∧ t.heater.hostMode = s.heater.hostMode ∧
    t.heater.schedMode = s.heater.schedMode ∧ t.heater.frostOrigin = s.heater.frostOrigin ∧
    t.heater.ceiling = s.heater.ceiling ∧ t.heater.effective = s.heater.effective ∧
    t.heater.reading = s.heater.reading ∧ t.heater.sensor = s.heater.sensor ∧
    t.heater.thermostat = s.heater.thermostat ∧ t.heater.demand = s.heater.demand ∧
    t.heater.failed = s.heater.failed ∧ t.heater.latch = s.heater.latch ∧
    t.heater.glowDue = s.heater.glowDue ∧ t.heater.purgeDue = s.heater.purgeDue ∧
    t.tanks.recs = s.tanks.recs ∧ t.tanks.fresh = s.tanks.fresh ∧
    t.tanks.grey = s.tanks.grey ∧ t.tanks.pumpDue = s.tanks.pumpDue ∧
    t.tanks.pumpFault = s.tanks.pumpFault ∧ t.drive = s.drive ∧ t.motion = s.motion ∧
    t.act = s.act ∧ t.wind = s.wind ∧ t.time = s.time ∧ t.link = s.link ∧
    t.params = s.params ∧ t.pending = s.pending

/-- All but: act.homing, drive.braked, drive.direction, drive.owner, drive.phaseTimer, drive.stage,
heater.glowDue, heater.purgeDue, heater.state, lamps.chans, link.flags, table.granted, table.recs,
table.waiting, tanks.pumpDue. -/
abbrev OnlyStage (s t : State) : Prop :=
    t.meter = s.meter ∧ t.table.budget = s.table.budget ∧ t.table.band = s.table.band ∧
    t.table.overdraw = s.table.overdraw ∧ t.table.clear = s.table.clear ∧
    t.lamps.scenes = s.lamps.scenes ∧ t.lamps.entryDue = s.lamps.entryDue ∧
    t.heater.hostMode = s.heater.hostMode ∧ t.heater.schedMode = s.heater.schedMode ∧
    t.heater.frostOrigin = s.heater.frostOrigin ∧ t.heater.ceiling = s.heater.ceiling ∧
    t.heater.effective = s.heater.effective ∧ t.heater.reading = s.heater.reading ∧
    t.heater.sensor = s.heater.sensor ∧ t.heater.thermostat = s.heater.thermostat ∧
    t.heater.demand = s.heater.demand ∧ t.heater.failed = s.heater.failed ∧
    t.heater.latch = s.heater.latch ∧ t.heater.cabinDue = s.heater.cabinDue ∧
    t.tanks.recs = s.tanks.recs ∧ t.tanks.fresh = s.tanks.fresh ∧ t.tanks.grey = s.tanks.grey ∧
    t.tanks.senderDue = s.tanks.senderDue ∧ t.tanks.tempDue = s.tanks.tempDue ∧
    t.tanks.pumpFault = s.tanks.pumpFault ∧ t.drive.gap = s.drive.gap ∧
    t.drive.lastActuator = s.drive.lastActuator ∧ t.drive.lastServed = s.drive.lastServed ∧
    t.drive.stallCount = s.drive.stallCount ∧ t.drive.legTime = s.drive.legTime ∧
    t.drive.blank = s.drive.blank ∧ t.drive.stallDue = s.drive.stallDue ∧ t.motion = s.motion ∧
    t.act.posMs = s.act.posMs ∧ t.act.stepMs = s.act.stepMs ∧ t.wind = s.wind ∧ t.pins = s.pins ∧
    t.time = s.time ∧ t.link.rx = s.link.rx ∧ t.link.received = s.link.received ∧
    t.link.expected = s.link.expected ∧ t.link.inbox = s.link.inbox ∧
    t.link.replies = s.link.replies ∧ t.link.tx = s.link.tx ∧
    t.link.restartPending = s.link.restartPending ∧ t.link.masked = s.link.masked ∧
    t.link.hold = s.link.hold ∧ t.link.noticeCounter = s.link.noticeCounter ∧
    t.link.attended = s.link.attended ∧ t.link.silence = s.link.silence ∧ t.params = s.params ∧
    t.pending = s.pending

/-- All but: motion.awningOverride, motion.slots, motion.stepOverride. -/
abbrev OnlyMotions (s t : State) : Prop :=
    t.meter = s.meter ∧ t.table = s.table ∧ t.lamps = s.lamps ∧ t.heater = s.heater ∧
    t.tanks = s.tanks ∧ t.drive = s.drive ∧ t.motion.stepTail = s.motion.stepTail ∧
    t.motion.awningTail = s.motion.awningTail ∧ t.act = s.act ∧ t.wind = s.wind ∧
    t.pins = s.pins ∧ t.time = s.time ∧ t.link = s.link ∧ t.params = s.params ∧
    t.pending = s.pending

/-- All but: link.flags, motion.awningOverride, motion.slots, motion.stepOverride. -/
abbrev OnlyMotionsFlags (s t : State) : Prop :=
    t.meter = s.meter ∧ t.table = s.table ∧ t.lamps = s.lamps ∧ t.heater = s.heater ∧
    t.tanks = s.tanks ∧ t.drive = s.drive ∧ t.motion.stepTail = s.motion.stepTail ∧
    t.motion.awningTail = s.motion.awningTail ∧ t.act = s.act ∧ t.wind = s.wind ∧
    t.pins = s.pins ∧ t.time = s.time ∧ t.link.rx = s.link.rx ∧
    t.link.received = s.link.received ∧ t.link.expected = s.link.expected ∧
    t.link.inbox = s.link.inbox ∧ t.link.replies = s.link.replies ∧ t.link.tx = s.link.tx ∧
    t.link.restartPending = s.link.restartPending ∧ t.link.masked = s.link.masked ∧
    t.link.hold = s.link.hold ∧ t.link.noticeCounter = s.link.noticeCounter ∧
    t.link.attended = s.link.attended ∧ t.link.silence = s.link.silence ∧
    t.params = s.params ∧ t.pending = s.pending

/-- All but: act.homing, drive.braked, drive.direction, drive.owner, drive.phaseTimer, drive.stage,
heater.glowDue, heater.purgeDue, heater.state, lamps.chans, link.flags, motion.awningOverride,
motion.slots, motion.stepOverride, table.granted, table.recs, table.waiting, tanks.pumpDue. -/
abbrev OnlyComplete (s t : State) : Prop :=
    t.meter = s.meter ∧ t.table.budget = s.table.budget ∧ t.table.band = s.table.band ∧
    t.table.overdraw = s.table.overdraw ∧ t.table.clear = s.table.clear ∧
    t.lamps.scenes = s.lamps.scenes ∧ t.lamps.entryDue = s.lamps.entryDue ∧
    t.heater.hostMode = s.heater.hostMode ∧ t.heater.schedMode = s.heater.schedMode ∧
    t.heater.frostOrigin = s.heater.frostOrigin ∧ t.heater.ceiling = s.heater.ceiling ∧
    t.heater.effective = s.heater.effective ∧ t.heater.reading = s.heater.reading ∧
    t.heater.sensor = s.heater.sensor ∧ t.heater.thermostat = s.heater.thermostat ∧
    t.heater.demand = s.heater.demand ∧ t.heater.failed = s.heater.failed ∧
    t.heater.latch = s.heater.latch ∧ t.heater.cabinDue = s.heater.cabinDue ∧
    t.tanks.recs = s.tanks.recs ∧ t.tanks.fresh = s.tanks.fresh ∧ t.tanks.grey = s.tanks.grey ∧
    t.tanks.senderDue = s.tanks.senderDue ∧ t.tanks.tempDue = s.tanks.tempDue ∧
    t.tanks.pumpFault = s.tanks.pumpFault ∧ t.drive.gap = s.drive.gap ∧
    t.drive.lastActuator = s.drive.lastActuator ∧ t.drive.lastServed = s.drive.lastServed ∧
    t.drive.stallCount = s.drive.stallCount ∧ t.drive.legTime = s.drive.legTime ∧
    t.drive.blank = s.drive.blank ∧ t.drive.stallDue = s.drive.stallDue ∧
    t.motion.stepTail = s.motion.stepTail ∧ t.motion.awningTail = s.motion.awningTail ∧
    t.act.posMs = s.act.posMs ∧ t.act.stepMs = s.act.stepMs ∧ t.wind = s.wind ∧ t.pins = s.pins ∧
    t.time = s.time ∧ t.link.rx = s.link.rx ∧ t.link.received = s.link.received ∧
    t.link.expected = s.link.expected ∧ t.link.inbox = s.link.inbox ∧
    t.link.replies = s.link.replies ∧ t.link.tx = s.link.tx ∧
    t.link.restartPending = s.link.restartPending ∧ t.link.masked = s.link.masked ∧
    t.link.hold = s.link.hold ∧ t.link.noticeCounter = s.link.noticeCounter ∧
    t.link.attended = s.link.attended ∧ t.link.silence = s.link.silence ∧ t.params = s.params ∧
    t.pending = s.pending

/-- All but: act.homing, drive.braked, drive.direction, drive.owner, drive.phaseTimer, drive.stage,
heater.cabinDue, heater.glowDue, heater.purgeDue, heater.state, lamps.chans, link.flags,
motion.awningOverride, motion.slots, motion.stepOverride, pins, table.granted, table.recs,
table.waiting, tanks.pumpDue, tanks.senderDue, tanks.tempDue, time.power. -/
abbrev OnlyCompleteWake (s t : State) : Prop :=
    t.meter = s.meter ∧ t.table.budget = s.table.budget ∧ t.table.band = s.table.band ∧
    t.table.overdraw = s.table.overdraw ∧ t.table.clear = s.table.clear ∧
    t.lamps.scenes = s.lamps.scenes ∧ t.lamps.entryDue = s.lamps.entryDue ∧
    t.heater.hostMode = s.heater.hostMode ∧ t.heater.schedMode = s.heater.schedMode ∧
    t.heater.frostOrigin = s.heater.frostOrigin ∧ t.heater.ceiling = s.heater.ceiling ∧
    t.heater.effective = s.heater.effective ∧ t.heater.reading = s.heater.reading ∧
    t.heater.sensor = s.heater.sensor ∧ t.heater.thermostat = s.heater.thermostat ∧
    t.heater.demand = s.heater.demand ∧ t.heater.failed = s.heater.failed ∧
    t.heater.latch = s.heater.latch ∧ t.tanks.recs = s.tanks.recs ∧ t.tanks.fresh = s.tanks.fresh ∧
    t.tanks.grey = s.tanks.grey ∧ t.tanks.pumpFault = s.tanks.pumpFault ∧
    t.drive.gap = s.drive.gap ∧ t.drive.lastActuator = s.drive.lastActuator ∧
    t.drive.lastServed = s.drive.lastServed ∧ t.drive.stallCount = s.drive.stallCount ∧
    t.drive.legTime = s.drive.legTime ∧ t.drive.blank = s.drive.blank ∧
    t.drive.stallDue = s.drive.stallDue ∧ t.motion.stepTail = s.motion.stepTail ∧
    t.motion.awningTail = s.motion.awningTail ∧ t.act.posMs = s.act.posMs ∧
    t.act.stepMs = s.act.stepMs ∧ t.wind = s.wind ∧ t.time.tick = s.time.tick ∧
    t.time.fraction = s.time.fraction ∧ t.time.inc = s.time.inc ∧ t.time.calib = s.time.calib ∧
    t.time.crystal = s.time.crystal ∧ t.time.idleDue = s.time.idleDue ∧
    t.time.schedule = s.time.schedule ∧ t.link.rx = s.link.rx ∧ t.link.received = s.link.received ∧
    t.link.expected = s.link.expected ∧ t.link.inbox = s.link.inbox ∧
    t.link.replies = s.link.replies ∧ t.link.tx = s.link.tx ∧
    t.link.restartPending = s.link.restartPending ∧ t.link.masked = s.link.masked ∧
    t.link.hold = s.link.hold ∧ t.link.noticeCounter = s.link.noticeCounter ∧
    t.link.attended = s.link.attended ∧ t.link.silence = s.link.silence ∧ t.params = s.params ∧
    t.pending = s.pending

/-- All but: drive.blank, drive.legTime, drive.phaseTimer, drive.stage, drive.stallCount,
drive.stallDue. -/
abbrev OnlyRunning (s t : State) : Prop :=
    t.meter = s.meter ∧ t.table = s.table ∧ t.lamps = s.lamps ∧ t.heater = s.heater ∧
    t.tanks = s.tanks ∧ t.drive.owner = s.drive.owner ∧ t.drive.direction = s.drive.direction ∧
    t.drive.gap = s.drive.gap ∧ t.drive.lastActuator = s.drive.lastActuator ∧
    t.drive.lastServed = s.drive.lastServed ∧ t.drive.braked = s.drive.braked ∧
    t.motion = s.motion ∧ t.act = s.act ∧ t.wind = s.wind ∧ t.pins = s.pins ∧ t.time = s.time ∧
    t.link = s.link ∧ t.params = s.params ∧ t.pending = s.pending

/-- All but: act.homing, drive.braked, drive.direction, drive.gap, drive.lastActuator,
drive.lastServed, drive.owner, drive.phaseTimer, drive.stage, heater.glowDue, heater.purgeDue,
heater.state, lamps.chans, link.flags, motion.awningOverride, motion.slots, motion.stepOverride,
table.granted, table.recs, table.waiting, tanks.pumpDue. -/
abbrev OnlyBrakeEnd (s t : State) : Prop :=
    t.meter = s.meter ∧ t.table.budget = s.table.budget ∧ t.table.band = s.table.band ∧
    t.table.overdraw = s.table.overdraw ∧ t.table.clear = s.table.clear ∧
    t.lamps.scenes = s.lamps.scenes ∧ t.lamps.entryDue = s.lamps.entryDue ∧
    t.heater.hostMode = s.heater.hostMode ∧ t.heater.schedMode = s.heater.schedMode ∧
    t.heater.frostOrigin = s.heater.frostOrigin ∧ t.heater.ceiling = s.heater.ceiling ∧
    t.heater.effective = s.heater.effective ∧ t.heater.reading = s.heater.reading ∧
    t.heater.sensor = s.heater.sensor ∧ t.heater.thermostat = s.heater.thermostat ∧
    t.heater.demand = s.heater.demand ∧ t.heater.failed = s.heater.failed ∧
    t.heater.latch = s.heater.latch ∧ t.heater.cabinDue = s.heater.cabinDue ∧
    t.tanks.recs = s.tanks.recs ∧ t.tanks.fresh = s.tanks.fresh ∧ t.tanks.grey = s.tanks.grey ∧
    t.tanks.senderDue = s.tanks.senderDue ∧ t.tanks.tempDue = s.tanks.tempDue ∧
    t.tanks.pumpFault = s.tanks.pumpFault ∧ t.drive.stallCount = s.drive.stallCount ∧
    t.drive.legTime = s.drive.legTime ∧ t.drive.blank = s.drive.blank ∧
    t.drive.stallDue = s.drive.stallDue ∧ t.motion.stepTail = s.motion.stepTail ∧
    t.motion.awningTail = s.motion.awningTail ∧ t.act.posMs = s.act.posMs ∧
    t.act.stepMs = s.act.stepMs ∧ t.wind = s.wind ∧ t.pins = s.pins ∧ t.time = s.time ∧
    t.link.rx = s.link.rx ∧ t.link.received = s.link.received ∧ t.link.expected = s.link.expected ∧
    t.link.inbox = s.link.inbox ∧ t.link.replies = s.link.replies ∧ t.link.tx = s.link.tx ∧
    t.link.restartPending = s.link.restartPending ∧ t.link.masked = s.link.masked ∧
    t.link.hold = s.link.hold ∧ t.link.noticeCounter = s.link.noticeCounter ∧
    t.link.attended = s.link.attended ∧ t.link.silence = s.link.silence ∧ t.params = s.params ∧
    t.pending = s.pending

/-- All but: act.homing, drive.braked, drive.direction, drive.gap, drive.lastServed, drive.owner,
drive.phaseTimer, drive.stage, heater.glowDue, heater.purgeDue, heater.state, lamps.chans,
link.flags, motion.awningOverride, motion.slots, motion.stepOverride, table.granted, table.recs,
table.waiting, tanks.pumpDue. -/
abbrev OnlyGapEnd (s t : State) : Prop :=
    t.meter = s.meter ∧ t.table.budget = s.table.budget ∧ t.table.band = s.table.band ∧
    t.table.overdraw = s.table.overdraw ∧ t.table.clear = s.table.clear ∧
    t.lamps.scenes = s.lamps.scenes ∧ t.lamps.entryDue = s.lamps.entryDue ∧
    t.heater.hostMode = s.heater.hostMode ∧ t.heater.schedMode = s.heater.schedMode ∧
    t.heater.frostOrigin = s.heater.frostOrigin ∧ t.heater.ceiling = s.heater.ceiling ∧
    t.heater.effective = s.heater.effective ∧ t.heater.reading = s.heater.reading ∧
    t.heater.sensor = s.heater.sensor ∧ t.heater.thermostat = s.heater.thermostat ∧
    t.heater.demand = s.heater.demand ∧ t.heater.failed = s.heater.failed ∧
    t.heater.latch = s.heater.latch ∧ t.heater.cabinDue = s.heater.cabinDue ∧
    t.tanks.recs = s.tanks.recs ∧ t.tanks.fresh = s.tanks.fresh ∧ t.tanks.grey = s.tanks.grey ∧
    t.tanks.senderDue = s.tanks.senderDue ∧ t.tanks.tempDue = s.tanks.tempDue ∧
    t.tanks.pumpFault = s.tanks.pumpFault ∧ t.drive.lastActuator = s.drive.lastActuator ∧
    t.drive.stallCount = s.drive.stallCount ∧ t.drive.legTime = s.drive.legTime ∧
    t.drive.blank = s.drive.blank ∧ t.drive.stallDue = s.drive.stallDue ∧
    t.motion.stepTail = s.motion.stepTail ∧ t.motion.awningTail = s.motion.awningTail ∧
    t.act.posMs = s.act.posMs ∧ t.act.stepMs = s.act.stepMs ∧ t.wind = s.wind ∧ t.pins = s.pins ∧
    t.time = s.time ∧ t.link.rx = s.link.rx ∧ t.link.received = s.link.received ∧
    t.link.expected = s.link.expected ∧ t.link.inbox = s.link.inbox ∧
    t.link.replies = s.link.replies ∧ t.link.tx = s.link.tx ∧
    t.link.restartPending = s.link.restartPending ∧ t.link.masked = s.link.masked ∧
    t.link.hold = s.link.hold ∧ t.link.noticeCounter = s.link.noticeCounter ∧
    t.link.attended = s.link.attended ∧ t.link.silence = s.link.silence ∧ t.params = s.params ∧
    t.pending = s.pending

/-- All but: act, drive.legTime, drive.stallCount, drive.stallDue, motion.awningOverride,
motion.slots, motion.stepOverride. -/
abbrev OnlyMotor (s t : State) : Prop :=
    t.meter = s.meter ∧ t.table = s.table ∧ t.lamps = s.lamps ∧ t.heater = s.heater ∧
    t.tanks = s.tanks ∧ t.drive.stage = s.drive.stage ∧ t.drive.owner = s.drive.owner ∧
    t.drive.direction = s.drive.direction ∧ t.drive.phaseTimer = s.drive.phaseTimer ∧
    t.drive.gap = s.drive.gap ∧ t.drive.lastActuator = s.drive.lastActuator ∧
    t.drive.lastServed = s.drive.lastServed ∧ t.drive.blank = s.drive.blank ∧
    t.drive.braked = s.drive.braked ∧ t.motion.stepTail = s.motion.stepTail ∧
    t.motion.awningTail = s.motion.awningTail ∧ t.wind = s.wind ∧ t.pins = s.pins ∧
    t.time = s.time ∧ t.link = s.link ∧ t.params = s.params ∧ t.pending = s.pending

/-- All but: act, drive.braked, drive.direction, drive.gap, drive.lastServed, drive.legTime,
drive.owner, drive.phaseTimer, drive.stage, drive.stallCount, drive.stallDue, heater.cabinDue,
heater.glowDue, heater.purgeDue, heater.state, lamps.chans, link.flags, motion.awningOverride,
motion.slots, motion.stepOverride, pins, table.granted, table.recs, table.waiting, tanks.pumpDue,
tanks.senderDue, tanks.tempDue, time.power. -/
abbrev OnlyMillisecond (s t : State) : Prop :=
    t.meter = s.meter ∧ t.table.budget = s.table.budget ∧ t.table.band = s.table.band ∧
    t.table.overdraw = s.table.overdraw ∧ t.table.clear = s.table.clear ∧
    t.lamps.scenes = s.lamps.scenes ∧ t.lamps.entryDue = s.lamps.entryDue ∧
    t.heater.hostMode = s.heater.hostMode ∧ t.heater.schedMode = s.heater.schedMode ∧
    t.heater.frostOrigin = s.heater.frostOrigin ∧ t.heater.ceiling = s.heater.ceiling ∧
    t.heater.effective = s.heater.effective ∧ t.heater.reading = s.heater.reading ∧
    t.heater.sensor = s.heater.sensor ∧ t.heater.thermostat = s.heater.thermostat ∧
    t.heater.demand = s.heater.demand ∧ t.heater.failed = s.heater.failed ∧
    t.heater.latch = s.heater.latch ∧ t.tanks.recs = s.tanks.recs ∧ t.tanks.fresh = s.tanks.fresh ∧
    t.tanks.grey = s.tanks.grey ∧ t.tanks.pumpFault = s.tanks.pumpFault ∧
    t.drive.lastActuator = s.drive.lastActuator ∧ t.drive.blank = s.drive.blank ∧
    t.motion.stepTail = s.motion.stepTail ∧ t.motion.awningTail = s.motion.awningTail ∧
    t.wind = s.wind ∧ t.time.tick = s.time.tick ∧ t.time.fraction = s.time.fraction ∧
    t.time.inc = s.time.inc ∧ t.time.calib = s.time.calib ∧ t.time.crystal = s.time.crystal ∧
    t.time.idleDue = s.time.idleDue ∧ t.time.schedule = s.time.schedule ∧ t.link.rx = s.link.rx ∧
    t.link.received = s.link.received ∧ t.link.expected = s.link.expected ∧
    t.link.inbox = s.link.inbox ∧ t.link.replies = s.link.replies ∧ t.link.tx = s.link.tx ∧
    t.link.restartPending = s.link.restartPending ∧ t.link.masked = s.link.masked ∧
    t.link.hold = s.link.hold ∧ t.link.noticeCounter = s.link.noticeCounter ∧
    t.link.attended = s.link.attended ∧ t.link.silence = s.link.silence ∧ t.params = s.params ∧
    t.pending = s.pending

/-- All but: drive.phaseTimer, drive.stage, motion.awningOverride, motion.slots,
motion.stepOverride. -/
abbrev OnlyRetry (s t : State) : Prop :=
    t.meter = s.meter ∧ t.table = s.table ∧ t.lamps = s.lamps ∧ t.heater = s.heater ∧
    t.tanks = s.tanks ∧ t.drive.owner = s.drive.owner ∧ t.drive.direction = s.drive.direction ∧
    t.drive.gap = s.drive.gap ∧ t.drive.lastActuator = s.drive.lastActuator ∧
    t.drive.lastServed = s.drive.lastServed ∧ t.drive.stallCount = s.drive.stallCount ∧
    t.drive.legTime = s.drive.legTime ∧ t.drive.blank = s.drive.blank ∧
    t.drive.stallDue = s.drive.stallDue ∧ t.drive.braked = s.drive.braked ∧
    t.motion.stepTail = s.motion.stepTail ∧ t.motion.awningTail = s.motion.awningTail ∧
    t.act = s.act ∧ t.wind = s.wind ∧ t.pins = s.pins ∧ t.time = s.time ∧ t.link = s.link ∧
    t.params = s.params ∧ t.pending = s.pending

/-- All but: act, drive.braked, drive.direction, drive.owner, drive.phaseTimer, drive.stage,
heater.glowDue, heater.purgeDue, heater.state, lamps.chans, link.flags, motion.awningOverride,
motion.slots, motion.stepOverride, table.granted, table.recs, table.waiting, tanks.pumpDue. -/
abbrev OnlyStall (s t : State) : Prop :=
    t.meter = s.meter ∧ t.table.budget = s.table.budget ∧ t.table.band = s.table.band ∧
    t.table.overdraw = s.table.overdraw ∧ t.table.clear = s.table.clear ∧
    t.lamps.scenes = s.lamps.scenes ∧ t.lamps.entryDue = s.lamps.entryDue ∧
    t.heater.hostMode = s.heater.hostMode ∧ t.heater.schedMode = s.heater.schedMode ∧
    t.heater.frostOrigin = s.heater.frostOrigin ∧ t.heater.ceiling = s.heater.ceiling ∧
    t.heater.effective = s.heater.effective ∧ t.heater.reading = s.heater.reading ∧
    t.heater.sensor = s.heater.sensor ∧ t.heater.thermostat = s.heater.thermostat ∧
    t.heater.demand = s.heater.demand ∧ t.heater.failed = s.heater.failed ∧
    t.heater.latch = s.heater.latch ∧ t.heater.cabinDue = s.heater.cabinDue ∧
    t.tanks.recs = s.tanks.recs ∧ t.tanks.fresh = s.tanks.fresh ∧ t.tanks.grey = s.tanks.grey ∧
    t.tanks.senderDue = s.tanks.senderDue ∧ t.tanks.tempDue = s.tanks.tempDue ∧
    t.tanks.pumpFault = s.tanks.pumpFault ∧ t.drive.gap = s.drive.gap ∧
    t.drive.lastActuator = s.drive.lastActuator ∧ t.drive.lastServed = s.drive.lastServed ∧
    t.drive.stallCount = s.drive.stallCount ∧ t.drive.legTime = s.drive.legTime ∧
    t.drive.blank = s.drive.blank ∧ t.drive.stallDue = s.drive.stallDue ∧
    t.motion.stepTail = s.motion.stepTail ∧ t.motion.awningTail = s.motion.awningTail ∧
    t.wind = s.wind ∧ t.pins = s.pins ∧ t.time = s.time ∧ t.link.rx = s.link.rx ∧
    t.link.received = s.link.received ∧ t.link.expected = s.link.expected ∧
    t.link.inbox = s.link.inbox ∧ t.link.replies = s.link.replies ∧ t.link.tx = s.link.tx ∧
    t.link.restartPending = s.link.restartPending ∧ t.link.masked = s.link.masked ∧
    t.link.hold = s.link.hold ∧ t.link.noticeCounter = s.link.noticeCounter ∧
    t.link.attended = s.link.attended ∧ t.link.silence = s.link.silence ∧ t.params = s.params ∧
    t.pending = s.pending

/-- All but: act.homing, drive.braked, drive.direction, drive.owner, drive.phaseTimer, drive.stage,
heater.cabinDue, heater.glowDue, heater.purgeDue, heater.state, lamps.chans, link.flags,
motion.awningOverride, motion.slots, motion.stepOverride, pins, table.granted, table.recs,
table.waiting, tanks.pumpDue, tanks.senderDue, tanks.tempDue, time.power, wind. -/
abbrev OnlyWindJudge (s t : State) : Prop :=
    t.meter = s.meter ∧ t.table.budget = s.table.budget ∧ t.table.band = s.table.band ∧
    t.table.overdraw = s.table.overdraw ∧ t.table.clear = s.table.clear ∧
    t.lamps.scenes = s.lamps.scenes ∧ t.lamps.entryDue = s.lamps.entryDue ∧
    t.heater.hostMode = s.heater.hostMode ∧ t.heater.schedMode = s.heater.schedMode ∧
    t.heater.frostOrigin = s.heater.frostOrigin ∧ t.heater.ceiling = s.heater.ceiling ∧
    t.heater.effective = s.heater.effective ∧ t.heater.reading = s.heater.reading ∧
    t.heater.sensor = s.heater.sensor ∧ t.heater.thermostat = s.heater.thermostat ∧
    t.heater.demand = s.heater.demand ∧ t.heater.failed = s.heater.failed ∧
    t.heater.latch = s.heater.latch ∧ t.tanks.recs = s.tanks.recs ∧ t.tanks.fresh = s.tanks.fresh ∧
    t.tanks.grey = s.tanks.grey ∧ t.tanks.pumpFault = s.tanks.pumpFault ∧
    t.drive.gap = s.drive.gap ∧ t.drive.lastActuator = s.drive.lastActuator ∧
    t.drive.lastServed = s.drive.lastServed ∧ t.drive.stallCount = s.drive.stallCount ∧
    t.drive.legTime = s.drive.legTime ∧ t.drive.blank = s.drive.blank ∧
    t.drive.stallDue = s.drive.stallDue ∧ t.motion.stepTail = s.motion.stepTail ∧
    t.motion.awningTail = s.motion.awningTail ∧ t.act.posMs = s.act.posMs ∧
    t.act.stepMs = s.act.stepMs ∧ t.time.tick = s.time.tick ∧ t.time.fraction = s.time.fraction ∧
    t.time.inc = s.time.inc ∧ t.time.calib = s.time.calib ∧ t.time.crystal = s.time.crystal ∧
    t.time.idleDue = s.time.idleDue ∧ t.time.schedule = s.time.schedule ∧ t.link.rx = s.link.rx ∧
    t.link.received = s.link.received ∧ t.link.expected = s.link.expected ∧
    t.link.inbox = s.link.inbox ∧ t.link.replies = s.link.replies ∧ t.link.tx = s.link.tx ∧
    t.link.restartPending = s.link.restartPending ∧ t.link.masked = s.link.masked ∧
    t.link.hold = s.link.hold ∧ t.link.noticeCounter = s.link.noticeCounter ∧
    t.link.attended = s.link.attended ∧ t.link.silence = s.link.silence ∧ t.params = s.params ∧
    t.pending = s.pending

/-- All but: act.homing, drive.braked, drive.direction, drive.lastServed, drive.owner,
drive.phaseTimer, drive.stage, heater.cabinDue, heater.glowDue, heater.purgeDue, heater.state,
lamps.chans, link.flags, motion.awningOverride, motion.slots, motion.stepOverride, pins,
table.granted, table.recs, table.waiting, tanks.pumpDue, tanks.senderDue, tanks.tempDue,
time.power, wind. -/
abbrev OnlyWindow (s t : State) : Prop :=
    t.meter = s.meter ∧ t.table.budget = s.table.budget ∧ t.table.band = s.table.band ∧
    t.table.overdraw = s.table.overdraw ∧ t.table.clear = s.table.clear ∧
    t.lamps.scenes = s.lamps.scenes ∧ t.lamps.entryDue = s.lamps.entryDue ∧
    t.heater.hostMode = s.heater.hostMode ∧ t.heater.schedMode = s.heater.schedMode ∧
    t.heater.frostOrigin = s.heater.frostOrigin ∧ t.heater.ceiling = s.heater.ceiling ∧
    t.heater.effective = s.heater.effective ∧ t.heater.reading = s.heater.reading ∧
    t.heater.sensor = s.heater.sensor ∧ t.heater.thermostat = s.heater.thermostat ∧
    t.heater.demand = s.heater.demand ∧ t.heater.failed = s.heater.failed ∧
    t.heater.latch = s.heater.latch ∧ t.tanks.recs = s.tanks.recs ∧ t.tanks.fresh = s.tanks.fresh ∧
    t.tanks.grey = s.tanks.grey ∧ t.tanks.pumpFault = s.tanks.pumpFault ∧
    t.drive.gap = s.drive.gap ∧ t.drive.lastActuator = s.drive.lastActuator ∧
    t.drive.stallCount = s.drive.stallCount ∧ t.drive.legTime = s.drive.legTime ∧
    t.drive.blank = s.drive.blank ∧ t.drive.stallDue = s.drive.stallDue ∧
    t.motion.stepTail = s.motion.stepTail ∧ t.motion.awningTail = s.motion.awningTail ∧
    t.act.posMs = s.act.posMs ∧ t.act.stepMs = s.act.stepMs ∧ t.time.tick = s.time.tick ∧
    t.time.fraction = s.time.fraction ∧ t.time.inc = s.time.inc ∧ t.time.calib = s.time.calib ∧
    t.time.crystal = s.time.crystal ∧ t.time.idleDue = s.time.idleDue ∧
    t.time.schedule = s.time.schedule ∧ t.link.rx = s.link.rx ∧ t.link.received = s.link.received ∧
    t.link.expected = s.link.expected ∧ t.link.inbox = s.link.inbox ∧
    t.link.replies = s.link.replies ∧ t.link.tx = s.link.tx ∧
    t.link.restartPending = s.link.restartPending ∧ t.link.masked = s.link.masked ∧
    t.link.hold = s.link.hold ∧ t.link.noticeCounter = s.link.noticeCounter ∧
    t.link.attended = s.link.attended ∧ t.link.silence = s.link.silence ∧ t.params = s.params ∧
    t.pending = s.pending

/-- All but: act.homing, drive.braked, drive.direction, drive.lastServed, drive.owner,
drive.phaseTimer, drive.stage, motion. -/
abbrev OnlyDriveRestart (s t : State) : Prop :=
    t.meter = s.meter ∧ t.table = s.table ∧ t.lamps = s.lamps ∧ t.heater = s.heater ∧
    t.tanks = s.tanks ∧ t.drive.gap = s.drive.gap ∧ t.drive.lastActuator = s.drive.lastActuator ∧
    t.drive.stallCount = s.drive.stallCount ∧ t.drive.legTime = s.drive.legTime ∧
    t.drive.blank = s.drive.blank ∧ t.drive.stallDue = s.drive.stallDue ∧
    t.act.posMs = s.act.posMs ∧ t.act.stepMs = s.act.stepMs ∧ t.wind = s.wind ∧ t.pins = s.pins ∧
    t.time = s.time ∧ t.link = s.link ∧ t.params = s.params ∧ t.pending = s.pending

/-- All but: act.homing, drive.direction, drive.phaseTimer, drive.stage, heater.glowDue,
heater.purgeDue, heater.state, lamps.chans, link.flags, table.granted, table.recs, table.waiting,
tanks.pumpDue, tanks.recs, tanks.senderDue. -/
abbrev OnlySenders (s t : State) : Prop :=
    t.meter = s.meter ∧ t.table.budget = s.table.budget ∧ t.table.band = s.table.band ∧
    t.table.overdraw = s.table.overdraw ∧ t.table.clear = s.table.clear ∧
    t.lamps.scenes = s.lamps.scenes ∧ t.lamps.entryDue = s.lamps.entryDue ∧
    t.heater.hostMode = s.heater.hostMode ∧ t.heater.schedMode = s.heater.schedMode ∧
    t.heater.frostOrigin = s.heater.frostOrigin ∧ t.heater.ceiling = s.heater.ceiling ∧
    t.heater.effective = s.heater.effective ∧ t.heater.reading = s.heater.reading ∧
    t.heater.sensor = s.heater.sensor ∧ t.heater.thermostat = s.heater.thermostat ∧
    t.heater.demand = s.heater.demand ∧ t.heater.failed = s.heater.failed ∧
    t.heater.latch = s.heater.latch ∧ t.heater.cabinDue = s.heater.cabinDue ∧
    t.tanks.fresh = s.tanks.fresh ∧ t.tanks.grey = s.tanks.grey ∧
    t.tanks.tempDue = s.tanks.tempDue ∧ t.tanks.pumpFault = s.tanks.pumpFault ∧
    t.drive.owner = s.drive.owner ∧ t.drive.gap = s.drive.gap ∧
    t.drive.lastActuator = s.drive.lastActuator ∧ t.drive.lastServed = s.drive.lastServed ∧
    t.drive.stallCount = s.drive.stallCount ∧ t.drive.legTime = s.drive.legTime ∧
    t.drive.blank = s.drive.blank ∧ t.drive.stallDue = s.drive.stallDue ∧
    t.drive.braked = s.drive.braked ∧ t.motion = s.motion ∧ t.act.posMs = s.act.posMs ∧
    t.act.stepMs = s.act.stepMs ∧ t.wind = s.wind ∧ t.pins = s.pins ∧ t.time = s.time ∧
    t.link.rx = s.link.rx ∧ t.link.received = s.link.received ∧ t.link.expected = s.link.expected ∧
    t.link.inbox = s.link.inbox ∧ t.link.replies = s.link.replies ∧ t.link.tx = s.link.tx ∧
    t.link.restartPending = s.link.restartPending ∧ t.link.masked = s.link.masked ∧
    t.link.hold = s.link.hold ∧ t.link.noticeCounter = s.link.noticeCounter ∧
    t.link.attended = s.link.attended ∧ t.link.silence = s.link.silence ∧ t.params = s.params ∧
    t.pending = s.pending

/-- All but: act.homing, drive.direction, drive.phaseTimer, drive.stage, heater.glowDue,
heater.purgeDue, heater.state, lamps.chans, link.flags, table.granted, table.recs, table.waiting,
tanks.pumpDue, tanks.recs. -/
abbrev OnlyTankLevels (s t : State) : Prop :=
    t.meter = s.meter ∧ t.table.budget = s.table.budget ∧ t.table.band = s.table.band ∧
    t.table.overdraw = s.table.overdraw ∧ t.table.clear = s.table.clear ∧
    t.lamps.scenes = s.lamps.scenes ∧ t.lamps.entryDue = s.lamps.entryDue ∧
    t.heater.hostMode = s.heater.hostMode ∧ t.heater.schedMode = s.heater.schedMode ∧
    t.heater.frostOrigin = s.heater.frostOrigin ∧ t.heater.ceiling = s.heater.ceiling ∧
    t.heater.effective = s.heater.effective ∧ t.heater.reading = s.heater.reading ∧
    t.heater.sensor = s.heater.sensor ∧ t.heater.thermostat = s.heater.thermostat ∧
    t.heater.demand = s.heater.demand ∧ t.heater.failed = s.heater.failed ∧
    t.heater.latch = s.heater.latch ∧ t.heater.cabinDue = s.heater.cabinDue ∧
    t.tanks.fresh = s.tanks.fresh ∧ t.tanks.grey = s.tanks.grey ∧
    t.tanks.senderDue = s.tanks.senderDue ∧ t.tanks.tempDue = s.tanks.tempDue ∧
    t.tanks.pumpFault = s.tanks.pumpFault ∧ t.drive.owner = s.drive.owner ∧
    t.drive.gap = s.drive.gap ∧ t.drive.lastActuator = s.drive.lastActuator ∧
    t.drive.lastServed = s.drive.lastServed ∧ t.drive.stallCount = s.drive.stallCount ∧
    t.drive.legTime = s.drive.legTime ∧ t.drive.blank = s.drive.blank ∧
    t.drive.stallDue = s.drive.stallDue ∧ t.drive.braked = s.drive.braked ∧ t.motion = s.motion ∧
    t.act.posMs = s.act.posMs ∧ t.act.stepMs = s.act.stepMs ∧ t.wind = s.wind ∧ t.pins = s.pins ∧
    t.time = s.time ∧ t.link.rx = s.link.rx ∧ t.link.received = s.link.received ∧
    t.link.expected = s.link.expected ∧ t.link.inbox = s.link.inbox ∧
    t.link.replies = s.link.replies ∧ t.link.tx = s.link.tx ∧
    t.link.restartPending = s.link.restartPending ∧ t.link.masked = s.link.masked ∧
    t.link.hold = s.link.hold ∧ t.link.noticeCounter = s.link.noticeCounter ∧
    t.link.attended = s.link.attended ∧ t.link.silence = s.link.silence ∧ t.params = s.params ∧
    t.pending = s.pending

/-- All but: act.homing, drive.direction, drive.phaseTimer, drive.stage, heater.glowDue,
heater.purgeDue, heater.state, lamps.chans, link.flags, table.granted, table.recs, table.waiting,
tanks.pumpDue, tanks.pumpFault. -/
abbrev OnlyPumpFault (s t : State) : Prop :=
    t.meter = s.meter ∧ t.table.budget = s.table.budget ∧ t.table.band = s.table.band ∧
    t.table.overdraw = s.table.overdraw ∧ t.table.clear = s.table.clear ∧
    t.lamps.scenes = s.lamps.scenes ∧ t.lamps.entryDue = s.lamps.entryDue ∧
    t.heater.hostMode = s.heater.hostMode ∧ t.heater.schedMode = s.heater.schedMode ∧
    t.heater.frostOrigin = s.heater.frostOrigin ∧ t.heater.ceiling = s.heater.ceiling ∧
    t.heater.effective = s.heater.effective ∧ t.heater.reading = s.heater.reading ∧
    t.heater.sensor = s.heater.sensor ∧ t.heater.thermostat = s.heater.thermostat ∧
    t.heater.demand = s.heater.demand ∧ t.heater.failed = s.heater.failed ∧
    t.heater.latch = s.heater.latch ∧ t.heater.cabinDue = s.heater.cabinDue ∧
    t.tanks.recs = s.tanks.recs ∧ t.tanks.fresh = s.tanks.fresh ∧ t.tanks.grey = s.tanks.grey ∧
    t.tanks.senderDue = s.tanks.senderDue ∧ t.tanks.tempDue = s.tanks.tempDue ∧
    t.drive.owner = s.drive.owner ∧ t.drive.gap = s.drive.gap ∧
    t.drive.lastActuator = s.drive.lastActuator ∧ t.drive.lastServed = s.drive.lastServed ∧
    t.drive.stallCount = s.drive.stallCount ∧ t.drive.legTime = s.drive.legTime ∧
    t.drive.blank = s.drive.blank ∧ t.drive.stallDue = s.drive.stallDue ∧
    t.drive.braked = s.drive.braked ∧ t.motion = s.motion ∧ t.act.posMs = s.act.posMs ∧
    t.act.stepMs = s.act.stepMs ∧ t.wind = s.wind ∧ t.pins = s.pins ∧ t.time = s.time ∧
    t.link.rx = s.link.rx ∧ t.link.received = s.link.received ∧ t.link.expected = s.link.expected ∧
    t.link.inbox = s.link.inbox ∧ t.link.replies = s.link.replies ∧ t.link.tx = s.link.tx ∧
    t.link.restartPending = s.link.restartPending ∧ t.link.masked = s.link.masked ∧
    t.link.hold = s.link.hold ∧ t.link.noticeCounter = s.link.noticeCounter ∧
    t.link.attended = s.link.attended ∧ t.link.silence = s.link.silence ∧ t.params = s.params ∧
    t.pending = s.pending

/-- All but: act.homing, drive.direction, drive.phaseTimer, drive.stage, heater.cabinDue,
heater.ceiling, heater.demand, heater.effective, heater.frostOrigin, heater.glowDue,
heater.purgeDue, heater.state, heater.thermostat, lamps.chans, link.flags, pins, table.granted,
table.recs, table.waiting, tanks.pumpDue, tanks.senderDue, tanks.tempDue, time.power. -/
abbrev OnlyFrostFollow (s t : State) : Prop :=
    t.meter = s.meter ∧ t.table.budget = s.table.budget ∧ t.table.band = s.table.band ∧
    t.table.overdraw = s.table.overdraw ∧ t.table.clear = s.table.clear ∧
    t.lamps.scenes = s.lamps.scenes ∧ t.lamps.entryDue = s.lamps.entryDue ∧
    t.heater.hostMode = s.heater.hostMode ∧ t.heater.schedMode = s.heater.schedMode ∧
    t.heater.reading = s.heater.reading ∧ t.heater.sensor = s.heater.sensor ∧
    t.heater.failed = s.heater.failed ∧ t.heater.latch = s.heater.latch ∧
    t.tanks.recs = s.tanks.recs ∧ t.tanks.fresh = s.tanks.fresh ∧ t.tanks.grey = s.tanks.grey ∧
    t.tanks.pumpFault = s.tanks.pumpFault ∧ t.drive.owner = s.drive.owner ∧
    t.drive.gap = s.drive.gap ∧ t.drive.lastActuator = s.drive.lastActuator ∧
    t.drive.lastServed = s.drive.lastServed ∧ t.drive.stallCount = s.drive.stallCount ∧
    t.drive.legTime = s.drive.legTime ∧ t.drive.blank = s.drive.blank ∧
    t.drive.stallDue = s.drive.stallDue ∧ t.drive.braked = s.drive.braked ∧ t.motion = s.motion ∧
    t.act.posMs = s.act.posMs ∧ t.act.stepMs = s.act.stepMs ∧ t.wind = s.wind ∧
    t.time.tick = s.time.tick ∧ t.time.fraction = s.time.fraction ∧ t.time.inc = s.time.inc ∧
    t.time.calib = s.time.calib ∧ t.time.crystal = s.time.crystal ∧
    t.time.idleDue = s.time.idleDue ∧ t.time.schedule = s.time.schedule ∧ t.link.rx = s.link.rx ∧
    t.link.received = s.link.received ∧ t.link.expected = s.link.expected ∧
    t.link.inbox = s.link.inbox ∧ t.link.replies = s.link.replies ∧ t.link.tx = s.link.tx ∧
    t.link.restartPending = s.link.restartPending ∧ t.link.masked = s.link.masked ∧
    t.link.hold = s.link.hold ∧ t.link.noticeCounter = s.link.noticeCounter ∧
    t.link.attended = s.link.attended ∧ t.link.silence = s.link.silence ∧ t.params = s.params ∧
    t.pending = s.pending

/-- All but: act.homing, drive.direction, drive.phaseTimer, drive.stage, heater.cabinDue,
heater.ceiling, heater.demand, heater.effective, heater.frostOrigin, heater.glowDue,
heater.purgeDue, heater.state, heater.thermostat, lamps.chans, link.flags, pins, table.granted,
table.recs, table.waiting, tanks.fresh, tanks.pumpDue, tanks.senderDue, tanks.tempDue, time.power.
-/
abbrev OnlyFresh (s t : State) : Prop :=
    t.meter = s.meter ∧ t.table.budget = s.table.budget ∧ t.table.band = s.table.band ∧
    t.table.overdraw = s.table.overdraw ∧ t.table.clear = s.table.clear ∧
    t.lamps.scenes = s.lamps.scenes ∧ t.lamps.entryDue = s.lamps.entryDue ∧
    t.heater.hostMode = s.heater.hostMode ∧ t.heater.schedMode = s.heater.schedMode ∧
    t.heater.reading = s.heater.reading ∧ t.heater.sensor = s.heater.sensor ∧
    t.heater.failed = s.heater.failed ∧ t.heater.latch = s.heater.latch ∧
    t.tanks.recs = s.tanks.recs ∧ t.tanks.grey = s.tanks.grey ∧
    t.tanks.pumpFault = s.tanks.pumpFault ∧ t.drive.owner = s.drive.owner ∧
    t.drive.gap = s.drive.gap ∧ t.drive.lastActuator = s.drive.lastActuator ∧
    t.drive.lastServed = s.drive.lastServed ∧ t.drive.stallCount = s.drive.stallCount ∧
    t.drive.legTime = s.drive.legTime ∧ t.drive.blank = s.drive.blank ∧
    t.drive.stallDue = s.drive.stallDue ∧ t.drive.braked = s.drive.braked ∧ t.motion = s.motion ∧
    t.act.posMs = s.act.posMs ∧ t.act.stepMs = s.act.stepMs ∧ t.wind = s.wind ∧
    t.time.tick = s.time.tick ∧ t.time.fraction = s.time.fraction ∧ t.time.inc = s.time.inc ∧
    t.time.calib = s.time.calib ∧ t.time.crystal = s.time.crystal ∧
    t.time.idleDue = s.time.idleDue ∧ t.time.schedule = s.time.schedule ∧ t.link.rx = s.link.rx ∧
    t.link.received = s.link.received ∧ t.link.expected = s.link.expected ∧
    t.link.inbox = s.link.inbox ∧ t.link.replies = s.link.replies ∧ t.link.tx = s.link.tx ∧
    t.link.restartPending = s.link.restartPending ∧ t.link.masked = s.link.masked ∧
    t.link.hold = s.link.hold ∧ t.link.noticeCounter = s.link.noticeCounter ∧
    t.link.attended = s.link.attended ∧ t.link.silence = s.link.silence ∧ t.params = s.params ∧
    t.pending = s.pending

/-- All but: act.homing, drive.direction, drive.phaseTimer, drive.stage, heater.cabinDue,
heater.ceiling, heater.demand, heater.effective, heater.glowDue, heater.purgeDue, heater.state,
heater.thermostat, lamps.chans, link.flags, pins, table, tanks.pumpDue, tanks.senderDue,
tanks.tempDue, time.power. -/
abbrev OnlyMeterHandOffs (s t : State) : Prop :=
    t.meter = s.meter ∧ t.lamps.scenes = s.lamps.scenes ∧ t.lamps.entryDue = s.lamps.entryDue ∧
    t.heater.hostMode = s.heater.hostMode ∧ t.heater.schedMode = s.heater.schedMode ∧
    t.heater.frostOrigin = s.heater.frostOrigin ∧ t.heater.reading = s.heater.reading ∧
    t.heater.sensor = s.heater.sensor ∧ t.heater.failed = s.heater.failed ∧
    t.heater.latch = s.heater.latch ∧ t.tanks.recs = s.tanks.recs ∧ t.tanks.fresh = s.tanks.fresh ∧
    t.tanks.grey = s.tanks.grey ∧ t.tanks.pumpFault = s.tanks.pumpFault ∧
    t.drive.owner = s.drive.owner ∧ t.drive.gap = s.drive.gap ∧
    t.drive.lastActuator = s.drive.lastActuator ∧ t.drive.lastServed = s.drive.lastServed ∧
    t.drive.stallCount = s.drive.stallCount ∧ t.drive.legTime = s.drive.legTime ∧
    t.drive.blank = s.drive.blank ∧ t.drive.stallDue = s.drive.stallDue ∧
    t.drive.braked = s.drive.braked ∧ t.motion = s.motion ∧ t.act.posMs = s.act.posMs ∧
    t.act.stepMs = s.act.stepMs ∧ t.wind = s.wind ∧ t.time.tick = s.time.tick ∧
    t.time.fraction = s.time.fraction ∧ t.time.inc = s.time.inc ∧ t.time.calib = s.time.calib ∧
    t.time.crystal = s.time.crystal ∧ t.time.idleDue = s.time.idleDue ∧
    t.time.schedule = s.time.schedule ∧ t.link.rx = s.link.rx ∧ t.link.received = s.link.received ∧
    t.link.expected = s.link.expected ∧ t.link.inbox = s.link.inbox ∧
    t.link.replies = s.link.replies ∧ t.link.tx = s.link.tx ∧
    t.link.restartPending = s.link.restartPending ∧ t.link.masked = s.link.masked ∧
    t.link.hold = s.link.hold ∧ t.link.noticeCounter = s.link.noticeCounter ∧
    t.link.attended = s.link.attended ∧ t.link.silence = s.link.silence ∧ t.params = s.params ∧
    t.pending = s.pending

/-- All but: link.attended, link.inbox, link.replies, link.silence, link.tx, time.idleDue. -/
abbrev OnlyArrival (s t : State) : Prop :=
    t.meter = s.meter ∧ t.table = s.table ∧ t.lamps = s.lamps ∧ t.heater = s.heater ∧
    t.tanks = s.tanks ∧ t.drive = s.drive ∧ t.motion = s.motion ∧ t.act = s.act ∧
    t.wind = s.wind ∧ t.pins = s.pins ∧ t.time.tick = s.time.tick ∧
    t.time.fraction = s.time.fraction ∧ t.time.inc = s.time.inc ∧
    t.time.power = s.time.power ∧ t.time.calib = s.time.calib ∧
    t.time.crystal = s.time.crystal ∧ t.time.schedule = s.time.schedule ∧
    t.link.rx = s.link.rx ∧ t.link.received = s.link.received ∧
    t.link.expected = s.link.expected ∧ t.link.restartPending = s.link.restartPending ∧
    t.link.flags = s.link.flags ∧ t.link.masked = s.link.masked ∧
    t.link.hold = s.link.hold ∧ t.link.noticeCounter = s.link.noticeCounter ∧
    t.params = s.params ∧ t.pending = s.pending

/-- All but: act.homing, drive.direction, drive.phaseTimer, drive.stage, heater.glowDue,
heater.purgeDue, heater.state, lamps.chans, link.flags, table.granted, table.recs, table.waiting,
tanks.pumpDue, time.power. -/
abbrev OnlyEntering (s t : State) : Prop :=
    t.meter = s.meter ∧ t.table.budget = s.table.budget ∧ t.table.band = s.table.band ∧
    t.table.overdraw = s.table.overdraw ∧ t.table.clear = s.table.clear ∧
    t.lamps.scenes = s.lamps.scenes ∧ t.lamps.entryDue = s.lamps.entryDue ∧
    t.heater.hostMode = s.heater.hostMode ∧ t.heater.schedMode = s.heater.schedMode ∧
    t.heater.frostOrigin = s.heater.frostOrigin ∧ t.heater.ceiling = s.heater.ceiling ∧
    t.heater.effective = s.heater.effective ∧ t.heater.reading = s.heater.reading ∧
    t.heater.sensor = s.heater.sensor ∧ t.heater.thermostat = s.heater.thermostat ∧
    t.heater.demand = s.heater.demand ∧ t.heater.failed = s.heater.failed ∧
    t.heater.latch = s.heater.latch ∧ t.heater.cabinDue = s.heater.cabinDue ∧
    t.tanks.recs = s.tanks.recs ∧ t.tanks.fresh = s.tanks.fresh ∧ t.tanks.grey = s.tanks.grey ∧
    t.tanks.senderDue = s.tanks.senderDue ∧ t.tanks.tempDue = s.tanks.tempDue ∧
    t.tanks.pumpFault = s.tanks.pumpFault ∧ t.drive.owner = s.drive.owner ∧
    t.drive.gap = s.drive.gap ∧ t.drive.lastActuator = s.drive.lastActuator ∧
    t.drive.lastServed = s.drive.lastServed ∧ t.drive.stallCount = s.drive.stallCount ∧
    t.drive.legTime = s.drive.legTime ∧ t.drive.blank = s.drive.blank ∧
    t.drive.stallDue = s.drive.stallDue ∧ t.drive.braked = s.drive.braked ∧ t.motion = s.motion ∧
    t.act.posMs = s.act.posMs ∧ t.act.stepMs = s.act.stepMs ∧ t.wind = s.wind ∧ t.pins = s.pins ∧
    t.time.tick = s.time.tick ∧ t.time.fraction = s.time.fraction ∧ t.time.inc = s.time.inc ∧
    t.time.calib = s.time.calib ∧ t.time.crystal = s.time.crystal ∧
    t.time.idleDue = s.time.idleDue ∧ t.time.schedule = s.time.schedule ∧ t.link.rx = s.link.rx ∧
    t.link.received = s.link.received ∧ t.link.expected = s.link.expected ∧
    t.link.inbox = s.link.inbox ∧ t.link.replies = s.link.replies ∧ t.link.tx = s.link.tx ∧
    t.link.restartPending = s.link.restartPending ∧ t.link.masked = s.link.masked ∧
    t.link.hold = s.link.hold ∧ t.link.noticeCounter = s.link.noticeCounter ∧
    t.link.attended = s.link.attended ∧ t.link.silence = s.link.silence ∧ t.params = s.params ∧
    t.pending = s.pending

/-- All but: act.homing, drive.braked, drive.direction, drive.lastServed, drive.owner,
drive.phaseTimer, drive.stage, heater.cabinDue, heater.ceiling, heater.demand, heater.effective,
heater.glowDue, heater.purgeDue, heater.state, heater.thermostat, lamps.chans, link.flags, meter,
motion.awningOverride, motion.slots, motion.stepOverride, pins, table, tanks.pumpDue,
tanks.senderDue, tanks.tempDue, time.power. -/
abbrev OnlyBecomeActive (s t : State) : Prop :=
    t.lamps.scenes = s.lamps.scenes ∧ t.lamps.entryDue = s.lamps.entryDue ∧
    t.heater.hostMode = s.heater.hostMode ∧ t.heater.schedMode = s.heater.schedMode ∧
    t.heater.frostOrigin = s.heater.frostOrigin ∧ t.heater.reading = s.heater.reading ∧
    t.heater.sensor = s.heater.sensor ∧ t.heater.failed = s.heater.failed ∧
    t.heater.latch = s.heater.latch ∧ t.tanks.recs = s.tanks.recs ∧ t.tanks.fresh = s.tanks.fresh ∧
    t.tanks.grey = s.tanks.grey ∧ t.tanks.pumpFault = s.tanks.pumpFault ∧
    t.drive.gap = s.drive.gap ∧ t.drive.lastActuator = s.drive.lastActuator ∧
    t.drive.stallCount = s.drive.stallCount ∧ t.drive.legTime = s.drive.legTime ∧
    t.drive.blank = s.drive.blank ∧ t.drive.stallDue = s.drive.stallDue ∧
    t.motion.stepTail = s.motion.stepTail ∧ t.motion.awningTail = s.motion.awningTail ∧
    t.act.posMs = s.act.posMs ∧ t.act.stepMs = s.act.stepMs ∧ t.wind = s.wind ∧
    t.time.tick = s.time.tick ∧ t.time.fraction = s.time.fraction ∧ t.time.inc = s.time.inc ∧
    t.time.calib = s.time.calib ∧ t.time.crystal = s.time.crystal ∧
    t.time.idleDue = s.time.idleDue ∧ t.time.schedule = s.time.schedule ∧ t.link.rx = s.link.rx ∧
    t.link.received = s.link.received ∧ t.link.expected = s.link.expected ∧
    t.link.inbox = s.link.inbox ∧ t.link.replies = s.link.replies ∧ t.link.tx = s.link.tx ∧
    t.link.restartPending = s.link.restartPending ∧ t.link.masked = s.link.masked ∧
    t.link.hold = s.link.hold ∧ t.link.noticeCounter = s.link.noticeCounter ∧
    t.link.attended = s.link.attended ∧ t.link.silence = s.link.silence ∧ t.params = s.params ∧
    t.pending = s.pending

/-- All but: link.silence, meter, time.fraction, time.tick. -/
abbrev OnlySlowAdvance (s t : State) : Prop :=
    t.table = s.table ∧ t.lamps = s.lamps ∧ t.heater = s.heater ∧ t.tanks = s.tanks ∧
    t.drive = s.drive ∧ t.motion = s.motion ∧ t.act = s.act ∧ t.wind = s.wind ∧
    t.pins = s.pins ∧ t.time.inc = s.time.inc ∧ t.time.power = s.time.power ∧
    t.time.calib = s.time.calib ∧ t.time.crystal = s.time.crystal ∧
    t.time.idleDue = s.time.idleDue ∧ t.time.schedule = s.time.schedule ∧
    t.link.rx = s.link.rx ∧ t.link.received = s.link.received ∧
    t.link.expected = s.link.expected ∧ t.link.inbox = s.link.inbox ∧
    t.link.replies = s.link.replies ∧ t.link.tx = s.link.tx ∧
    t.link.restartPending = s.link.restartPending ∧ t.link.flags = s.link.flags ∧
    t.link.masked = s.link.masked ∧ t.link.hold = s.link.hold ∧
    t.link.noticeCounter = s.link.noticeCounter ∧ t.link.attended = s.link.attended ∧
    t.params = s.params ∧ t.pending = s.pending

/-- All but: lamps.chans, link.silence, meter, time.calib, time.tick. -/
abbrev OnlyFastTick (s t : State) : Prop :=
    t.table = s.table ∧ t.lamps.scenes = s.lamps.scenes ∧
    t.lamps.entryDue = s.lamps.entryDue ∧ t.heater = s.heater ∧ t.tanks = s.tanks ∧
    t.drive = s.drive ∧ t.motion = s.motion ∧ t.act = s.act ∧ t.wind = s.wind ∧
    t.pins = s.pins ∧ t.time.fraction = s.time.fraction ∧ t.time.inc = s.time.inc ∧
    t.time.power = s.time.power ∧ t.time.crystal = s.time.crystal ∧
    t.time.idleDue = s.time.idleDue ∧ t.time.schedule = s.time.schedule ∧
    t.link.rx = s.link.rx ∧ t.link.received = s.link.received ∧
    t.link.expected = s.link.expected ∧ t.link.inbox = s.link.inbox ∧
    t.link.replies = s.link.replies ∧ t.link.tx = s.link.tx ∧
    t.link.restartPending = s.link.restartPending ∧ t.link.flags = s.link.flags ∧
    t.link.masked = s.link.masked ∧ t.link.hold = s.link.hold ∧
    t.link.noticeCounter = s.link.noticeCounter ∧ t.link.attended = s.link.attended ∧
    t.params = s.params ∧ t.pending = s.pending

/-- All but: act.homing, drive.braked, drive.direction, drive.phaseTimer, drive.stage,
heater.cabinDue, heater.ceiling, heater.demand, heater.effective, heater.glowDue, heater.purgeDue,
heater.state, heater.thermostat, lamps.chans, lamps.entryDue, link.flags, meter, pins, table,
tanks.fresh, tanks.grey, tanks.pumpDue, tanks.senderDue, tanks.tempDue, time.fraction,
time.idleDue, time.power, time.tick, wind. -/
abbrev OnlyTimeSetInstants (s t : State) : Prop :=
    t.lamps.scenes = s.lamps.scenes ∧ t.heater.hostMode = s.heater.hostMode ∧
    t.heater.schedMode = s.heater.schedMode ∧ t.heater.frostOrigin = s.heater.frostOrigin ∧
    t.heater.reading = s.heater.reading ∧ t.heater.sensor = s.heater.sensor ∧
    t.heater.failed = s.heater.failed ∧ t.heater.latch = s.heater.latch ∧
    t.tanks.recs = s.tanks.recs ∧ t.tanks.pumpFault = s.tanks.pumpFault ∧
    t.drive.owner = s.drive.owner ∧ t.drive.gap = s.drive.gap ∧
    t.drive.lastActuator = s.drive.lastActuator ∧ t.drive.lastServed = s.drive.lastServed ∧
    t.drive.stallCount = s.drive.stallCount ∧ t.drive.legTime = s.drive.legTime ∧
    t.drive.blank = s.drive.blank ∧ t.drive.stallDue = s.drive.stallDue ∧ t.motion = s.motion ∧
    t.act.posMs = s.act.posMs ∧ t.act.stepMs = s.act.stepMs ∧ t.time.inc = s.time.inc ∧
    t.time.calib = s.time.calib ∧ t.time.crystal = s.time.crystal ∧
    t.time.schedule = s.time.schedule ∧ t.link.rx = s.link.rx ∧ t.link.received = s.link.received ∧
    t.link.expected = s.link.expected ∧ t.link.inbox = s.link.inbox ∧
    t.link.replies = s.link.replies ∧ t.link.tx = s.link.tx ∧
    t.link.restartPending = s.link.restartPending ∧ t.link.masked = s.link.masked ∧
    t.link.hold = s.link.hold ∧ t.link.noticeCounter = s.link.noticeCounter ∧
    t.link.attended = s.link.attended ∧ t.link.silence = s.link.silence ∧ t.params = s.params ∧
    t.pending = s.pending

/-- All but: act.homing, drive.braked, drive.direction, drive.lastServed, drive.owner,
drive.phaseTimer, drive.stage, heater.cabinDue, heater.ceiling, heater.demand, heater.effective,
heater.glowDue, heater.purgeDue, heater.schedMode, heater.state, heater.thermostat, lamps.chans,
lamps.entryDue, link.flags, meter, motion, pins, table, tanks.fresh, tanks.grey, tanks.pumpDue,
tanks.senderDue, tanks.tempDue, time.fraction, time.idleDue, time.power, time.schedule, time.tick,
wind. -/
abbrev OnlyTimeSet (s t : State) : Prop :=
    t.lamps.scenes = s.lamps.scenes ∧ t.heater.hostMode = s.heater.hostMode ∧
    t.heater.frostOrigin = s.heater.frostOrigin ∧ t.heater.reading = s.heater.reading ∧
    t.heater.sensor = s.heater.sensor ∧ t.heater.failed = s.heater.failed ∧
    t.heater.latch = s.heater.latch ∧ t.tanks.recs = s.tanks.recs ∧
    t.tanks.pumpFault = s.tanks.pumpFault ∧ t.drive.gap = s.drive.gap ∧
    t.drive.lastActuator = s.drive.lastActuator ∧ t.drive.stallCount = s.drive.stallCount ∧
    t.drive.legTime = s.drive.legTime ∧ t.drive.blank = s.drive.blank ∧
    t.drive.stallDue = s.drive.stallDue ∧ t.act.posMs = s.act.posMs ∧ t.act.stepMs = s.act.stepMs ∧
    t.time.inc = s.time.inc ∧ t.time.calib = s.time.calib ∧ t.time.crystal = s.time.crystal ∧
    t.link.rx = s.link.rx ∧ t.link.received = s.link.received ∧ t.link.expected = s.link.expected ∧
    t.link.inbox = s.link.inbox ∧ t.link.replies = s.link.replies ∧ t.link.tx = s.link.tx ∧
    t.link.restartPending = s.link.restartPending ∧ t.link.masked = s.link.masked ∧
    t.link.hold = s.link.hold ∧ t.link.noticeCounter = s.link.noticeCounter ∧
    t.link.attended = s.link.attended ∧ t.link.silence = s.link.silence ∧ t.params = s.params ∧
    t.pending = s.pending

/-- All but: act.homing, drive.braked, drive.direction, drive.owner, drive.phaseTimer, drive.stage,
heater.cabinDue, heater.glowDue, heater.purgeDue, heater.state, lamps.chans, link.flags,
motion.awningOverride, motion.slots, motion.stepOverride, pins, table.granted, table.recs,
table.waiting, tanks.pumpDue, tanks.recs, tanks.senderDue, tanks.tempDue, time.power. -/
abbrev OnlyIgnitionAct (s t : State) : Prop :=
    t.meter = s.meter ∧ t.table.budget = s.table.budget ∧ t.table.band = s.table.band ∧
    t.table.overdraw = s.table.overdraw ∧ t.table.clear = s.table.clear ∧
    t.lamps.scenes = s.lamps.scenes ∧ t.lamps.entryDue = s.lamps.entryDue ∧
    t.heater.hostMode = s.heater.hostMode ∧ t.heater.schedMode = s.heater.schedMode ∧
    t.heater.frostOrigin = s.heater.frostOrigin ∧ t.heater.ceiling = s.heater.ceiling ∧
    t.heater.effective = s.heater.effective ∧ t.heater.reading = s.heater.reading ∧
    t.heater.sensor = s.heater.sensor ∧ t.heater.thermostat = s.heater.thermostat ∧
    t.heater.demand = s.heater.demand ∧ t.heater.failed = s.heater.failed ∧
    t.heater.latch = s.heater.latch ∧ t.tanks.fresh = s.tanks.fresh ∧ t.tanks.grey = s.tanks.grey ∧
    t.tanks.pumpFault = s.tanks.pumpFault ∧ t.drive.gap = s.drive.gap ∧
    t.drive.lastActuator = s.drive.lastActuator ∧ t.drive.lastServed = s.drive.lastServed ∧
    t.drive.stallCount = s.drive.stallCount ∧ t.drive.legTime = s.drive.legTime ∧
    t.drive.blank = s.drive.blank ∧ t.drive.stallDue = s.drive.stallDue ∧
    t.motion.stepTail = s.motion.stepTail ∧ t.motion.awningTail = s.motion.awningTail ∧
    t.act.posMs = s.act.posMs ∧ t.act.stepMs = s.act.stepMs ∧ t.wind = s.wind ∧
    t.time.tick = s.time.tick ∧ t.time.fraction = s.time.fraction ∧ t.time.inc = s.time.inc ∧
    t.time.calib = s.time.calib ∧ t.time.crystal = s.time.crystal ∧
    t.time.idleDue = s.time.idleDue ∧ t.time.schedule = s.time.schedule ∧ t.link.rx = s.link.rx ∧
    t.link.received = s.link.received ∧ t.link.expected = s.link.expected ∧
    t.link.inbox = s.link.inbox ∧ t.link.replies = s.link.replies ∧ t.link.tx = s.link.tx ∧
    t.link.restartPending = s.link.restartPending ∧ t.link.masked = s.link.masked ∧
    t.link.hold = s.link.hold ∧ t.link.noticeCounter = s.link.noticeCounter ∧
    t.link.attended = s.link.attended ∧ t.link.silence = s.link.silence ∧ t.params = s.params ∧
    t.pending = s.pending

/-- All but: act.homing, drive.braked, drive.direction, drive.lastServed, drive.owner,
drive.phaseTimer, drive.stage, heater.cabinDue, heater.glowDue, heater.purgeDue, heater.state,
lamps.chans, link.flags, motion.awningOverride, motion.slots, motion.stepOverride, pins,
table.granted, table.recs, table.waiting, tanks.pumpDue, tanks.recs, tanks.senderDue,
tanks.tempDue, time.power. -/
abbrev OnlyIgnition (s t : State) : Prop :=
    t.meter = s.meter ∧ t.table.budget = s.table.budget ∧ t.table.band = s.table.band ∧
    t.table.overdraw = s.table.overdraw ∧ t.table.clear = s.table.clear ∧
    t.lamps.scenes = s.lamps.scenes ∧ t.lamps.entryDue = s.lamps.entryDue ∧
    t.heater.hostMode = s.heater.hostMode ∧ t.heater.schedMode = s.heater.schedMode ∧
    t.heater.frostOrigin = s.heater.frostOrigin ∧ t.heater.ceiling = s.heater.ceiling ∧
    t.heater.effective = s.heater.effective ∧ t.heater.reading = s.heater.reading ∧
    t.heater.sensor = s.heater.sensor ∧ t.heater.thermostat = s.heater.thermostat ∧
    t.heater.demand = s.heater.demand ∧ t.heater.failed = s.heater.failed ∧
    t.heater.latch = s.heater.latch ∧ t.tanks.fresh = s.tanks.fresh ∧ t.tanks.grey = s.tanks.grey ∧
    t.tanks.pumpFault = s.tanks.pumpFault ∧ t.drive.gap = s.drive.gap ∧
    t.drive.lastActuator = s.drive.lastActuator ∧ t.drive.stallCount = s.drive.stallCount ∧
    t.drive.legTime = s.drive.legTime ∧ t.drive.blank = s.drive.blank ∧
    t.drive.stallDue = s.drive.stallDue ∧ t.motion.stepTail = s.motion.stepTail ∧
    t.motion.awningTail = s.motion.awningTail ∧ t.act.posMs = s.act.posMs ∧
    t.act.stepMs = s.act.stepMs ∧ t.wind = s.wind ∧ t.time.tick = s.time.tick ∧
    t.time.fraction = s.time.fraction ∧ t.time.inc = s.time.inc ∧ t.time.calib = s.time.calib ∧
    t.time.crystal = s.time.crystal ∧ t.time.idleDue = s.time.idleDue ∧
    t.time.schedule = s.time.schedule ∧ t.link.rx = s.link.rx ∧ t.link.received = s.link.received ∧
    t.link.expected = s.link.expected ∧ t.link.inbox = s.link.inbox ∧
    t.link.replies = s.link.replies ∧ t.link.tx = s.link.tx ∧
    t.link.restartPending = s.link.restartPending ∧ t.link.masked = s.link.masked ∧
    t.link.hold = s.link.hold ∧ t.link.noticeCounter = s.link.noticeCounter ∧
    t.link.attended = s.link.attended ∧ t.link.silence = s.link.silence ∧ t.params = s.params ∧
    t.pending = s.pending

/-- All but: act.homing, drive.braked, drive.direction, drive.lastServed, drive.owner,
drive.phaseTimer, drive.stage, heater.cabinDue, heater.glowDue, heater.purgeDue, heater.state,
lamps.chans, lamps.entryDue, link.flags, motion, pins, table.granted, table.recs, table.waiting,
tanks.pumpDue, tanks.senderDue, tanks.tempDue, time.power. -/
abbrev OnlyDoor (s t : State) : Prop :=
    t.meter = s.meter ∧ t.table.budget = s.table.budget ∧ t.table.band = s.table.band ∧
    t.table.overdraw = s.table.overdraw ∧ t.table.clear = s.table.clear ∧
    t.lamps.scenes = s.lamps.scenes ∧ t.heater.hostMode = s.heater.hostMode ∧
    t.heater.schedMode = s.heater.schedMode ∧ t.heater.frostOrigin = s.heater.frostOrigin ∧
    t.heater.ceiling = s.heater.ceiling ∧ t.heater.effective = s.heater.effective ∧
    t.heater.reading = s.heater.reading ∧ t.heater.sensor = s.heater.sensor ∧
    t.heater.thermostat = s.heater.thermostat ∧ t.heater.demand = s.heater.demand ∧
    t.heater.failed = s.heater.failed ∧ t.heater.latch = s.heater.latch ∧
    t.tanks.recs = s.tanks.recs ∧ t.tanks.fresh = s.tanks.fresh ∧ t.tanks.grey = s.tanks.grey ∧
    t.tanks.pumpFault = s.tanks.pumpFault ∧ t.drive.gap = s.drive.gap ∧
    t.drive.lastActuator = s.drive.lastActuator ∧ t.drive.stallCount = s.drive.stallCount ∧
    t.drive.legTime = s.drive.legTime ∧ t.drive.blank = s.drive.blank ∧
    t.drive.stallDue = s.drive.stallDue ∧ t.act.posMs = s.act.posMs ∧ t.act.stepMs = s.act.stepMs ∧
    t.wind = s.wind ∧ t.time.tick = s.time.tick ∧ t.time.fraction = s.time.fraction ∧
    t.time.inc = s.time.inc ∧ t.time.calib = s.time.calib ∧ t.time.crystal = s.time.crystal ∧
    t.time.idleDue = s.time.idleDue ∧ t.time.schedule = s.time.schedule ∧ t.link.rx = s.link.rx ∧
    t.link.received = s.link.received ∧ t.link.expected = s.link.expected ∧
    t.link.inbox = s.link.inbox ∧ t.link.replies = s.link.replies ∧ t.link.tx = s.link.tx ∧
    t.link.restartPending = s.link.restartPending ∧ t.link.masked = s.link.masked ∧
    t.link.hold = s.link.hold ∧ t.link.noticeCounter = s.link.noticeCounter ∧
    t.link.attended = s.link.attended ∧ t.link.silence = s.link.silence ∧ t.params = s.params ∧
    t.pending = s.pending

/-- All but: act, drive.braked, drive.direction, drive.lastServed, drive.owner, drive.phaseTimer,
drive.stage, heater.cabinDue, heater.ceiling, heater.demand, heater.effective, heater.frostOrigin,
heater.glowDue, heater.purgeDue, heater.state, heater.thermostat, lamps.chans, lamps.entryDue,
link.attended, link.flags, link.silence, meter, motion, pins, table, tanks.fresh, tanks.grey,
tanks.pumpDue, tanks.recs, tanks.senderDue, tanks.tempDue, time.idleDue, time.power. -/
abbrev OnlyParamFollow (s t : State) : Prop :=
    t.lamps.scenes = s.lamps.scenes ∧ t.heater.hostMode = s.heater.hostMode ∧
    t.heater.schedMode = s.heater.schedMode ∧ t.heater.reading = s.heater.reading ∧
    t.heater.sensor = s.heater.sensor ∧ t.heater.failed = s.heater.failed ∧
    t.heater.latch = s.heater.latch ∧ t.tanks.pumpFault = s.tanks.pumpFault ∧
    t.drive.gap = s.drive.gap ∧ t.drive.lastActuator = s.drive.lastActuator ∧
    t.drive.stallCount = s.drive.stallCount ∧ t.drive.legTime = s.drive.legTime ∧
    t.drive.blank = s.drive.blank ∧ t.drive.stallDue = s.drive.stallDue ∧ t.wind = s.wind ∧
    t.time.tick = s.time.tick ∧ t.time.fraction = s.time.fraction ∧ t.time.inc = s.time.inc ∧
    t.time.calib = s.time.calib ∧ t.time.crystal = s.time.crystal ∧
    t.time.schedule = s.time.schedule ∧ t.link.rx = s.link.rx ∧ t.link.received = s.link.received ∧
    t.link.expected = s.link.expected ∧ t.link.inbox = s.link.inbox ∧
    t.link.replies = s.link.replies ∧ t.link.tx = s.link.tx ∧
    t.link.restartPending = s.link.restartPending ∧ t.link.masked = s.link.masked ∧
    t.link.hold = s.link.hold ∧ t.link.noticeCounter = s.link.noticeCounter ∧ t.params = s.params ∧
    t.pending = s.pending

/-- All but: act.homing, drive.direction, drive.phaseTimer, drive.stage, heater.failed,
heater.glowDue, heater.latch, heater.purgeDue, heater.state, lamps.chans, link.flags,
table.granted, table.recs, table.waiting, tanks.pumpDue, tanks.pumpFault. -/
abbrev OnlyClears (s t : State) : Prop :=
    t.meter = s.meter ∧ t.table.budget = s.table.budget ∧ t.table.band = s.table.band ∧
    t.table.overdraw = s.table.overdraw ∧ t.table.clear = s.table.clear ∧
    t.lamps.scenes = s.lamps.scenes ∧ t.lamps.entryDue = s.lamps.entryDue ∧
    t.heater.hostMode = s.heater.hostMode ∧ t.heater.schedMode = s.heater.schedMode ∧
    t.heater.frostOrigin = s.heater.frostOrigin ∧ t.heater.ceiling = s.heater.ceiling ∧
    t.heater.effective = s.heater.effective ∧ t.heater.reading = s.heater.reading ∧
    t.heater.sensor = s.heater.sensor ∧ t.heater.thermostat = s.heater.thermostat ∧
    t.heater.demand = s.heater.demand ∧ t.heater.cabinDue = s.heater.cabinDue ∧
    t.tanks.recs = s.tanks.recs ∧ t.tanks.fresh = s.tanks.fresh ∧ t.tanks.grey = s.tanks.grey ∧
    t.tanks.senderDue = s.tanks.senderDue ∧ t.tanks.tempDue = s.tanks.tempDue ∧
    t.drive.owner = s.drive.owner ∧ t.drive.gap = s.drive.gap ∧
    t.drive.lastActuator = s.drive.lastActuator ∧ t.drive.lastServed = s.drive.lastServed ∧
    t.drive.stallCount = s.drive.stallCount ∧ t.drive.legTime = s.drive.legTime ∧
    t.drive.blank = s.drive.blank ∧ t.drive.stallDue = s.drive.stallDue ∧
    t.drive.braked = s.drive.braked ∧ t.motion = s.motion ∧ t.act.posMs = s.act.posMs ∧
    t.act.stepMs = s.act.stepMs ∧ t.wind = s.wind ∧ t.pins = s.pins ∧ t.time = s.time ∧
    t.link.rx = s.link.rx ∧ t.link.received = s.link.received ∧ t.link.expected = s.link.expected ∧
    t.link.inbox = s.link.inbox ∧ t.link.replies = s.link.replies ∧ t.link.tx = s.link.tx ∧
    t.link.restartPending = s.link.restartPending ∧ t.link.masked = s.link.masked ∧
    t.link.hold = s.link.hold ∧ t.link.noticeCounter = s.link.noticeCounter ∧
    t.link.attended = s.link.attended ∧ t.link.silence = s.link.silence ∧ t.params = s.params ∧
    t.pending = s.pending

/-- All but: table.budget, table.clear, table.granted, table.overdraw, table.recs, table.waiting. -/
abbrev OnlyTableRestart (s t : State) : Prop :=
    t.meter = s.meter ∧ t.table.band = s.table.band ∧ t.lamps = s.lamps ∧
    t.heater = s.heater ∧ t.tanks = s.tanks ∧ t.drive = s.drive ∧ t.motion = s.motion ∧
    t.act = s.act ∧ t.wind = s.wind ∧ t.pins = s.pins ∧ t.time = s.time ∧
    t.link = s.link ∧ t.params = s.params ∧ t.pending = s.pending

/-- All but: act.homing, drive.direction, drive.phaseTimer, drive.stage, heater.ceiling,
heater.demand, heater.effective, heater.frostOrigin, heater.glowDue, heater.hostMode,
heater.purgeDue, heater.schedMode, heater.state, heater.thermostat, lamps.chans, link.flags,
table.granted, table.recs, table.waiting, tanks.pumpDue. -/
abbrev OnlyPresent (s t : State) : Prop :=
    t.meter = s.meter ∧ t.table.budget = s.table.budget ∧ t.table.band = s.table.band ∧
    t.table.overdraw = s.table.overdraw ∧ t.table.clear = s.table.clear ∧
    t.lamps.scenes = s.lamps.scenes ∧ t.lamps.entryDue = s.lamps.entryDue ∧
    t.heater.reading = s.heater.reading ∧ t.heater.sensor = s.heater.sensor ∧
    t.heater.failed = s.heater.failed ∧ t.heater.latch = s.heater.latch ∧
    t.heater.cabinDue = s.heater.cabinDue ∧ t.tanks.recs = s.tanks.recs ∧
    t.tanks.fresh = s.tanks.fresh ∧ t.tanks.grey = s.tanks.grey ∧
    t.tanks.senderDue = s.tanks.senderDue ∧ t.tanks.tempDue = s.tanks.tempDue ∧
    t.tanks.pumpFault = s.tanks.pumpFault ∧ t.drive.owner = s.drive.owner ∧
    t.drive.gap = s.drive.gap ∧ t.drive.lastActuator = s.drive.lastActuator ∧
    t.drive.lastServed = s.drive.lastServed ∧ t.drive.stallCount = s.drive.stallCount ∧
    t.drive.legTime = s.drive.legTime ∧ t.drive.blank = s.drive.blank ∧
    t.drive.stallDue = s.drive.stallDue ∧ t.drive.braked = s.drive.braked ∧ t.motion = s.motion ∧
    t.act.posMs = s.act.posMs ∧ t.act.stepMs = s.act.stepMs ∧ t.wind = s.wind ∧ t.pins = s.pins ∧
    t.time = s.time ∧ t.link.rx = s.link.rx ∧ t.link.received = s.link.received ∧
    t.link.expected = s.link.expected ∧ t.link.inbox = s.link.inbox ∧
    t.link.replies = s.link.replies ∧ t.link.tx = s.link.tx ∧
    t.link.restartPending = s.link.restartPending ∧ t.link.masked = s.link.masked ∧
    t.link.hold = s.link.hold ∧ t.link.noticeCounter = s.link.noticeCounter ∧
    t.link.attended = s.link.attended ∧ t.link.silence = s.link.silence ∧ t.params = s.params ∧
    t.pending = s.pending

/-- All but: act.homing, drive.braked, drive.direction, drive.lastServed, drive.owner,
drive.phaseTimer, drive.stage, heater.cabinDue, heater.ceiling, heater.demand, heater.effective,
heater.frostOrigin, heater.glowDue, heater.hostMode, heater.purgeDue, heater.schedMode,
heater.state, heater.thermostat, lamps.chans, lamps.entryDue, link, motion, pins, table.budget,
table.clear, table.granted, table.overdraw, table.recs, table.waiting, tanks.pumpDue,
tanks.senderDue, tanks.tempDue, time.idleDue, time.power, time.schedule. -/
abbrev OnlyRestart (s t : State) : Prop :=
    t.meter = s.meter ∧ t.table.band = s.table.band ∧ t.lamps.scenes = s.lamps.scenes ∧
    t.heater.reading = s.heater.reading ∧ t.heater.sensor = s.heater.sensor ∧
    t.heater.failed = s.heater.failed ∧ t.heater.latch = s.heater.latch ∧
    t.tanks.recs = s.tanks.recs ∧ t.tanks.fresh = s.tanks.fresh ∧ t.tanks.grey = s.tanks.grey ∧
    t.tanks.pumpFault = s.tanks.pumpFault ∧ t.drive.gap = s.drive.gap ∧
    t.drive.lastActuator = s.drive.lastActuator ∧ t.drive.stallCount = s.drive.stallCount ∧
    t.drive.legTime = s.drive.legTime ∧ t.drive.blank = s.drive.blank ∧
    t.drive.stallDue = s.drive.stallDue ∧ t.act.posMs = s.act.posMs ∧ t.act.stepMs = s.act.stepMs ∧
    t.wind = s.wind ∧ t.time.tick = s.time.tick ∧ t.time.fraction = s.time.fraction ∧
    t.time.inc = s.time.inc ∧ t.time.calib = s.time.calib ∧ t.time.crystal = s.time.crystal ∧
    t.params = s.params ∧ t.pending = s.pending

/-- All but: pins. -/
abbrev OnlyPins (s t : State) : Prop :=
    t.meter = s.meter ∧ t.table = s.table ∧ t.lamps = s.lamps ∧ t.heater = s.heater ∧
    t.tanks = s.tanks ∧ t.drive = s.drive ∧ t.motion = s.motion ∧ t.act = s.act ∧
    t.wind = s.wind ∧ t.time = s.time ∧ t.link = s.link ∧ t.params = s.params ∧
    t.pending = s.pending

/-- All but: time.idleDue. -/
abbrev OnlyTimeIdleDue (s t : State) : Prop :=
    t.meter = s.meter ∧ t.table = s.table ∧ t.lamps = s.lamps ∧ t.heater = s.heater ∧
    t.tanks = s.tanks ∧ t.drive = s.drive ∧ t.motion = s.motion ∧ t.act = s.act ∧
    t.wind = s.wind ∧ t.pins = s.pins ∧ t.time.tick = s.time.tick ∧
    t.time.fraction = s.time.fraction ∧ t.time.inc = s.time.inc ∧
    t.time.power = s.time.power ∧ t.time.calib = s.time.calib ∧
    t.time.crystal = s.time.crystal ∧ t.time.schedule = s.time.schedule ∧ t.link = s.link ∧
    t.params = s.params ∧ t.pending = s.pending

/-- All but: link.flags. -/
abbrev OnlyLinkFlags (s t : State) : Prop :=
    t.meter = s.meter ∧ t.table = s.table ∧ t.lamps = s.lamps ∧ t.heater = s.heater ∧
    t.tanks = s.tanks ∧ t.drive = s.drive ∧ t.motion = s.motion ∧ t.act = s.act ∧
    t.wind = s.wind ∧ t.pins = s.pins ∧ t.time = s.time ∧ t.link.rx = s.link.rx ∧
    t.link.received = s.link.received ∧ t.link.expected = s.link.expected ∧
    t.link.inbox = s.link.inbox ∧ t.link.replies = s.link.replies ∧ t.link.tx = s.link.tx ∧
    t.link.restartPending = s.link.restartPending ∧ t.link.masked = s.link.masked ∧
    t.link.hold = s.link.hold ∧ t.link.noticeCounter = s.link.noticeCounter ∧
    t.link.attended = s.link.attended ∧ t.link.silence = s.link.silence ∧
    t.params = s.params ∧ t.pending = s.pending

/-- All but: link.flags, time.idleDue. -/
abbrev OnlyLinkFlagsTimeIdleDue (s t : State) : Prop :=
    t.meter = s.meter ∧ t.table = s.table ∧ t.lamps = s.lamps ∧ t.heater = s.heater ∧
    t.tanks = s.tanks ∧ t.drive = s.drive ∧ t.motion = s.motion ∧ t.act = s.act ∧
    t.wind = s.wind ∧ t.pins = s.pins ∧ t.time.tick = s.time.tick ∧
    t.time.fraction = s.time.fraction ∧ t.time.inc = s.time.inc ∧
    t.time.power = s.time.power ∧ t.time.calib = s.time.calib ∧
    t.time.crystal = s.time.crystal ∧ t.time.schedule = s.time.schedule ∧
    t.link.rx = s.link.rx ∧ t.link.received = s.link.received ∧
    t.link.expected = s.link.expected ∧ t.link.inbox = s.link.inbox ∧
    t.link.replies = s.link.replies ∧ t.link.tx = s.link.tx ∧
    t.link.restartPending = s.link.restartPending ∧ t.link.masked = s.link.masked ∧
    t.link.hold = s.link.hold ∧ t.link.noticeCounter = s.link.noticeCounter ∧
    t.link.attended = s.link.attended ∧ t.link.silence = s.link.silence ∧
    t.params = s.params ∧ t.pending = s.pending

/-- All but: table.recs. -/
abbrev OnlyTableRecs (s t : State) : Prop :=
    t.meter = s.meter ∧ t.table.waiting = s.table.waiting ∧
    t.table.granted = s.table.granted ∧ t.table.budget = s.table.budget ∧
    t.table.band = s.table.band ∧ t.table.overdraw = s.table.overdraw ∧
    t.table.clear = s.table.clear ∧ t.lamps = s.lamps ∧ t.heater = s.heater ∧
    t.tanks = s.tanks ∧ t.drive = s.drive ∧ t.motion = s.motion ∧ t.act = s.act ∧
    t.wind = s.wind ∧ t.pins = s.pins ∧ t.time = s.time ∧ t.link = s.link ∧
    t.params = s.params ∧ t.pending = s.pending

/-- All but: lamps.chans. -/
abbrev OnlyLampsChans (s t : State) : Prop :=
    t.meter = s.meter ∧ t.table = s.table ∧ t.lamps.scenes = s.lamps.scenes ∧
    t.lamps.entryDue = s.lamps.entryDue ∧ t.heater = s.heater ∧ t.tanks = s.tanks ∧
    t.drive = s.drive ∧ t.motion = s.motion ∧ t.act = s.act ∧ t.wind = s.wind ∧
    t.pins = s.pins ∧ t.time = s.time ∧ t.link = s.link ∧ t.params = s.params ∧
    t.pending = s.pending

/-- All but: heater.glowDue, heater.state. -/
abbrev OnlyHeaterGlowDueHeaterState (s t : State) : Prop :=
    t.meter = s.meter ∧ t.table = s.table ∧ t.lamps = s.lamps ∧
    t.heater.hostMode = s.heater.hostMode ∧ t.heater.schedMode = s.heater.schedMode ∧
    t.heater.frostOrigin = s.heater.frostOrigin ∧ t.heater.ceiling = s.heater.ceiling ∧
    t.heater.effective = s.heater.effective ∧ t.heater.reading = s.heater.reading ∧
    t.heater.sensor = s.heater.sensor ∧ t.heater.thermostat = s.heater.thermostat ∧
    t.heater.demand = s.heater.demand ∧ t.heater.failed = s.heater.failed ∧
    t.heater.latch = s.heater.latch ∧ t.heater.purgeDue = s.heater.purgeDue ∧
    t.heater.cabinDue = s.heater.cabinDue ∧ t.tanks = s.tanks ∧ t.drive = s.drive ∧
    t.motion = s.motion ∧ t.act = s.act ∧ t.wind = s.wind ∧ t.pins = s.pins ∧
    t.time = s.time ∧ t.link = s.link ∧ t.params = s.params ∧ t.pending = s.pending

/-- All but: tanks.pumpDue. -/
abbrev OnlyTanksPumpDue (s t : State) : Prop :=
    t.meter = s.meter ∧ t.table = s.table ∧ t.lamps = s.lamps ∧ t.heater = s.heater ∧
    t.tanks.recs = s.tanks.recs ∧ t.tanks.fresh = s.tanks.fresh ∧
    t.tanks.grey = s.tanks.grey ∧ t.tanks.senderDue = s.tanks.senderDue ∧
    t.tanks.tempDue = s.tanks.tempDue ∧ t.tanks.pumpFault = s.tanks.pumpFault ∧
    t.drive = s.drive ∧ t.motion = s.motion ∧ t.act = s.act ∧ t.wind = s.wind ∧
    t.pins = s.pins ∧ t.time = s.time ∧ t.link = s.link ∧ t.params = s.params ∧
    t.pending = s.pending

/-- All but: table.waiting. -/
abbrev OnlyTableWaiting (s t : State) : Prop :=
    t.meter = s.meter ∧ t.table.recs = s.table.recs ∧ t.table.granted = s.table.granted ∧
    t.table.budget = s.table.budget ∧ t.table.band = s.table.band ∧
    t.table.overdraw = s.table.overdraw ∧ t.table.clear = s.table.clear ∧
    t.lamps = s.lamps ∧ t.heater = s.heater ∧ t.tanks = s.tanks ∧ t.drive = s.drive ∧
    t.motion = s.motion ∧ t.act = s.act ∧ t.wind = s.wind ∧ t.pins = s.pins ∧
    t.time = s.time ∧ t.link = s.link ∧ t.params = s.params ∧ t.pending = s.pending

/-- All but: table.granted. -/
abbrev OnlyTableGranted (s t : State) : Prop :=
    t.meter = s.meter ∧ t.table.recs = s.table.recs ∧ t.table.waiting = s.table.waiting ∧
    t.table.budget = s.table.budget ∧ t.table.band = s.table.band ∧
    t.table.overdraw = s.table.overdraw ∧ t.table.clear = s.table.clear ∧
    t.lamps = s.lamps ∧ t.heater = s.heater ∧ t.tanks = s.tanks ∧ t.drive = s.drive ∧
    t.motion = s.motion ∧ t.act = s.act ∧ t.wind = s.wind ∧ t.pins = s.pins ∧
    t.time = s.time ∧ t.link = s.link ∧ t.params = s.params ∧ t.pending = s.pending

/-- All but: table.recs, table.waiting. -/
abbrev OnlyTableRecsTableWaiting (s t : State) : Prop :=
    t.meter = s.meter ∧ t.table.granted = s.table.granted ∧
    t.table.budget = s.table.budget ∧ t.table.band = s.table.band ∧
    t.table.overdraw = s.table.overdraw ∧ t.table.clear = s.table.clear ∧
    t.lamps = s.lamps ∧ t.heater = s.heater ∧ t.tanks = s.tanks ∧ t.drive = s.drive ∧
    t.motion = s.motion ∧ t.act = s.act ∧ t.wind = s.wind ∧ t.pins = s.pins ∧
    t.time = s.time ∧ t.link = s.link ∧ t.params = s.params ∧ t.pending = s.pending

/-- All but: lamps.entryDue. -/
abbrev OnlyLampsEntryDue (s t : State) : Prop :=
    t.meter = s.meter ∧ t.table = s.table ∧ t.lamps.chans = s.lamps.chans ∧
    t.lamps.scenes = s.lamps.scenes ∧ t.heater = s.heater ∧ t.tanks = s.tanks ∧
    t.drive = s.drive ∧ t.motion = s.motion ∧ t.act = s.act ∧ t.wind = s.wind ∧
    t.pins = s.pins ∧ t.time = s.time ∧ t.link = s.link ∧ t.params = s.params ∧
    t.pending = s.pending

/-- All but: lamps.scenes. -/
abbrev OnlyLampsScenes (s t : State) : Prop :=
    t.meter = s.meter ∧ t.table = s.table ∧ t.lamps.chans = s.lamps.chans ∧
    t.lamps.entryDue = s.lamps.entryDue ∧ t.heater = s.heater ∧ t.tanks = s.tanks ∧
    t.drive = s.drive ∧ t.motion = s.motion ∧ t.act = s.act ∧ t.wind = s.wind ∧
    t.pins = s.pins ∧ t.time = s.time ∧ t.link = s.link ∧ t.params = s.params ∧
    t.pending = s.pending

/-- All but: heater.failed, heater.latch, link.flags. -/
abbrev OnlyHeaterFailedHeaterLatchLinkFlags (s t : State) : Prop :=
    t.meter = s.meter ∧ t.table = s.table ∧ t.lamps = s.lamps ∧
    t.heater.state = s.heater.state ∧ t.heater.hostMode = s.heater.hostMode ∧
    t.heater.schedMode = s.heater.schedMode ∧ t.heater.frostOrigin = s.heater.frostOrigin ∧
    t.heater.ceiling = s.heater.ceiling ∧ t.heater.effective = s.heater.effective ∧
    t.heater.reading = s.heater.reading ∧ t.heater.sensor = s.heater.sensor ∧
    t.heater.thermostat = s.heater.thermostat ∧ t.heater.demand = s.heater.demand ∧
    t.heater.glowDue = s.heater.glowDue ∧ t.heater.purgeDue = s.heater.purgeDue ∧
    t.heater.cabinDue = s.heater.cabinDue ∧ t.tanks = s.tanks ∧ t.drive = s.drive ∧
    t.motion = s.motion ∧ t.act = s.act ∧ t.wind = s.wind ∧ t.pins = s.pins ∧
    t.time = s.time ∧ t.link.rx = s.link.rx ∧ t.link.received = s.link.received ∧
    t.link.expected = s.link.expected ∧ t.link.inbox = s.link.inbox ∧
    t.link.replies = s.link.replies ∧ t.link.tx = s.link.tx ∧
    t.link.restartPending = s.link.restartPending ∧ t.link.masked = s.link.masked ∧
    t.link.hold = s.link.hold ∧ t.link.noticeCounter = s.link.noticeCounter ∧
    t.link.attended = s.link.attended ∧ t.link.silence = s.link.silence ∧
    t.params = s.params ∧ t.pending = s.pending

/-- All but: motion.slots. -/
abbrev OnlyMotionSlots (s t : State) : Prop :=
    t.meter = s.meter ∧ t.table = s.table ∧ t.lamps = s.lamps ∧ t.heater = s.heater ∧
    t.tanks = s.tanks ∧ t.drive = s.drive ∧ t.motion.stepTail = s.motion.stepTail ∧
    t.motion.awningTail = s.motion.awningTail ∧
    t.motion.stepOverride = s.motion.stepOverride ∧
    t.motion.awningOverride = s.motion.awningOverride ∧ t.act = s.act ∧ t.wind = s.wind ∧
    t.pins = s.pins ∧ t.time = s.time ∧ t.link = s.link ∧ t.params = s.params ∧
    t.pending = s.pending

/-- All but: motion.awningOverride, motion.stepOverride. -/
abbrev OnlyMotionAwningOverrideMotionStepOverride (s t : State) : Prop :=
    t.meter = s.meter ∧ t.table = s.table ∧ t.lamps = s.lamps ∧ t.heater = s.heater ∧
    t.tanks = s.tanks ∧ t.drive = s.drive ∧ t.motion.slots = s.motion.slots ∧
    t.motion.stepTail = s.motion.stepTail ∧ t.motion.awningTail = s.motion.awningTail ∧
    t.act = s.act ∧ t.wind = s.wind ∧ t.pins = s.pins ∧ t.time = s.time ∧
    t.link = s.link ∧ t.params = s.params ∧ t.pending = s.pending

/-- All but: motion.awningTail, motion.stepTail. -/
abbrev OnlyMotionAwningTailMotionStepTail (s t : State) : Prop :=
    t.meter = s.meter ∧ t.table = s.table ∧ t.lamps = s.lamps ∧ t.heater = s.heater ∧
    t.tanks = s.tanks ∧ t.drive = s.drive ∧ t.motion.slots = s.motion.slots ∧
    t.motion.stepOverride = s.motion.stepOverride ∧
    t.motion.awningOverride = s.motion.awningOverride ∧ t.act = s.act ∧ t.wind = s.wind ∧
    t.pins = s.pins ∧ t.time = s.time ∧ t.link = s.link ∧ t.params = s.params ∧
    t.pending = s.pending

/-- All but: act.homing, drive.braked, drive.phaseTimer, drive.stage. -/
abbrev OnlyActHomingDrivePhaseTimerDriveStage (s t : State) : Prop :=
    t.meter = s.meter ∧ t.table = s.table ∧ t.lamps = s.lamps ∧ t.heater = s.heater ∧
    t.tanks = s.tanks ∧ t.drive.owner = s.drive.owner ∧ t.drive.direction = s.drive.direction ∧
    t.drive.gap = s.drive.gap ∧ t.drive.lastActuator = s.drive.lastActuator ∧
    t.drive.lastServed = s.drive.lastServed ∧ t.drive.stallCount = s.drive.stallCount ∧
    t.drive.legTime = s.drive.legTime ∧ t.drive.blank = s.drive.blank ∧
    t.drive.stallDue = s.drive.stallDue ∧ t.motion = s.motion ∧ t.act.posMs = s.act.posMs ∧
    t.act.stepMs = s.act.stepMs ∧ t.wind = s.wind ∧ t.pins = s.pins ∧ t.time = s.time ∧
    t.link = s.link ∧ t.params = s.params ∧ t.pending = s.pending

/-- All but: motion.awningTail, motion.slots, motion.stepTail. -/
abbrev OnlyMotionAwningTailMotionSlotsMotionStepTail (s t : State) : Prop :=
    t.meter = s.meter ∧ t.table = s.table ∧ t.lamps = s.lamps ∧ t.heater = s.heater ∧
    t.tanks = s.tanks ∧ t.drive = s.drive ∧ t.motion.stepOverride = s.motion.stepOverride ∧
    t.motion.awningOverride = s.motion.awningOverride ∧ t.act = s.act ∧ t.wind = s.wind ∧
    t.pins = s.pins ∧ t.time = s.time ∧ t.link = s.link ∧ t.params = s.params ∧
    t.pending = s.pending

/-- All but: drive.phaseTimer, drive.stage. -/
abbrev OnlyDrivePhaseTimerDriveStage (s t : State) : Prop :=
    t.meter = s.meter ∧ t.table = s.table ∧ t.lamps = s.lamps ∧ t.heater = s.heater ∧
    t.tanks = s.tanks ∧ t.drive.owner = s.drive.owner ∧ t.drive.direction = s.drive.direction ∧
    t.drive.gap = s.drive.gap ∧ t.drive.lastActuator = s.drive.lastActuator ∧
    t.drive.lastServed = s.drive.lastServed ∧ t.drive.stallCount = s.drive.stallCount ∧
    t.drive.legTime = s.drive.legTime ∧ t.drive.blank = s.drive.blank ∧
    t.drive.stallDue = s.drive.stallDue ∧ t.drive.braked = s.drive.braked ∧ t.motion = s.motion ∧
    t.act = s.act ∧ t.wind = s.wind ∧ t.pins = s.pins ∧ t.time = s.time ∧ t.link = s.link ∧
    t.params = s.params ∧ t.pending = s.pending

/-- All but: act.homing, act.stepMs. -/
abbrev OnlyActHomingActStepMs (s t : State) : Prop :=
    t.meter = s.meter ∧ t.table = s.table ∧ t.lamps = s.lamps ∧ t.heater = s.heater ∧
    t.tanks = s.tanks ∧ t.drive = s.drive ∧ t.motion = s.motion ∧
    t.act.posMs = s.act.posMs ∧ t.wind = s.wind ∧ t.pins = s.pins ∧ t.time = s.time ∧
    t.link = s.link ∧ t.params = s.params ∧ t.pending = s.pending

/-- All but: act. -/
abbrev OnlyAct (s t : State) : Prop :=
    t.meter = s.meter ∧ t.table = s.table ∧ t.lamps = s.lamps ∧ t.heater = s.heater ∧
    t.tanks = s.tanks ∧ t.drive = s.drive ∧ t.motion = s.motion ∧ t.wind = s.wind ∧
    t.pins = s.pins ∧ t.time = s.time ∧ t.link = s.link ∧ t.params = s.params ∧
    t.pending = s.pending

/-- All but: drive.legTime, drive.stallCount, drive.stallDue. -/
abbrev OnlyDriveLegTimeDriveStallCount (s t : State) : Prop :=
    t.meter = s.meter ∧ t.table = s.table ∧ t.lamps = s.lamps ∧ t.heater = s.heater ∧
    t.tanks = s.tanks ∧ t.drive.stage = s.drive.stage ∧ t.drive.owner = s.drive.owner ∧
    t.drive.direction = s.drive.direction ∧ t.drive.phaseTimer = s.drive.phaseTimer ∧
    t.drive.gap = s.drive.gap ∧ t.drive.lastActuator = s.drive.lastActuator ∧
    t.drive.lastServed = s.drive.lastServed ∧ t.drive.blank = s.drive.blank ∧
    t.drive.braked = s.drive.braked ∧ t.motion = s.motion ∧ t.act = s.act ∧ t.wind = s.wind ∧
    t.pins = s.pins ∧ t.time = s.time ∧ t.link = s.link ∧ t.params = s.params ∧
    t.pending = s.pending

/-- All but: drive.gap, drive.phaseTimer. -/
abbrev OnlyDriveGapDrivePhaseTimer (s t : State) : Prop :=
    t.meter = s.meter ∧ t.table = s.table ∧ t.lamps = s.lamps ∧ t.heater = s.heater ∧
    t.tanks = s.tanks ∧ t.drive.stage = s.drive.stage ∧ t.drive.owner = s.drive.owner ∧
    t.drive.direction = s.drive.direction ∧ t.drive.lastActuator = s.drive.lastActuator ∧
    t.drive.lastServed = s.drive.lastServed ∧ t.drive.stallCount = s.drive.stallCount ∧
    t.drive.legTime = s.drive.legTime ∧ t.drive.blank = s.drive.blank ∧
    t.drive.stallDue = s.drive.stallDue ∧ t.drive.braked = s.drive.braked ∧ t.motion = s.motion ∧
    t.act = s.act ∧ t.wind = s.wind ∧ t.pins = s.pins ∧ t.time = s.time ∧ t.link = s.link ∧
    t.params = s.params ∧ t.pending = s.pending

/-- All but: act.posMs, act.stepMs. -/
abbrev OnlyActPosMsActStepMs (s t : State) : Prop :=
    t.meter = s.meter ∧ t.table = s.table ∧ t.lamps = s.lamps ∧ t.heater = s.heater ∧
    t.tanks = s.tanks ∧ t.drive = s.drive ∧ t.motion = s.motion ∧
    t.act.homing = s.act.homing ∧ t.wind = s.wind ∧ t.pins = s.pins ∧ t.time = s.time ∧
    t.link = s.link ∧ t.params = s.params ∧ t.pending = s.pending

/-- All but: act.posMs. -/
abbrev OnlyActPosMs (s t : State) : Prop :=
    t.meter = s.meter ∧ t.table = s.table ∧ t.lamps = s.lamps ∧ t.heater = s.heater ∧
    t.tanks = s.tanks ∧ t.drive = s.drive ∧ t.motion = s.motion ∧
    t.act.stepMs = s.act.stepMs ∧ t.act.homing = s.act.homing ∧ t.wind = s.wind ∧
    t.pins = s.pins ∧ t.time = s.time ∧ t.link = s.link ∧ t.params = s.params ∧
    t.pending = s.pending

/-- All but: wind. -/
abbrev OnlyWind (s t : State) : Prop :=
    t.meter = s.meter ∧ t.table = s.table ∧ t.lamps = s.lamps ∧ t.heater = s.heater ∧
    t.tanks = s.tanks ∧ t.drive = s.drive ∧ t.motion = s.motion ∧ t.act = s.act ∧
    t.pins = s.pins ∧ t.time = s.time ∧ t.link = s.link ∧ t.params = s.params ∧
    t.pending = s.pending

/-- All but: tanks.recs. -/
abbrev OnlyTanksRecs (s t : State) : Prop :=
    t.meter = s.meter ∧ t.table = s.table ∧ t.lamps = s.lamps ∧ t.heater = s.heater ∧
    t.tanks.fresh = s.tanks.fresh ∧ t.tanks.grey = s.tanks.grey ∧
    t.tanks.senderDue = s.tanks.senderDue ∧ t.tanks.tempDue = s.tanks.tempDue ∧
    t.tanks.pumpDue = s.tanks.pumpDue ∧ t.tanks.pumpFault = s.tanks.pumpFault ∧
    t.drive = s.drive ∧ t.motion = s.motion ∧ t.act = s.act ∧ t.wind = s.wind ∧
    t.pins = s.pins ∧ t.time = s.time ∧ t.link = s.link ∧ t.params = s.params ∧
    t.pending = s.pending

/-- All but: tanks.pumpFault. -/
abbrev OnlyTanksPumpFault (s t : State) : Prop :=
    t.meter = s.meter ∧ t.table = s.table ∧ t.lamps = s.lamps ∧ t.heater = s.heater ∧
    t.tanks.recs = s.tanks.recs ∧ t.tanks.fresh = s.tanks.fresh ∧
    t.tanks.grey = s.tanks.grey ∧ t.tanks.senderDue = s.tanks.senderDue ∧
    t.tanks.tempDue = s.tanks.tempDue ∧ t.tanks.pumpDue = s.tanks.pumpDue ∧
    t.drive = s.drive ∧ t.motion = s.motion ∧ t.act = s.act ∧ t.wind = s.wind ∧
    t.pins = s.pins ∧ t.time = s.time ∧ t.link = s.link ∧ t.params = s.params ∧
    t.pending = s.pending

/-- All but: tanks.fresh, tanks.grey. -/
abbrev OnlyTanksFreshTanksGrey (s t : State) : Prop :=
    t.meter = s.meter ∧ t.table = s.table ∧ t.lamps = s.lamps ∧ t.heater = s.heater ∧
    t.tanks.recs = s.tanks.recs ∧ t.tanks.senderDue = s.tanks.senderDue ∧
    t.tanks.tempDue = s.tanks.tempDue ∧ t.tanks.pumpDue = s.tanks.pumpDue ∧
    t.tanks.pumpFault = s.tanks.pumpFault ∧ t.drive = s.drive ∧ t.motion = s.motion ∧
    t.act = s.act ∧ t.wind = s.wind ∧ t.pins = s.pins ∧ t.time = s.time ∧
    t.link = s.link ∧ t.params = s.params ∧ t.pending = s.pending

/-- All but: tanks.fresh. -/
abbrev OnlyTanksFresh (s t : State) : Prop :=
    t.meter = s.meter ∧ t.table = s.table ∧ t.lamps = s.lamps ∧ t.heater = s.heater ∧
    t.tanks.recs = s.tanks.recs ∧ t.tanks.grey = s.tanks.grey ∧
    t.tanks.senderDue = s.tanks.senderDue ∧ t.tanks.tempDue = s.tanks.tempDue ∧
    t.tanks.pumpDue = s.tanks.pumpDue ∧ t.tanks.pumpFault = s.tanks.pumpFault ∧
    t.drive = s.drive ∧ t.motion = s.motion ∧ t.act = s.act ∧ t.wind = s.wind ∧
    t.pins = s.pins ∧ t.time = s.time ∧ t.link = s.link ∧ t.params = s.params ∧
    t.pending = s.pending

/-- All but: meter. -/
abbrev OnlyMeter (s t : State) : Prop :=
    t.table = s.table ∧ t.lamps = s.lamps ∧ t.heater = s.heater ∧ t.tanks = s.tanks ∧
    t.drive = s.drive ∧ t.motion = s.motion ∧ t.act = s.act ∧ t.wind = s.wind ∧
    t.pins = s.pins ∧ t.time = s.time ∧ t.link = s.link ∧ t.params = s.params ∧
    t.pending = s.pending

/-- All but: link.flags, meter. -/
abbrev OnlyLinkFlagsMeter (s t : State) : Prop :=
    t.table = s.table ∧ t.lamps = s.lamps ∧ t.heater = s.heater ∧ t.tanks = s.tanks ∧
    t.drive = s.drive ∧ t.motion = s.motion ∧ t.act = s.act ∧ t.wind = s.wind ∧
    t.pins = s.pins ∧ t.time = s.time ∧ t.link.rx = s.link.rx ∧
    t.link.received = s.link.received ∧ t.link.expected = s.link.expected ∧
    t.link.inbox = s.link.inbox ∧ t.link.replies = s.link.replies ∧ t.link.tx = s.link.tx ∧
    t.link.restartPending = s.link.restartPending ∧ t.link.masked = s.link.masked ∧
    t.link.hold = s.link.hold ∧ t.link.noticeCounter = s.link.noticeCounter ∧
    t.link.attended = s.link.attended ∧ t.link.silence = s.link.silence ∧
    t.params = s.params ∧ t.pending = s.pending

/-- All but: link.tx. -/
abbrev OnlyLinkTx (s t : State) : Prop :=
    t.meter = s.meter ∧ t.table = s.table ∧ t.lamps = s.lamps ∧ t.heater = s.heater ∧
    t.tanks = s.tanks ∧ t.drive = s.drive ∧ t.motion = s.motion ∧ t.act = s.act ∧
    t.wind = s.wind ∧ t.pins = s.pins ∧ t.time = s.time ∧ t.link.rx = s.link.rx ∧
    t.link.received = s.link.received ∧ t.link.expected = s.link.expected ∧
    t.link.inbox = s.link.inbox ∧ t.link.replies = s.link.replies ∧
    t.link.restartPending = s.link.restartPending ∧ t.link.flags = s.link.flags ∧
    t.link.masked = s.link.masked ∧ t.link.hold = s.link.hold ∧
    t.link.noticeCounter = s.link.noticeCounter ∧ t.link.attended = s.link.attended ∧
    t.link.silence = s.link.silence ∧ t.params = s.params ∧ t.pending = s.pending

/-- All but: link.replies, link.tx. -/
abbrev OnlyLinkRepliesLinkTx (s t : State) : Prop :=
    t.meter = s.meter ∧ t.table = s.table ∧ t.lamps = s.lamps ∧ t.heater = s.heater ∧
    t.tanks = s.tanks ∧ t.drive = s.drive ∧ t.motion = s.motion ∧ t.act = s.act ∧
    t.wind = s.wind ∧ t.pins = s.pins ∧ t.time = s.time ∧ t.link.rx = s.link.rx ∧
    t.link.received = s.link.received ∧ t.link.expected = s.link.expected ∧
    t.link.inbox = s.link.inbox ∧ t.link.restartPending = s.link.restartPending ∧
    t.link.flags = s.link.flags ∧ t.link.masked = s.link.masked ∧
    t.link.hold = s.link.hold ∧ t.link.noticeCounter = s.link.noticeCounter ∧
    t.link.attended = s.link.attended ∧ t.link.silence = s.link.silence ∧
    t.params = s.params ∧ t.pending = s.pending

/-- All but: link.inbox, link.replies, link.tx. -/
abbrev OnlyLinkInboxLinkRepliesLinkTx (s t : State) : Prop :=
    t.meter = s.meter ∧ t.table = s.table ∧ t.lamps = s.lamps ∧ t.heater = s.heater ∧
    t.tanks = s.tanks ∧ t.drive = s.drive ∧ t.motion = s.motion ∧ t.act = s.act ∧
    t.wind = s.wind ∧ t.pins = s.pins ∧ t.time = s.time ∧ t.link.rx = s.link.rx ∧
    t.link.received = s.link.received ∧ t.link.expected = s.link.expected ∧
    t.link.restartPending = s.link.restartPending ∧ t.link.flags = s.link.flags ∧
    t.link.masked = s.link.masked ∧ t.link.hold = s.link.hold ∧
    t.link.noticeCounter = s.link.noticeCounter ∧ t.link.attended = s.link.attended ∧
    t.link.silence = s.link.silence ∧ t.params = s.params ∧ t.pending = s.pending

/-- All but: link.attended, link.silence. -/
abbrev OnlyLinkAttendedLinkSilence (s t : State) : Prop :=
    t.meter = s.meter ∧ t.table = s.table ∧ t.lamps = s.lamps ∧ t.heater = s.heater ∧
    t.tanks = s.tanks ∧ t.drive = s.drive ∧ t.motion = s.motion ∧ t.act = s.act ∧
    t.wind = s.wind ∧ t.pins = s.pins ∧ t.time = s.time ∧ t.link.rx = s.link.rx ∧
    t.link.received = s.link.received ∧ t.link.expected = s.link.expected ∧
    t.link.inbox = s.link.inbox ∧ t.link.replies = s.link.replies ∧ t.link.tx = s.link.tx ∧
    t.link.restartPending = s.link.restartPending ∧ t.link.flags = s.link.flags ∧
    t.link.masked = s.link.masked ∧ t.link.hold = s.link.hold ∧
    t.link.noticeCounter = s.link.noticeCounter ∧ t.params = s.params ∧
    t.pending = s.pending

/-- All but: link.flags, link.noticeCounter, link.tx. -/
abbrev OnlyLinkFlagsLinkNoticeCounterLinkTx (s t : State) : Prop :=
    t.meter = s.meter ∧ t.table = s.table ∧ t.lamps = s.lamps ∧ t.heater = s.heater ∧
    t.tanks = s.tanks ∧ t.drive = s.drive ∧ t.motion = s.motion ∧ t.act = s.act ∧
    t.wind = s.wind ∧ t.pins = s.pins ∧ t.time = s.time ∧ t.link.rx = s.link.rx ∧
    t.link.received = s.link.received ∧ t.link.expected = s.link.expected ∧
    t.link.inbox = s.link.inbox ∧ t.link.replies = s.link.replies ∧
    t.link.restartPending = s.link.restartPending ∧ t.link.masked = s.link.masked ∧
    t.link.hold = s.link.hold ∧ t.link.attended = s.link.attended ∧
    t.link.silence = s.link.silence ∧ t.params = s.params ∧ t.pending = s.pending

/-- All but: link.flags, link.masked. -/
abbrev OnlyLinkFlagsLinkMasked (s t : State) : Prop :=
    t.meter = s.meter ∧ t.table = s.table ∧ t.lamps = s.lamps ∧ t.heater = s.heater ∧
    t.tanks = s.tanks ∧ t.drive = s.drive ∧ t.motion = s.motion ∧ t.act = s.act ∧
    t.wind = s.wind ∧ t.pins = s.pins ∧ t.time = s.time ∧ t.link.rx = s.link.rx ∧
    t.link.received = s.link.received ∧ t.link.expected = s.link.expected ∧
    t.link.inbox = s.link.inbox ∧ t.link.replies = s.link.replies ∧ t.link.tx = s.link.tx ∧
    t.link.restartPending = s.link.restartPending ∧ t.link.hold = s.link.hold ∧
    t.link.noticeCounter = s.link.noticeCounter ∧ t.link.attended = s.link.attended ∧
    t.link.silence = s.link.silence ∧ t.params = s.params ∧ t.pending = s.pending

/-- All but: link.silence. -/
abbrev OnlyLinkSilence (s t : State) : Prop :=
    t.meter = s.meter ∧ t.table = s.table ∧ t.lamps = s.lamps ∧ t.heater = s.heater ∧
    t.tanks = s.tanks ∧ t.drive = s.drive ∧ t.motion = s.motion ∧ t.act = s.act ∧
    t.wind = s.wind ∧ t.pins = s.pins ∧ t.time = s.time ∧ t.link.rx = s.link.rx ∧
    t.link.received = s.link.received ∧ t.link.expected = s.link.expected ∧
    t.link.inbox = s.link.inbox ∧ t.link.replies = s.link.replies ∧ t.link.tx = s.link.tx ∧
    t.link.restartPending = s.link.restartPending ∧ t.link.flags = s.link.flags ∧
    t.link.masked = s.link.masked ∧ t.link.hold = s.link.hold ∧
    t.link.noticeCounter = s.link.noticeCounter ∧ t.link.attended = s.link.attended ∧
    t.params = s.params ∧ t.pending = s.pending

/-- All but: link.hold. -/
abbrev OnlyLinkHold (s t : State) : Prop :=
    t.meter = s.meter ∧ t.table = s.table ∧ t.lamps = s.lamps ∧ t.heater = s.heater ∧
    t.tanks = s.tanks ∧ t.drive = s.drive ∧ t.motion = s.motion ∧ t.act = s.act ∧
    t.wind = s.wind ∧ t.pins = s.pins ∧ t.time = s.time ∧ t.link.rx = s.link.rx ∧
    t.link.received = s.link.received ∧ t.link.expected = s.link.expected ∧
    t.link.inbox = s.link.inbox ∧ t.link.replies = s.link.replies ∧ t.link.tx = s.link.tx ∧
    t.link.restartPending = s.link.restartPending ∧ t.link.flags = s.link.flags ∧
    t.link.masked = s.link.masked ∧ t.link.noticeCounter = s.link.noticeCounter ∧
    t.link.attended = s.link.attended ∧ t.link.silence = s.link.silence ∧
    t.params = s.params ∧ t.pending = s.pending

/-- All but: link. -/
abbrev OnlyLink (s t : State) : Prop :=
    t.meter = s.meter ∧ t.table = s.table ∧ t.lamps = s.lamps ∧ t.heater = s.heater ∧
    t.tanks = s.tanks ∧ t.drive = s.drive ∧ t.motion = s.motion ∧ t.act = s.act ∧
    t.wind = s.wind ∧ t.pins = s.pins ∧ t.time = s.time ∧ t.params = s.params ∧
    t.pending = s.pending

/-- All but: time.fraction, time.tick. -/
abbrev OnlyTimeFractionTimeTick (s t : State) : Prop :=
    t.meter = s.meter ∧ t.table = s.table ∧ t.lamps = s.lamps ∧ t.heater = s.heater ∧
    t.tanks = s.tanks ∧ t.drive = s.drive ∧ t.motion = s.motion ∧ t.act = s.act ∧
    t.wind = s.wind ∧ t.pins = s.pins ∧ t.time.inc = s.time.inc ∧
    t.time.power = s.time.power ∧ t.time.calib = s.time.calib ∧
    t.time.crystal = s.time.crystal ∧ t.time.idleDue = s.time.idleDue ∧
    t.time.schedule = s.time.schedule ∧ t.link = s.link ∧ t.params = s.params ∧
    t.pending = s.pending

/-- All but: time.calib. -/
abbrev OnlyTimeCalib (s t : State) : Prop :=
    t.meter = s.meter ∧ t.table = s.table ∧ t.lamps = s.lamps ∧ t.heater = s.heater ∧
    t.tanks = s.tanks ∧ t.drive = s.drive ∧ t.motion = s.motion ∧ t.act = s.act ∧
    t.wind = s.wind ∧ t.pins = s.pins ∧ t.time.tick = s.time.tick ∧
    t.time.fraction = s.time.fraction ∧ t.time.inc = s.time.inc ∧
    t.time.power = s.time.power ∧ t.time.crystal = s.time.crystal ∧
    t.time.idleDue = s.time.idleDue ∧ t.time.schedule = s.time.schedule ∧ t.link = s.link ∧
    t.params = s.params ∧ t.pending = s.pending

/-- All but: time.calib, time.crystal, time.inc. -/
abbrev OnlyTimeCalibTimeCrystalTimeInc (s t : State) : Prop :=
    t.meter = s.meter ∧ t.table = s.table ∧ t.lamps = s.lamps ∧ t.heater = s.heater ∧
    t.tanks = s.tanks ∧ t.drive = s.drive ∧ t.motion = s.motion ∧ t.act = s.act ∧
    t.wind = s.wind ∧ t.pins = s.pins ∧ t.time.tick = s.time.tick ∧
    t.time.fraction = s.time.fraction ∧ t.time.power = s.time.power ∧
    t.time.idleDue = s.time.idleDue ∧ t.time.schedule = s.time.schedule ∧ t.link = s.link ∧
    t.params = s.params ∧ t.pending = s.pending

/-- All but: time.schedule. -/
abbrev OnlyTimeSchedule (s t : State) : Prop :=
    t.meter = s.meter ∧ t.table = s.table ∧ t.lamps = s.lamps ∧ t.heater = s.heater ∧
    t.tanks = s.tanks ∧ t.drive = s.drive ∧ t.motion = s.motion ∧ t.act = s.act ∧
    t.wind = s.wind ∧ t.pins = s.pins ∧ t.time.tick = s.time.tick ∧
    t.time.fraction = s.time.fraction ∧ t.time.inc = s.time.inc ∧
    t.time.power = s.time.power ∧ t.time.calib = s.time.calib ∧
    t.time.crystal = s.time.crystal ∧ t.time.idleDue = s.time.idleDue ∧ t.link = s.link ∧
    t.params = s.params ∧ t.pending = s.pending

/-- All but: lamps.chans, lamps.entryDue. -/
abbrev OnlyLampsChansLampsEntryDue (s t : State) : Prop :=
    t.meter = s.meter ∧ t.table = s.table ∧ t.lamps.scenes = s.lamps.scenes ∧
    t.heater = s.heater ∧ t.tanks = s.tanks ∧ t.drive = s.drive ∧ t.motion = s.motion ∧
    t.act = s.act ∧ t.wind = s.wind ∧ t.pins = s.pins ∧ t.time = s.time ∧
    t.link = s.link ∧ t.params = s.params ∧ t.pending = s.pending

/-- All but: time.idleDue, time.power, time.schedule. -/
abbrev OnlyTimeIdleDueTimePowerTimeSchedule (s t : State) : Prop :=
    t.meter = s.meter ∧ t.table = s.table ∧ t.lamps = s.lamps ∧ t.heater = s.heater ∧
    t.tanks = s.tanks ∧ t.drive = s.drive ∧ t.motion = s.motion ∧ t.act = s.act ∧
    t.wind = s.wind ∧ t.pins = s.pins ∧ t.time.tick = s.time.tick ∧
    t.time.fraction = s.time.fraction ∧ t.time.inc = s.time.inc ∧
    t.time.calib = s.time.calib ∧ t.time.crystal = s.time.crystal ∧ t.link = s.link ∧
    t.params = s.params ∧ t.pending = s.pending

end Sys2Proof.Machine
end

