-- ==== Sys2Proof/Laws/FrameLoads.lean ====
section
/-! SUPPORT. What the operations of the flag set, of the wake, and of the Load Table with its owners leave
unchanged: one lemma for each operation. -/

namespace Sys2Proof.Machine

@[simp] theorem restartDebounce_frame (s : State) : OnlyPins s (restartDebounce s) := by
  unfold restartDebounce
  simp [OnlyPins]

@[simp] theorem wakeFromDormant_frame (s : State) : OnlyWakeFromDormant s (wakeFromDormant s) := by
  unfold wakeFromDormant
  simp [OnlyWakeFromDormant]

@[simp] theorem wake_frame (s : State) : OnlyWake s (wake s) := by
  unfold wake
  repeat' split
  all_goals simp [OnlyWake]

@[simp] theorem touchIdle_frame (s : State) : OnlyTimeIdleDue s (touchIdle s) := by
  unfold touchIdle
  simp [OnlyTimeIdleDue]

@[simp] theorem putFlag_frame (s : State) (f : Flag) (b : FlagBits) :
    OnlyLinkFlags s (putFlag s f b) := by
  unfold putFlag
  simp [OnlyLinkFlags]

@[simp] theorem raiseFlag_frame (s : State) (f : Flag) : OnlyLinkFlags s (raiseFlag s f) := by
  unfold raiseFlag
  simp [OnlyLinkFlags]

@[simp] theorem clearFlag_frame (s : State) (f : Flag) : OnlyLinkFlags s (clearFlag s f) := by
  unfold clearFlag
  simp [OnlyLinkFlags]

@[simp] theorem ariseFlag_frame (before s : State) (f : Flag) :
    OnlyLinkFlags s (ariseFlag before s f) := by
  unfold ariseFlag
  repeat' split
  all_goals simp [OnlyLinkFlags]

@[simp] theorem ariseFlags_frame (before s : State) : OnlyLinkFlags s (ariseFlags before s) := by
  unfold ariseFlags
  generalize conditionFlags = l
  induction l generalizing s with
  | nil => simp [OnlyLinkFlags]
  | cons a l ih => simp [OnlyLinkFlags, ih]

@[simp] theorem settleIdle_frame (s : State) : OnlyTimeIdleDue s (settleIdle s) := by
  unfold settleIdle
  repeat' split
  all_goals simp [OnlyTimeIdleDue]

@[simp] theorem settle_frame (before s : State) : OnlyLinkFlagsTimeIdleDue s (settle before s) := by
  unfold settle
  simp [OnlyLinkFlagsTimeIdleDue]

/-! ## The owners of loads -/

@[simp] theorem setRec_frame (s : State) (ch : Channel) (r : LoadRec) :
    OnlyTableRecs s (setRec s ch r) := by
  unfold setRec
  simp [OnlyTableRecs]

@[simp] theorem setOrigins_frame (s : State) (ch : Channel) (o : OriginSet) :
    OnlyTableRecs s (setOrigins s ch o) := by
  unfold setOrigins
  simp [OnlyTableRecs]

@[simp] theorem putOrigin_frame (s : State) (ch : Channel) (k : Origin) (v : Option Nat) :
    OnlyTableRecs s (putOrigin s ch k v) := by
  unfold putOrigin
  simp [OnlyTableRecs]

@[simp] theorem setLamp_frame (s : State) (i : Fin 6) (x : Lamp) :
    OnlyLampsChans s (setLamp s i x) := by
  unfold setLamp
  simp [OnlyLampsChans]

@[simp] theorem retarget_frame (s : State) (i : Fin 6) : OnlyLampsChans s (retarget s i) := by
  simp [OnlyLampsChans, retarget]

@[simp] theorem darken_frame (s : State) (i : Fin 6) : OnlyLampsChans s (darken s i) := by
  unfold darken
  simp [OnlyLampsChans]

@[simp] theorem recomputeLamp_frame (s : State) (i : Fin 6) :
    OnlyLampsChans s (recomputeLamp s i) := by
  simp [OnlyLampsChans, recomputeLamp]

@[simp] theorem recomputeLamps_frame (s : State) : OnlyLampsChans s (recomputeLamps s) := by
  unfold recomputeLamps
  generalize allLamps = l
  induction l generalizing s with
  | nil => simp [OnlyLampsChans]
  | cons a l ih => simp [OnlyLampsChans, ih]

@[simp] theorem lampHandOff_frame (before again : List Channel) (s : State) (i : Fin 6) :
    OnlyLampsChans s (lampHandOff before again s i) := by
  unfold lampHandOff
  repeat' split
  all_goals simp [OnlyLampsChans]

@[simp] theorem heaterHandOff_frame (s : State) :
    OnlyHeaterGlowDueHeaterState s (heaterHandOff s) := by
  unfold heaterHandOff
  repeat' split
  all_goals simp [OnlyHeaterGlowDueHeaterState]

@[simp] theorem enterPurging_frame (s : State) : OnlyHeaterPhase s (enterPurging s) := by
  unfold enterPurging
  simp [OnlyHeaterPhase]

@[simp] theorem pumpHandOff_frame (again : List Channel) (s : State) :
    OnlyTanksPumpDue s (pumpHandOff again s) := by
  unfold pumpHandOff
  repeat' split
  all_goals simp [OnlyTanksPumpDue]

@[simp] theorem enterWaking_frame (s : State) (o : Owner) : OnlyWaking s (enterWaking s o) := by
  simp only [enterWaking]
  split <;> simp [OnlyWaking]

@[simp] theorem driveHandOff_frame (s : State) : OnlyWaking s (driveHandOff s) := by
  unfold driveHandOff
  repeat' split
  all_goals simp [OnlyWaking]

@[simp] theorem lampHandOffs_frame (before again : List Channel) (l : List (Fin 6)) (s : State) :
    OnlyLampsChans s (l.foldl (lampHandOff before again) s) := by
  induction l generalizing s with
  | nil => simp [OnlyLampsChans]
  | cons a l ih => simp [OnlyLampsChans, ih]

@[simp] theorem handOff_frame (before again : List Channel) (s : State) :
    OnlyHandOff s (handOff before again s) := by
  unfold handOff
  simp [OnlyHandOff]

/-! ## The walk -/

@[simp] theorem setWaiting_frame (s : State) (l : List Channel) :
    OnlyTableWaiting s (setWaiting s l) := by
  unfold setWaiting
  simp [OnlyTableWaiting]

@[simp] theorem setGranted_frame (s : State) (l : List Channel) :
    OnlyTableGranted s (setGranted s l) := by
  unfold setGranted
  simp [OnlyTableGranted]

@[simp] theorem putInOrder_frame (s : State) (ch : Channel) :
    OnlyTableWaiting s (putInOrder s ch) := by
  unfold putInOrder
  repeat' split
  all_goals simp [OnlyTableWaiting]

@[simp] theorem startWaiting_frame (s : State) (ch : Channel) :
    OnlyTableRecsTableWaiting s (startWaiting s ch) := by
  unfold startWaiting
  simp [OnlyTableRecsTableWaiting]

@[simp] theorem grant_frame (s : State) (ch : Channel) : OnlyLists s (grant s ch) := by
  unfold grant
  simp [OnlyLists]

@[simp] theorem grantIfZero_frame (s : State) (ch : Channel) : OnlyLists s (grantIfZero s ch) := by
  unfold grantIfZero
  repeat' split
  all_goals simp [OnlyLists]

@[simp] theorem walkStep1_frame (s : State) : OnlyLists s (walkStep1 s) := by
  unfold walkStep1
  generalize channels = l
  induction l generalizing s with
  | nil => simp [OnlyLists]
  | cons a l ih => simp [OnlyLists, ih]

@[simp] theorem shedRecord_frame (s : State) (ch : Channel) : OnlySheds s (shedRecord s ch) := by
  simp only [shedRecord]
  split <;> simp [OnlySheds]

@[simp] theorem shedWhile_frame (pick : State → Option Channel) (n : Nat) (s : State) :
    OnlySheds s (shedWhile pick n s) := by
  induction n generalizing s with
  | zero => simp [OnlySheds, shedWhile]
  | succ n ih =>
    unfold shedWhile
    split
    · simp [OnlySheds]
    · simp [OnlySheds, ih]

@[simp] theorem walkStep2_frame (s : State) : OnlyWalk s (walkStep2 s) := by
  simp only [walkStep2]
  split <;> simp [OnlyWalk]

@[simp] theorem walkStep3_frame (l : List Channel) (s : State) : OnlyLists s (walkStep3 l s) := by
  induction l generalizing s with
  | nil => simp [OnlyLists, walkStep3]
  | cons ch rest ih =>
    unfold walkStep3
    repeat' split
    all_goals simp [OnlyLists, ih]

@[simp] theorem walk_frame (s : State) : OnlyWalk s (walk s) := by
  simp [OnlyWalk, walk]

@[simp] theorem dropIdle_frame (s : State) : OnlyLists s (dropIdle s) := by
  unfold dropIdle
  simp [OnlyLists]

@[simp] theorem foldPutInOrder_frame (l : List Channel) (s : State) :
    OnlyTableWaiting s (l.foldl putInOrder s) := by
  induction l generalizing s with
  | nil => simp [OnlyTableWaiting]
  | cons a l ih => simp [OnlyTableWaiting, ih]

@[simp] theorem moveReclassed_frame (before s : State) :
    OnlyTableWaiting s (moveReclassed before s) := by
  simp [OnlyTableWaiting, moveReclassed, -List.foldl_reverse]

@[simp] theorem enterIfNew_frame (s : State) (ch : Channel) :
    OnlyTableRecsTableWaiting s (enterIfNew s ch) := by
  unfold enterIfNew
  repeat' split
  all_goals simp [OnlyTableRecsTableWaiting]

@[simp] theorem foldEnterIfNew_frame (l : List Channel) (s : State) :
    OnlyTableRecsTableWaiting s (l.foldl enterIfNew s) := by
  induction l generalizing s with
  | nil => simp [OnlyTableRecsTableWaiting]
  | cons a l ih => simp [OnlyTableRecsTableWaiting, ih]

@[simp] theorem relist_frame (before s : State) : OnlyLists s (relist before s) := by
  unfold relist
  simp [OnlyLists]

@[simp] theorem runWalk_frame (n : Nat) (before : List Channel) (s : State) :
    OnlyLoads s (runWalk n before s) := by
  induction n generalizing before s with
  | zero => simp [OnlyLoads, runWalk]
  | succ n ih =>
    simp only [runWalk]
    split
    · simp [OnlyLoads]
    · simp [OnlyLoads, ih]

@[simp] theorem reevaluate_frame (before s : State) : OnlyLoads s (reevaluate before s) := by
  simp only [reevaluate]
  split <;> simp [OnlyLoads]

@[simp] theorem reevaluateAlways_frame (before s : State) :
    OnlyLoads s (reevaluateAlways before s) := by
  unfold reevaluateAlways
  simp [OnlyLoads]

@[simp] theorem followLamps_frame (before s : State) : OnlyLampsChans s (followLamps before s) := by
  unfold followLamps
  refine foldl_keeps (fun t =>
      OnlyLampsChans s t) _ _ _ (by simp [OnlyLampsChans]) ?_
  intro t a h
  split <;> simp [OnlyLampsChans, h]

@[simp] theorem originEvent_frame (before s : State) : OnlyLoads s (originEvent before s) := by
  unfold originEvent
  simp [OnlyLoads]

@[simp] theorem recomputeBudget_frame (s : State) : OnlyBudget s (recomputeBudget s) := by
  unfold recomputeBudget
  simp [OnlyBudget]

@[simp] theorem bandToTable_frame (s : State) : OnlyBandBudget s (bandToTable s) := by
  simp [OnlyBandBudget, bandToTable]

@[simp] theorem overdrawShed_frame (s : State) : OnlyLoads s (overdrawShed s) := by
  unfold overdrawShed
  repeat' split
  all_goals simp [OnlyLoads]

@[simp] theorem releaseHolds_frame (s : State) : OnlyLoads s (releaseHolds s) := by
  unfold releaseHolds
  repeat' split
  all_goals simp [OnlyLoads]

@[simp] theorem overdrawCheck_frame (current : Int) (s : State) :
    OnlyOverdraw s (overdrawCheck current s) := by
  unfold overdrawCheck
  repeat' split
  all_goals simp [OnlyOverdraw]

@[simp] theorem enforcePumpGuard_frame (s : State) : OnlyLoads s (enforcePumpGuard s) := by
  unfold enforcePumpGuard
  repeat' split
  all_goals simp [OnlyLoads]

@[simp] theorem loadDemandOp_frame (k : Origin) (channel level : Byte) (s : State) :
    OnlyLoads s ((loadDemandOp k channel level s).2) := by
  simp only [loadDemandOp]
  repeat' split
  all_goals simp [OnlyLoads]

@[simp] theorem foldWithdrawHost_frame (s : State) (l : List Channel) (t : State) :
    OnlyTableRecs t (l.foldl (fun u ch => if demandClass s ch = some 3 then putOrigin u ch .host none else u) t) := by
  induction l generalizing t with
  | nil => simp [OnlyTableRecs]
  | cons a l ih =>
    simp only [List.foldl_cons]
    split <;> simp [OnlyTableRecs, ih]

@[simp] theorem withdrawSilentHost_frame (s : State) : OnlyLoads s (withdrawSilentHost s) := by
  unfold withdrawSilentHost
  simp [OnlyLoads]

/-! ## Lamps and heater -/

@[simp] theorem lampsFollowCap_frame (s : State) : OnlyLoads s (lampsFollowCap s) := by
  unfold lampsFollowCap
  simp [OnlyLoads]

@[simp] theorem lampsFollowDraw_frame (s : State) : OnlyLoads s (lampsFollowDraw s) := by
  unfold lampsFollowDraw
  simp [OnlyLoads]

@[simp] theorem foldRetarget_frame (l : List (Fin 6)) (s : State) :
    OnlyLampsChans s (l.foldl retarget s) := by
  induction l generalizing s with
  | nil => simp [OnlyLampsChans]
  | cons a l ih => simp [OnlyLampsChans, ih]

@[simp] theorem foldDarken_frame (l : List (Fin 6)) (s : State) :
    OnlyLampsChans s (l.foldl darken s) := by
  induction l generalizing s with
  | nil => simp [OnlyLampsChans]
  | cons a l ih => simp [OnlyLampsChans, ih]

@[simp] theorem lampsRetarget_frame (s : State) : OnlyLoads s (lampsRetarget s) := by
  unfold lampsRetarget
  simp [OnlyLoads]

@[simp] theorem lampsDark_frame (s : State) : OnlyLoads s (lampsDark s) := by
  unfold lampsDark
  simp [OnlyLoads]

@[simp] theorem lampsTick_frame (s : State) : OnlyLampsChans s (lampsTick s) := by
  unfold lampsTick
  simp [OnlyLampsChans]

@[simp] theorem fadeEndOp_frame (i : Fin 6) (s : State) : OnlyLoads s (fadeEndOp i s) := by
  unfold fadeEndOp
  simp [OnlyLoads]

@[simp] theorem wallPress_frame (i : Fin 6) (s : State) : OnlyLoads s (wallPress i s) := by
  simp only [wallPress]
  split <;> simp [OnlyLoads]

@[simp] theorem setEntryDue_frame (s : State) (t : Option Tick) :
    OnlyLampsEntryDue s (setEntryDue s t) := by
  unfold setEntryDue
  simp [OnlyLampsEntryDue]

@[simp] theorem entryDoor_frame (rising : Bool) (s : State) : OnlyEntry s (entryDoor rising s) := by
  unfold entryDoor
  repeat' split
  all_goals simp [OnlyEntry]

@[simp] theorem entryWithdraw_frame (s : State) : OnlyEntry s (entryWithdraw s) := by
  unfold entryWithdraw
  repeat' split
  all_goals simp [OnlyEntry]

@[simp] theorem recallEntry_frame (scene : Vector (Option Nat) 6) (s : State) (i : Fin 6) :
    OnlyTableRecs s (recallEntry scene s i) := by
  unfold recallEntry
  repeat' split
  all_goals simp [OnlyTableRecs]

@[simp] theorem foldRecallEntry_frame (scene : Vector (Option Nat) 6) (l : List (Fin 6))
    (s : State) :
    OnlyTableRecs s (l.foldl (recallEntry scene) s) := by
  induction l generalizing s with
  | nil => simp [OnlyTableRecs]
  | cons a l ih => simp [OnlyTableRecs, ih]

@[simp] theorem sceneRecallOp_frame (number : Byte) (s : State) :
    OnlyLoads s ((sceneRecallOp number s).2) := by
  unfold sceneRecallOp
  repeat' split
  all_goals simp [OnlyLoads]

@[simp] theorem sceneSelectEdge_frame (rising : Bool) (s : State) :
    OnlyLoads s (sceneSelectEdge rising s) := by
  simp only [sceneSelectEdge]
  repeat' split
  all_goals simp [OnlyLoads]

@[simp] theorem sceneStoreOp_frame (number : Byte) (s : State) :
    OnlyLampsScenes s ((sceneStoreOp number s).2) := by
  unfold sceneStoreOp
  repeat' split
  all_goals simp [OnlyLampsScenes]

@[simp] theorem heaterRecompute_frame (afresh : Bool) (s : State) :
    OnlyThermostat s (heaterRecompute afresh s) := by
  unfold heaterRecompute
  simp [OnlyThermostat]

@[simp] theorem heaterAct_frame (s : State) : OnlyHeaterPhase s (heaterAct s) := by
  unfold heaterAct
  repeat' split
  all_goals simp [OnlyHeaterPhase]

@[simp] theorem syncHeater_frame (s : State) : OnlyTableRecs s (syncHeater s) := by
  unfold syncHeater
  simp [OnlyTableRecs]

@[simp] theorem heaterSettle_frame (before s : State) : OnlyLoads s (heaterSettle before s) := by
  unfold heaterSettle
  split <;> simp [OnlyLoads]

@[simp] theorem heaterFollow_frame (before s : State) : OnlyHeat s (heaterFollow before s) := by
  unfold heaterFollow
  simp [OnlyHeat]

@[simp] theorem setHostMode_frame (m : HeatMode) (s : State) :
    OnlyHostMode s (setHostMode m s) := by
  unfold setHostMode
  simp [OnlyHostMode]

@[simp] theorem setSchedMode_frame (m : HeatMode) (s : State) :
    OnlySchedMode s (setSchedMode m s) := by
  unfold setSchedMode
  simp [OnlySchedMode]

@[simp] theorem setFrostOrigin_frame (b : Bool) (s : State) :
    OnlyHeatFrost s (setFrostOrigin b s) := by
  unfold setFrostOrigin
  repeat' split
  all_goals simp [OnlyHeatFrost]

@[simp] theorem bandToHeater_frame (s : State) : OnlyHeat s (bandToHeater s) := by
  unfold bandToHeater
  simp [OnlyHeat]

@[simp] theorem heatOpHost_frame (code : Byte) (s : State) :
    OnlyHostMode s ((heatOp setHostMode code s).2) := by
  unfold heatOp
  repeat' split
  all_goals simp [OnlyHostMode]

@[simp] theorem heatOpSched_frame (code : Byte) (s : State) :
    OnlySchedMode s ((heatOp setSchedMode code s).2) := by
  unfold heatOp
  repeat' split
  all_goals simp [OnlySchedMode]

@[simp] theorem cabinConvert_frame (t : Int) (s : State) : OnlyCabin s (cabinConvert t s) := by
  simp only [cabinConvert]
  split <;> simp [OnlyCabin]

@[simp] theorem addFailure_frame (s : State) :
    OnlyHeaterFailedHeaterLatchLinkFlags s (addFailure s) := by
  simp only [addFailure]
  split <;> simp [OnlyHeaterFailedHeaterLatchLinkFlags]

@[simp] theorem glowEndOp_frame (s : State) : OnlyFlame s (glowEndOp s) := by
  unfold glowEndOp
  repeat' split
  all_goals simp [OnlyFlame]

@[simp] theorem flameLoss_frame (s : State) : OnlyFlame s (flameLoss s) := by
  unfold flameLoss
  repeat' split
  all_goals simp [OnlyFlame]

@[simp] theorem purgeEndOp_frame (s : State) : OnlyLoads s (purgeEndOp s) := by
  simp only [purgeEndOp]
  repeat' split
  all_goals simp [OnlyLoads]

@[simp] theorem lockoutClear_frame (s : State) : OnlyFlame s (lockoutClear s) := by
  simp only [lockoutClear]
  repeat' split
  all_goals simp [OnlyFlame]

@[simp] theorem heaterRestart_frame (s : State) : OnlyHeaterRestart s (heaterRestart s) := by
  simp only [heaterRestart]
  split <;> simp [OnlyHeaterRestart]

end Sys2Proof.Machine
end

