-- ==== Sys2Proof/Laws/Flags.lean ====
section
/-! SUPPORT. The flag set: reading a flag after a flag is written, what the conditions depend on, and what
`settle`, `perform` and `takeRequest` answer. -/

namespace Sys2Proof.Machine

/-! ## Events -/

/-- The state of an input event depends on the pin records alone. -/
theorem eventActive_of_pins {s t : State} (h : t.pins = s.pins) (e : InputEvent) :
    eventActive t e = eventActive s e := by
  simp [eventActive, h]

theorem eventMapped_of_pins {s t : State} (h : t.pins = s.pins) (e : InputEvent) :
    eventMapped t e = eventMapped s e := by
  simp [eventMapped, h]

/-! ## Writing and reading a flag -/

theorem allFlags_index (f : Flag) : allFlags[f.index.val]? = some f := by
  cases f <;> rfl

theorem Flag.index_injective {f g : Flag} (h : f.index = g.index) : f = g := by
  have hf := allFlags_index f
  rw [h, allFlags_index g] at hf
  exact (Option.some.inj hf).symm

theorem mem_allFlags (f : Flag) : f ∈ allFlags := by
  cases f <;> decide

theorem mem_conditionFlags (f : Flag) : f ∈ conditionFlags ↔ f.kind = .condition := by
  simp [conditionFlags, mem_allFlags]

/-- Only a condition flag has a condition. -/
theorem conditionHolds_kind {s : State} {f : Flag} (h : conditionHolds s f = true) :
    f.kind = .condition := by
  cases f <;> first | rfl | simp [conditionHolds] at h

@[simp] theorem flagBits_putFlag (s : State) (f g : Flag) (b : FlagBits) :
    flagBits (putFlag s f b) g = if f = g then b else flagBits s g := by
  by_cases h : f = g
  · subst h; simp [flagBits, putFlag]
  · have hi : ¬ f.index = g.index := fun e => h (Flag.index_injective e)
    simp only [flagBits, putFlag, State.setLink_link, h, if_false]
    simp [Fin.ext_iff] at hi
    simp [hi]

@[simp] theorem flagBits_raiseFlag (s : State) (f g : Flag) :
    flagBits (raiseFlag s f) g = if f = g then ⟨true, true⟩ else flagBits s g := by
  simp [raiseFlag]

@[simp] theorem flagBits_clearFlag (s : State) (f g : Flag) :
    flagBits (clearFlag s f) g = if f = g then ⟨false, false⟩ else flagBits s g := by
  simp [clearFlag]

/-- The flags depend on the Link Interface alone. -/
theorem flagBits_of_flags {s t : State} (h : t.link.flags = s.link.flags) (f : Flag) :
    flagBits t f = flagBits s f := by
  simp [flagBits, h]

/-! ## The conditions -/

/-- What the conditions of the condition flags depend on. -/
theorem conditionHolds_congr {s t : State} (hm : t.meter = s.meter) (hp : t.pins = s.pins)
    (hk : t.tanks.recs = s.tanks.recs) (hf : t.tanks.fresh = s.tanks.fresh)
    (hg : t.tanks.grey = s.tanks.grey) (hh : t.heater.sensor = s.heater.sensor)
    (ha : t.act = s.act) (hw : t.wind = s.wind) (hq : t.params = s.params) (f : Flag) :
    conditionHolds t f = conditionHolds s f := by
  have he := eventActive_of_pins hp
  have he' := eventMapped_of_pins hp
  cases f <;>
    simp [conditionHolds, roadUnsafe, stepStowed, stepPosition, awningStowed, sensorLost,
      meterSensorLost, tankSensorLost, stepSensorLost, he, he', hm, hk, hf, hg, hh, ha, hw, hq]

@[simp] theorem conditionHolds_setLink (s : State) (x : Link) (f : Flag) :
    conditionHolds (s.setLink x) f = conditionHolds s f := by
  apply conditionHolds_congr <;> simp

@[simp] theorem conditionHolds_setTime (s : State) (x : TimeUnit) (f : Flag) :
    conditionHolds (s.setTime x) f = conditionHolds s f := by
  apply conditionHolds_congr <;> simp

@[simp] theorem conditionHolds_putFlag (s : State) (g : Flag) (b : FlagBits) (f : Flag) :
    conditionHolds (putFlag s g b) f = conditionHolds s f := by
  apply conditionHolds_congr <;> simp

@[simp] theorem conditionHolds_raiseFlag (s : State) (g f : Flag) :
    conditionHolds (raiseFlag s g) f = conditionHolds s f := by
  apply conditionHolds_congr <;> simp

@[simp] theorem conditionHolds_ariseFlags (before s : State) (f : Flag) :
    conditionHolds (ariseFlags before s) f = conditionHolds s f := by
  apply conditionHolds_congr <;> simp

@[simp] theorem conditionHolds_settle (before s : State) (f : Flag) :
    conditionHolds (settle before s) f = conditionHolds s f := by
  apply conditionHolds_congr <;> simp

theorem flagsStand_iff (s : State) :
    FlagsStand s ↔ ∀ f, conditionHolds s f = true → flagSet s f = true := by
  simp only [FlagsStand, List.all_eq_true, mem_conditionFlags, Bool.or_eq_true, Bool.not_eq_true']
  constructor
  · intro h f hc
    rcases h f (conditionHolds_kind hc) with h' | h'
    · simp [hc] at h'
    · exact h'
  · intro h f _
    cases hc : conditionHolds s f
    · exact .inl rfl
    · exact .inr (h f hc)

theorem marksOnSetFlags_iff (s : State) :
    MarksOnSetFlags s ↔ ∀ f, flagSet s f = false → (flagBits s f).mark = false := by
  simp only [MarksOnSetFlags, List.all_eq_true, mem_allFlags, Bool.or_eq_true, Bool.not_eq_true',
    forall_true_left]
  constructor
  · intro h f hf
    rcases h f with h' | h'
    · simp [hf] at h'
    · exact h'
  · intro h f
    cases hf : flagSet s f
    · exact .inr (h f hf)
    · exact .inl rfl

/-! ## Conditions arising -/

theorem flagBits_ariseFlag (before s : State) (f g : Flag) :
    flagBits (ariseFlag before s f) g =
      if f = g ∧ conditionHolds s f = true ∧
          (conditionHolds before f = false ∨ flagSet s f = false) then ⟨true, true⟩
      else flagBits s g := by
  unfold ariseFlag
  by_cases h : f = g <;> by_cases hc : conditionHolds s f = true <;>
    by_cases hb : conditionHolds before f = false <;> by_cases hs : flagSet s f = false <;>
    simp_all

/-- Each flag after the conditions have arisen: set with its mark where its condition passes to holding
or holds with the flag clear, and as it was otherwise (R202). -/
theorem flagBits_ariseFlags (before s : State) (g : Flag) :
    flagBits (ariseFlags before s) g =
      if conditionHolds s g = true ∧ (conditionHolds before g = false ∨ flagSet s g = false) then
        ⟨true, true⟩
      else flagBits s g := by
  have key : ∀ (l : List Flag) (t : State), l.Nodup → (∀ f, conditionHolds t f = conditionHolds s f) →
      (∀ f ∈ l, flagBits t f = flagBits s f) →
      flagBits (l.foldl (ariseFlag before) t) g =
        if g ∈ l ∧ conditionHolds s g = true ∧
            (conditionHolds before g = false ∨ flagSet s g = false) then ⟨true, true⟩
        else flagBits t g := by
    intro l
    induction l with
    | nil => intro t _ _ _; simp
    | cons f l ih =>
      intro t hl hc hb
      have hnd := List.nodup_cons.mp hl
      have hfs : flagSet t f = flagSet s f := by simp [flagSet, hb f (by simp)]
      have hc' : ∀ k, conditionHolds (ariseFlag before t f) k = conditionHolds s k := by
        intro k
        unfold ariseFlag
        split <;> simp [hc]
      have hb' : ∀ k ∈ l, flagBits (ariseFlag before t f) k = flagBits s k := by
        intro k hk
        have hne : f ≠ k := fun e => hnd.1 (e ▸ hk)
        rw [flagBits_ariseFlag]
        simp [hne, hb k (by simp [hk])]
      rw [List.foldl_cons, ih _ hnd.2 hc' hb', flagBits_ariseFlag, hfs, hc]
      by_cases hg : f = g
      · subst hg; simp [hnd.1]
      · have hg' : g ≠ f := fun e => hg e.symm
        simp [hg, hg', List.mem_cons]
  have h := key conditionFlags s (by decide) (fun _ => rfl) (fun _ _ => rfl)
  rw [ariseFlags, h]
  by_cases hc : conditionHolds s g = true
  · have hm : g ∈ conditionFlags := (mem_conditionFlags g).mpr (conditionHolds_kind hc)
    simp [hm]
  · simp [hc]

@[simp] theorem flagBits_settleIdle (s : State) (g : Flag) :
    flagBits (settleIdle s) g = flagBits s g := by
  apply flagBits_of_flags; simp

theorem flagBits_settle (before s : State) (g : Flag) :
    flagBits (settle before s) g =
      if conditionHolds s g = true ∧ (conditionHolds before g = false ∨ flagSet s g = false) then
        ⟨true, true⟩
      else flagBits s g := by
  rw [settle, flagBits_settleIdle, flagBits_ariseFlags]

/-! ## The end of a command -/

/-- What the idle conditions depend on. -/
theorem idleConditions_congr {s t : State} (hp : t.time.power = s.time.power)
    (hq : t.params = s.params) (hx : t.time.crystal = s.time.crystal)
    (hc : t.time.calib = s.time.calib) (hg : t.table.granted = s.table.granted)
    (hh : t.heater.state = s.heater.state) (hd : t.drive.stage = s.drive.stage)
    (hgap : t.drive.gap = s.drive.gap) (hm : t.motion = s.motion) :
    idleConditions t = idleConditions s := by
  simp [idleConditions, activities, lampActive, heaterActive, pumpActive, driveActive, ringActive,
    calibActive, hp, hq, hx, hc, hg, hh, hd, hgap, hm]

theorem settle_settled (before s : State) : Settled (settle before s) := by
  constructor
  · rw [flagsStand_iff]
    intro f hc
    rw [conditionHolds_settle] at hc
    simp only [flagSet, flagBits_settle, hc, true_and]
    split
    · rfl
    · next h =>
      push Not at h
      simpa [flagSet] using h.2
  · have hi : idleConditions (settle before s) = idleConditions s := by
      apply idleConditions_congr <;> simp
    have ha : idleConditions (ariseFlags before s) = idleConditions s := by
      apply idleConditions_congr <;> simp
    unfold IdleFollows
    rw [hi]
    unfold settle settleIdle
    rw [ha]
    cases h : idleConditions s
    · simp
    · simp only [if_true]
      split <;> simp_all

/-- Where every condition that holds held before with its flag set, and the idle due instant follows its
conditions, the end of the command changes nothing. -/
theorem settle_eq_self {before t : State}
    (hs : ∀ f, conditionHolds t f = true → conditionHolds before f = true ∧ flagSet t f = true)
    (hi : IdleFollows t) : settle before t = t := by
  have key : ∀ (l : List Flag), l.foldl (ariseFlag before) t = t := by
    intro l
    induction l with
    | nil => rfl
    | cons f l ih =>
      have hf : ariseFlag before t f = t := by
        unfold ariseFlag
        split
        · next h =>
          simp only [Bool.and_eq_true, Bool.or_eq_true, Bool.not_eq_true'] at h
          obtain ⟨hb, hfs⟩ := hs f h.1
          rcases h.2 with h' | h' <;> simp [hb, hfs] at h'
        · rfl
      rw [List.foldl_cons, hf, ih]
  have ha : ariseFlags before t = t := key _
  unfold settle
  rw [ha]
  unfold settleIdle
  unfold IdleFollows at hi
  split
  · next h => simp [h] at hi; simp [hi]
  · next h =>
    have hn : t.time.idleDue = none := by
      cases hx : t.time.idleDue
      · rfl
      · simp [hx, h] at hi
    calc t.setTime { t.time with idleDue := none } = t.setTime { t.time with idleDue := t.time.idleDue } := by
          rw [hn]
      _ = t := rfl

theorem settle_of_settled {s : State} (h : Settled s) : settle s s = s :=
  settle_eq_self (fun f hc => ⟨hc, (flagsStand_iff s).mp h.1 f hc⟩) h.2

/-- What a command with condition `enabled` and effect `t` answers. -/
theorem perform_eq (s : State) (enabled : Bool) (t : State) :
    perform s enabled t = .next (if enabled then settle s t else s) := rfl

/-! ## Requests -/

theorem requestReady_iff (kind : Nat) (tag : Byte) (p : List Byte) (s : State) :
    requestReady (BitVec.ofNat 8 kind) tag p s = true ↔ RequestAt kind tag p s := by
  simp [requestReady, RequestAt, and_assoc]

/-- The answer of a request, taken in a power state in which the transmitter sends. -/
theorem answer_eq_answered (kind : Nat) (tag : Byte) (reply : List Byte) (s : State)
    (h : s.time.power ≠ .dormant) :
    answer (BitVec.ofNat 8 kind) tag reply s = answered kind tag reply s := by
  unfold answer queueReply chooseFrame answered
  by_cases ht : s.link.tx = .free <;> simp [h, ht]

/-- A request that is taken, with a length that R217 allows: its rule acts, then it is answered. -/
theorem takeRequest_taken {kind : Nat} {tag : Byte} {p : List Byte} {s : State}
    (act : State → List Byte × State) (h : RequestAt kind tag p s)
    (hl : lengthAllowed kind p.length = true) :
    takeRequest kind tag p act s =
      .next (settle s (answer (BitVec.ofNat 8 kind) tag (act s).1 (act s).2)) := by
  have hr := (requestReady_iff kind tag p s).mpr h
  simp [takeRequest, perform, hr, hl]

/-- A request that is taken with another length is answered LENGTH (R199). -/
theorem takeRequest_length {kind : Nat} {tag : Byte} {p : List Byte} {s : State}
    (act : State → List Byte × State) (h : RequestAt kind tag p s)
    (hl : lengthAllowed kind p.length = false) :
    takeRequest kind tag p act s =
      .next (settle s (answer (BitVec.ofNat 8 kind) tag (u8 Result.length.code) s)) := by
  have hr := (requestReady_iff kind tag p s).mpr h
  simp [takeRequest, perform, hr, hl]

/-- A request that cannot be taken changes nothing (log 1). -/
theorem takeRequest_waits {kind : Nat} {tag : Byte} {p : List Byte} {s : State}
    (act : State → List Byte × State) (h : ¬ RequestAt kind tag p s) :
    takeRequest kind tag p act s = .next s := by
  have hr : requestReady (BitVec.ofNat 8 kind) tag p s = false := by
    rw [Bool.eq_false_iff]; exact fun e => h ((requestReady_iff kind tag p s).mp e)
  simp [takeRequest, perform, hr]

end Sys2Proof.Machine
end

