-- ==== Sys2Proof/Laws/Exec.lean ====
section
/-! SUPPORT. What a command can answer at all: nothing changed, an effect settled at its end, or the state
after reset. Statements about every step go through `exec_cases`. -/

namespace Sys2Proof.Machine

theorem perform_cases {s t u : State} {enabled : Bool} (h : perform s enabled u = .next t) :
    t = s ∨ t = settle s u := by
  simp only [perform] at h
  split at h <;> simp_all

theorem takeRequest_cases {kind : Nat} {tag : Byte} {p : List Byte} {act : State → List Byte × State}
    {s t : State} (h : takeRequest kind tag p act s = .next t) : t = s ∨ ∃ u, t = settle s u := by
  rcases perform_cases h with h | h
  · exact .inl h
  · exact .inr ⟨_, h⟩

/-- Every next state of a command is the state before, or an effect with its settling, or the state after
reset. -/
theorem exec_cases {c : Instr} {s t : State} (h : exec c s = .next t) :
    t = s ∨ (∃ u, t = settle s u) ∨
      (c = .powerOnReset ∧ t = State.reset.setPending s.pending) := by
  have hp : ∀ {e u}, perform s e u = .next t →
      t = s ∨ (∃ u, t = settle s u) ∨
        (c = .powerOnReset ∧ t = State.reset.setPending s.pending) := by
    intro e u hq
    rcases perform_cases hq with hq | hq
    · exact .inl hq
    · exact .inr (.inl ⟨_, hq⟩)
  cases c with
  | powerOnReset =>
    simp only [exec, execPowerOnReset, Host.Outcome.next.injEq] at h
    exact .inr (.inr ⟨rfl, h.symm⟩)
  | noticeBegin =>
    simp only [exec, execNoticeBegin] at h
    split at h <;> exact hp h
  | deviceTimeAdvance edge input =>
    simp only [exec, execDeviceTimeAdvance] at h
    split at h
    · split at h <;> exact hp h
    · cases h
  | timeSet tag p input =>
    simp only [exec, execTimeSet] at h
    split at h
    · exact hp h
    · cases h
  | intervalEnd input =>
    simp only [exec, execIntervalEnd] at h
    split at h
    · exact hp h
    · cases h
  | cabinConversion x =>
    simp only [exec, execCabinConversion] at h
    split at h
    · exact hp h
    · cases h
  | senderConversion x y z =>
    simp only [exec, execSenderConversion] at h
    split at h
    · exact hp h
    · cases h
  | temperatureConversion x y z =>
    simp only [exec, execTemperatureConversion] at h
    split at h
    · exact hp h
    · cases h
  | dormantEntry input =>
    simp only [exec, execDormantEntry] at h
    split at h
    · exact hp h
    · cases h
  | leavingToActive input =>
    simp only [exec, execLeavingToActive] at h
    split at h
    · exact hp h
    · cases h
  | _ => exact hp h

/-- A well-formed command always answers a next state: nothing else stops the part. -/
theorem exec_next {c : Instr} {s : State} (h : c.wellFormed = true) : ∃ t, exec c s = .next t := by
  cases c with
  | noticeBegin =>
    simp only [exec, execNoticeBegin]
    split <;> exact ⟨_, rfl⟩
  | deviceTimeAdvance edge input =>
    simp only [Instr.wellFormed] at h
    simp only [exec, execDeviceTimeAdvance, h, if_true]
    split <;> exact ⟨_, rfl⟩
  | timeSet tag p input =>
    simp only [Instr.wellFormed, Bool.and_eq_true] at h
    simp only [exec, execTimeSet, h.2, if_true]
    exact ⟨_, rfl⟩
  | intervalEnd input =>
    simp only [Instr.wellFormed] at h
    simp only [exec, execIntervalEnd, h, if_true]
    exact ⟨_, rfl⟩
  | cabinConversion x =>
    simp only [Instr.wellFormed] at h
    simp only [exec, execCabinConversion, h, if_true]
    exact ⟨_, rfl⟩
  | senderConversion x y z =>
    simp only [Instr.wellFormed] at h
    simp only [exec, execSenderConversion, h, if_true]
    exact ⟨_, rfl⟩
  | temperatureConversion x y z =>
    simp only [Instr.wellFormed] at h
    simp only [exec, execTemperatureConversion, h, if_true]
    exact ⟨_, rfl⟩
  | dormantEntry input =>
    simp only [Instr.wellFormed] at h
    simp only [exec, execDormantEntry, h, if_true]
    exact ⟨_, rfl⟩
  | leavingToActive input =>
    simp only [Instr.wellFormed] at h
    simp only [exec, execLeavingToActive, h, if_true]
    exact ⟨_, rfl⟩
  | _ => exact ⟨_, rfl⟩

end Sys2Proof.Machine
end

