-- ==== Sys2Proof/Laws/FrameMotion.lean ====
section
/-! SUPPORT. What the operations of the Motion Rings, the Drive Stage, the Tank and Frost Unit and the Charge
Meter leave unchanged: one lemma for each operation. -/

namespace Sys2Proof.Machine

@[simp] theorem setSlot_frame (s : State) (i : Fin 16) (x : Slot) :
    OnlyMotionSlots s (setSlot s i x) := by
  unfold setSlot
  simp [OnlyMotionSlots]

@[simp] theorem setOverride_frame (s : State) (a : Actuator) (o : OverrideSlot) :
    OnlyMotionAwningOverrideMotionStepOverride s (setOverride s a o) := by
  unfold setOverride
  repeat' split
  all_goals simp [OnlyMotionAwningOverrideMotionStepOverride]

@[simp] theorem setTail_frame (s : State) (a : Actuator) (i : Fin 16) :
    OnlyMotionAwningTailMotionStepTail s (setTail s a i) := by
  unfold setTail
  repeat' split
  all_goals simp [OnlyMotionAwningTailMotionStepTail]

@[simp] theorem flagResult_frame (r : MotionResult) (s : State) :
    OnlyLinkFlags s (flagResult r s) := by
  unfold flagResult
  repeat' split
  all_goals simp [OnlyLinkFlags]

@[simp] theorem finishMotion_frame (o : Owner) (r : MotionResult) (s : State) :
    OnlyMotionsFlags s (finishMotion o r s) := by
  simp only [finishMotion]
  repeat' split
  all_goals simp [OnlyMotionsFlags]

@[simp] theorem releaseStage_frame (s : State) : OnlyStage s (releaseStage s) := by
  simp [OnlyStage, releaseStage, DriveStage.idled]

@[simp] theorem brakeAfter_frame (m : Option StageMotion) (s : State) :
    OnlyActHomingDrivePhaseTimerDriveStage s (brakeAfter m s) := by
  simp only [brakeAfter]
  split <;> simp [OnlyActHomingDrivePhaseTimerDriveStage]

@[simp] theorem brake_frame (s : State) : OnlyActHomingDrivePhaseTimerDriveStage s (brake s) :=
  brakeAfter_frame _ s

@[simp] theorem endMotion_frame (s : State) : OnlyStage s (endMotion s) := by
  unfold endMotion
  repeat' split
  all_goals simp [OnlyStage]

@[simp] theorem completeOwner_frame (r : MotionResult) (s : State) :
    OnlyComplete s (completeOwner r s) := by
  unfold completeOwner
  repeat' split
  all_goals simp [OnlyComplete]

@[simp] theorem claim_frame (o : Owner) (k : Origin) (s : State) : OnlyStage s (claim o k s) := by
  simp [OnlyStage, claim]

@[simp] theorem takeSlot_frame (a : Actuator) (i : Fin 16) (s : State) :
    OnlyArbiter s (takeSlot a i s) := by
  simp only [takeSlot]
  split <;> simp [OnlyArbiter]

@[simp] theorem takeOverride_frame (a : Actuator) (s : State) :
    OnlyArbiter s (takeOverride a s) := by
  unfold takeOverride
  repeat' split
  all_goals simp [OnlyArbiter]

@[simp] theorem takeClaimant_frame (o : Owner) (s : State) : OnlyArbiter s (takeClaimant o s) := by
  unfold takeClaimant
  repeat' split
  all_goals simp [OnlyArbiter]

@[simp] theorem arbitrateN_frame (n : Nat) (s : State) : OnlyArbiter s (arbitrateN n s) := by
  induction n generalizing s with
  | zero => simp [OnlyArbiter, arbitrateN]
  | succ n ih =>
    unfold arbitrateN
    repeat' split
    all_goals simp [OnlyArbiter, ih]

@[simp] theorem arbitrate_frame (s : State) : OnlyArbiter s (arbitrate s) := by
  unfold arbitrate
  simp [OnlyArbiter]

@[simp] theorem postMotion_frame (a : Actuator) (act : MoveAction) (target : Nat)
    (notify : Bool) (origin : MoveOrigin) (s : State) :
    OnlyPost s ((postMotion a act target notify origin s).2.2) := by
  simp only [postMotion]
  repeat' split
  all_goals simp [OnlyPost]

@[simp] theorem postCodes_frame (ring action : Byte) (target : Nat) (notify : Option Bool)
    (origin : MoveOrigin) (s : State) :
    OnlyPost s ((postCodes ring action target notify origin s).2.2) := by
  unfold postCodes
  repeat' split
  all_goals simp [OnlyPost]

@[simp] theorem switchPost_frame (a : Actuator) (act : MoveAction) (s : State) :
    OnlyPost s (switchPost a act s) := by
  unfold switchPost
  simp [OnlyPost]

@[simp] theorem cancelSlot_frame (i : Fin 16) (s : State) : OnlyComplete s (cancelSlot i s) := by
  unfold cancelSlot
  repeat' split
  all_goals simp [OnlyComplete]

@[simp] theorem cancelOne_frame (i : Fin 16) (s : State) : OnlyArbiter s ((cancelOne i s).2) := by
  unfold cancelOne
  repeat' split
  all_goals simp [OnlyArbiter]

@[simp] theorem foldCancelSlot_frame (l : List (Fin 16)) (s : State) :
    OnlyComplete s (l.foldl (fun t i => cancelSlot i t) s) := by
  induction l generalizing s with
  | nil => simp [OnlyComplete]
  | cons a l ih => simp [OnlyComplete, ih]

@[simp] theorem cancelAll_frame (a : Actuator) (s : State) : OnlyArbiter s (cancelAll a s) := by
  unfold cancelAll
  simp [OnlyArbiter]

@[simp] theorem freeRings_frame (s : State) :
    OnlyMotionAwningTailMotionSlotsMotionStepTail s (freeRings s) := by
  unfold freeRings
  simp [OnlyMotionAwningTailMotionSlotsMotionStepTail]

/-! ## The Drive Stage -/

@[simp] theorem raiseOverride_frame (a : Actuator) (c : OverrideCause) (s : State) :
    OnlyCompleteWake s (raiseOverride a c s) := by
  simp only [raiseOverride]
  repeat' split
  all_goals simp [OnlyCompleteWake]

@[simp] theorem raiseIfOut_frame (s : State) (a : Actuator) :
    OnlyCompleteWake s (raiseIfOut s a) := by
  unfold raiseIfOut
  repeat' split
  all_goals simp [OnlyCompleteWake]

@[simp] theorem raiseAllOut_frame (s : State) : OnlyCompleteWake s (raiseAllOut s) := by
  unfold raiseAllOut
  simp [OnlyCompleteWake]

@[simp] theorem raiseIfLeft_frame (before s : State) (a : Actuator) :
    OnlyCompleteWake s (raiseIfLeft before s a) := by
  unfold raiseIfLeft
  repeat' split
  all_goals simp [OnlyCompleteWake]

@[simp] theorem stowWatch_frame (before s : State) : OnlyCompleteWake s (stowWatch before s) := by
  unfold stowWatch
  simp [OnlyCompleteWake]

@[simp] theorem testDestination_frame (s : State) : OnlyComplete s (testDestination s) := by
  unfold testDestination
  repeat' split
  all_goals simp [OnlyComplete]

@[simp] theorem positionFollow_frame (before s : State) :
    OnlyArbiterWake s (positionFollow before s) := by
  unfold positionFollow
  simp [OnlyArbiterWake]

@[simp] theorem enterRunning_frame (s : State) : OnlyRunning s (enterRunning s) := by
  unfold enterRunning
  simp [OnlyRunning]

@[simp] theorem enterRetryWait_frame (s : State) :
    OnlyDrivePhaseTimerDriveStage s (enterRetryWait s) := by
  unfold enterRetryWait
  simp [OnlyDrivePhaseTimerDriveStage]

@[simp] theorem brakeEndOp_frame (s : State) : OnlyBrakeEnd s (brakeEndOp s) := by
  unfold brakeEndOp
  repeat' split
  all_goals simp [OnlyBrakeEnd]

@[simp] theorem gapEndOp_frame (s : State) : OnlyGapEnd s (gapEndOp s) := by
  simp only [gapEndOp]
  split <;> simp [OnlyGapEnd, DriveStage.idled]

@[simp] theorem setOwnerCounts_frame (s : State) (o : Owner) (retries runTime : Nat) :
    OnlyMotions s (setOwnerCounts s o retries runTime) := by
  unfold setOwnerCounts
  repeat' split
  all_goals simp [OnlyMotions]

@[simp] theorem moveHoming_frame (toward : Bool) (o : Owner) (h : Nat) (s : State) :
    OnlyActHomingActStepMs s (moveHoming toward o h s) := by
  simp only [moveHoming]
  repeat' split
  all_goals simp [OnlyActHomingActStepMs]

@[simp] theorem moveActuator_frame (toward : Bool) (o : Owner) (d : Direction) (s : State) :
    OnlyAct s (moveActuator toward o d s) := by
  simp only [moveActuator]
  repeat' split
  all_goals simp [OnlyAct]

@[simp] theorem sampleMotor_frame (o : Owner) (x : MotorSample) (s : State) :
    OnlyDriveLegTimeDriveStallCount s (sampleMotor o x s) := by
  simp only [sampleMotor]
  split <;> simp [OnlyDriveLegTimeDriveStallCount, countSample]

@[simp] theorem addRunTime_frame (o : Owner) (s : State) : OnlyMotions s (addRunTime o s) := by
  unfold addRunTime
  simp [OnlyMotions]

@[simp] theorem driveMotor_frame (x : MotorSample) (s : State) : OnlyMotor s (driveMotor x s) := by
  unfold driveMotor
  repeat' split
  all_goals simp [OnlyMotor]

@[simp] theorem runTimers_frame (s : State) : OnlyDriveGapDrivePhaseTimer s (runTimers s) := by
  unfold runTimers
  simp [OnlyDriveGapDrivePhaseTimer]

@[simp] theorem driveMs_frame (x : MotorSample) (s : State) : OnlyMillisecond s (driveMs x s) := by
  unfold driveMs
  simp [OnlyMillisecond]

@[simp] theorem setAtEnd_frame (o : Owner) (s : State) :
    OnlyActPosMsActStepMs s (setAtEnd o s) := by
  unfold setAtEnd
  repeat' split
  all_goals simp [OnlyActPosMsActStepMs]

@[simp] theorem retry_frame (o : Owner) (s : State) : OnlyRetry s (retry o s) := by
  simp [OnlyRetry, retry]

@[simp] theorem stallOp_frame (s : State) : OnlyStall s (stallOp s) := by
  unfold stallOp
  repeat' split
  all_goals simp [OnlyStall]

@[simp] theorem estopSlot_frame (s : State) (i : Fin 16) : OnlyMotionsFlags s (estopSlot s i) := by
  unfold estopSlot
  repeat' split
  all_goals simp [OnlyMotionsFlags]

@[simp] theorem foldEstopSlot_frame (l : List (Fin 16)) (s : State) :
    OnlyMotionsFlags s (l.foldl estopSlot s) := by
  induction l generalizing s with
  | nil => simp [OnlyMotionsFlags]
  | cons a l ih => simp [OnlyMotionsFlags, ih]

@[simp] theorem estopOverride_frame (s : State) (a : Actuator) :
    OnlyMotionsFlags s (estopOverride s a) := by
  unfold estopOverride
  repeat' split
  all_goals simp [OnlyMotionsFlags]

@[simp] theorem emergencyStop_frame (s : State) : OnlyComplete s (emergencyStop s) := by
  simp [OnlyComplete, emergencyStop]

@[simp] theorem ignitionAbort_frame (s : State) : OnlyComplete s (ignitionAbort s) := by
  unfold ignitionAbort
  repeat' split
  all_goals simp [OnlyComplete]

@[simp] theorem stepInEdge_frame (rising : Bool) (s : State) :
    OnlyActHomingActStepMs s (stepInEdge rising s) := by
  unfold stepInEdge
  repeat' split
  all_goals simp [OnlyActHomingActStepMs]

@[simp] theorem stepOutEdge_frame (rising : Bool) (s : State) :
    OnlyActHomingActStepMs s (stepOutEdge rising s) := by
  unfold stepOutEdge
  repeat' split
  all_goals simp [OnlyActHomingActStepMs]

@[simp] theorem awningInEdge_frame (rising : Bool) (s : State) :
    OnlyActPosMs s (awningInEdge rising s) := by
  unfold awningInEdge
  repeat' split
  all_goals simp [OnlyActPosMs]

@[simp] theorem stepPress_frame (s : State) : OnlyPost s (stepPress s) := by
  unfold stepPress
  repeat' split
  all_goals simp [OnlyPost]

@[simp] theorem doorStep_frame (rising : Bool) (s : State) : OnlyPost s (doorStep rising s) := by
  unfold doorStep
  repeat' split
  all_goals simp [OnlyPost]

@[simp] theorem windCount_frame (s : State) : OnlyWind s (windCount s) := by
  unfold windCount
  simp [OnlyWind]

@[simp] theorem windUnmapped_frame (s : State) : OnlyWind s (windUnmapped s) := by
  unfold windUnmapped
  simp [OnlyWind]

@[simp] theorem windJudge_frame (speed : Nat) (s : State) :
    OnlyWindJudge s (windJudge speed s) := by
  simp only [windJudge]
  repeat' split
  all_goals simp [OnlyWindJudge]

@[simp] theorem nextWindow_frame (speed : Nat) (s : State) : OnlyWind s (nextWindow speed s) := by
  unfold nextWindow
  simp [OnlyWind]

@[simp] theorem windowEndOp_frame (s : State) : OnlyWindow s (windowEndOp s) := by
  unfold windowEndOp
  repeat' split
  all_goals simp [OnlyWindow]

@[simp] theorem driveRestart_frame (s : State) : OnlyDriveRestart s (driveRestart s) := by
  simp only [driveRestart]
  repeat' split
  all_goals simp [OnlyDriveRestart, DriveStage.idled]

@[simp] theorem presentBraking_frame (s : State) : OnlyLoads s (presentBraking s) := by
  unfold presentBraking
  repeat' split
  all_goals simp [OnlyLoads]

/-! ## The Tank and Frost Unit -/

@[simp] theorem setTank_frame (s : State) (i : Fin 3) (t : TankRec) :
    OnlyTanksRecs s (setTank s i t) := by
  unfold setTank
  simp [OnlyTanksRecs]

@[simp] theorem judgeTanks_frame (s : State) : OnlyTanksRecs s (judgeTanks s) := by
  unfold judgeTanks
  simp [OnlyTanksRecs]

@[simp] theorem senderConvert_frame (raw : Fin 3 → Nat) (s : State) :
    OnlySenders s (senderConvert raw s) := by
  simp [OnlySenders, senderConvert]

@[simp] theorem ignitionHold_frame (s : State) : OnlyTanksRecs s (ignitionHold s) := by
  unfold ignitionHold
  simp [OnlyTanksRecs]

@[simp] theorem ignitionRefill_frame (s : State) : OnlyTanksRecs s (ignitionRefill s) := by
  unfold ignitionRefill
  simp [OnlyTanksRecs]

@[simp] theorem recalibrateTank_frame (i : Fin 3) (s : State) :
    OnlyTanksRecs s (recalibrateTank i s) := by
  unfold recalibrateTank
  simp [OnlyTanksRecs]

@[simp] theorem tankParamsFollow_frame (s : State) : OnlyTankLevels s (tankParamsFollow s) := by
  unfold tankParamsFollow
  simp [OnlyTankLevels]

@[simp] theorem pumpEdge_frame (rising : Bool) (s : State) : OnlyLoads s (pumpEdge rising s) := by
  unfold pumpEdge
  repeat' split
  all_goals simp [OnlyLoads]

@[simp] theorem pumpExpire_frame (s : State) : OnlyPumpFault s (pumpExpire s) := by
  simp [OnlyPumpFault, pumpExpire]

@[simp] theorem pumpFaultClear_frame (s : State) : OnlyTanksPumpFault s (pumpFaultClear s) := by
  unfold pumpFaultClear
  simp [OnlyTanksPumpFault]

@[simp] theorem setFrost_frame (s : State) (k : FrostTank) (c : FrostCtl) :
    OnlyTanksFreshTanksGrey s (setFrost s k c) := by
  unfold setFrost
  repeat' split
  all_goals simp [OnlyTanksFreshTanksGrey]

@[simp] theorem syncPad_frame (k : FrostTank) (s : State) : OnlyLoads s (syncPad k s) := by
  unfold syncPad
  simp [OnlyLoads]

@[simp] theorem syncHeaterFrost_frame (s : State) : OnlyHeatFrost s (syncHeaterFrost s) := by
  unfold syncHeaterFrost
  simp [OnlyHeatFrost]

@[simp] theorem frostDemands_frame (order : List HandOff) (s : State) :
    OnlyHeatFrost s (frostDemands order s) :=
  inOrder_keeps (fun t : State => OnlyHeatFrost s t) order
    [(.padFresh, syncPad .fresh), (.padGrey, syncPad .grey), (.frostHeater, syncHeaterFrost)] s
    (by simp [OnlyHeatFrost]) (by
      intro a ha t h
      simp only [List.mem_cons, List.not_mem_nil, or_false] at ha
      rcases ha with rfl | rfl | rfl <;> simp [OnlyHeatFrost, h])

@[simp] theorem frostFollow_frame (before : State) (order : List HandOff) (s : State) :
    OnlyFrostFollow s (frostFollow before order s) := by
  simp only [frostFollow]
  split <;> simp [OnlyFrostFollow]

@[simp] theorem temperatureConvert_frame (fresh grey : Int) (order : List HandOff) (s : State) :
    OnlyFrost s (temperatureConvert fresh grey order s) := by
  unfold temperatureConvert
  simp [OnlyFrost]

@[simp] theorem enterDrained_frame (s : State) : OnlyTanksFresh s (enterDrained s) := by
  unfold enterDrained
  simp [OnlyTanksFresh]

@[simp] theorem drainOpenOp_frame (order : List HandOff) (s : State) :
    OnlyFresh s (drainOpenOp order s) := by
  unfold drainOpenOp
  repeat' split
  all_goals simp [OnlyFresh]

@[simp] theorem drainCloseOp_frame (order : List HandOff) (s : State) :
    OnlyFresh s (drainCloseOp order s) := by
  unfold drainCloseOp
  repeat' split
  all_goals simp [OnlyFresh]

@[simp] theorem dangerOp_frame (k : FrostTank) (order : List HandOff) (s : State) :
    OnlyFrost s (dangerOp k order s) := by
  unfold dangerOp
  repeat' split
  all_goals simp [OnlyFrost]

@[simp] theorem autoDrainFollow_frame (order : List HandOff) (s : State) :
    OnlyFresh s (autoDrainFollow order s) := by
  unfold autoDrainFollow
  repeat' split
  all_goals simp [OnlyFresh]

@[simp] theorem tanksRestart_frame (order : List HandOff) (s : State) :
    OnlyHeatFrost s (tanksRestart order s) := by
  unfold tanksRestart
  simp [OnlyHeatFrost]

/-! ## The Charge Meter -/

@[simp] theorem accumulate_frame (xs : List MeterSample) (s : State) :
    OnlyMeter s (accumulate xs s) := by
  unfold accumulate
  simp [OnlyMeter]

@[simp] theorem meterSteps_frame (c : Closed) (s : State) : OnlyMeter s (meterSteps c s) := by
  simp [OnlyMeter, meterSteps]

@[simp] theorem meterHandOffs_frame (c : Closed) (changed : Bool) (order : List HandOff)
    (s : State) :
    OnlyMeterHandOffs s (meterHandOffs c changed order s) := by
  unfold meterHandOffs
  refine inOrder_keeps (fun t =>
      OnlyMeterHandOffs s t) _ _ _ (by simp [OnlyMeterHandOffs]) ?_
  intro a ha t h
  cases changed
  · simp only [Bool.false_eq_true, if_false, List.mem_cons, List.not_mem_nil, or_false] at ha
    subst ha
    simp [OnlyMeterHandOffs, h]
  · simp only [if_true, List.cons_append, List.nil_append, List.mem_cons, List.not_mem_nil, or_false] at ha
    rcases ha with rfl | rfl | rfl | rfl | rfl <;> simp [OnlyMeterHandOffs, h]

@[simp] theorem meterFlags_frame (synced changed : Bool) (s : State) :
    OnlyLinkFlags s (meterFlags synced changed s) := by
  simp only [meterFlags]
  repeat' split
  all_goals simp [OnlyLinkFlags]

@[simp] theorem nextInterval_frame (start : Tick) (s : State) :
    OnlyMeter s (nextInterval start s) := by
  unfold nextInterval
  simp [OnlyMeter]

@[simp] theorem closeInterval_frame (t : Int) (order : List HandOff) (start : Tick) (s : State) :
    OnlyInterval s (closeInterval t order start s) := by
  simp only [closeInterval]
  split <;> simp [OnlyInterval]

@[simp] theorem accountFullOp_frame (s : State) : OnlyLinkFlagsMeter s (accountFullOp s) := by
  unfold accountFullOp
  simp [OnlyLinkFlagsMeter]

@[simp] theorem accountSetOp_frame (permille : Nat) (s : State) :
    OnlyMeter s (accountSetOp permille s) := by
  unfold accountSetOp
  simp [OnlyMeter]

@[simp] theorem capacityFollow_frame (old : Nat) (s : State) :
    OnlyMeter s (capacityFollow old s) := by
  unfold capacityFollow
  repeat' split
  all_goals simp [OnlyMeter]

end Sys2Proof.Machine
end

