-- ==== Sys2Proof/Laws/FrameTime.lean ====
section
/-! SUPPORT. What the operations of the Link Interface, the Time and Schedule Unit, the Signal Map, the
parameter writes and the restart leave unchanged: one lemma for each operation. -/

namespace Sys2Proof.Machine

@[simp] theorem wakeIfStarted_frame (b : Bool) (s : State) : OnlyWake s (wakeIfStarted b s) := by
  unfold wakeIfStarted
  repeat' split
  all_goals simp [OnlyWake]

@[simp] theorem chooseFrame_frame (s : State) : OnlyLinkTx s (chooseFrame s) := by
  unfold chooseFrame
  repeat' split
  all_goals simp [OnlyLinkTx]

@[simp] theorem queueReply_frame (f : Frame) (s : State) :
    OnlyLinkRepliesLinkTx s (queueReply f s) := by
  unfold queueReply
  simp [OnlyLinkRepliesLinkTx]

@[simp] theorem answer_frame (kind tag : Byte) (reply : List Byte) (s : State) :
    OnlyLinkInboxLinkRepliesLinkTx s (answer kind tag reply s) := by
  unfold answer
  simp [OnlyLinkInboxLinkRepliesLinkTx]

@[simp] theorem attend_frame (s : State) : OnlyLinkAttendedLinkSilence s (attend s) := by
  unfold attend
  simp [OnlyLinkAttendedLinkSilence]

@[simp] theorem arrive_frame (f : Frame) (s : State) : OnlyArrival s (arrive f s) := by
  simp only [arrive]
  repeat' split
  all_goals simp [OnlyArrival]

@[simp] theorem reportFlag_frame (l : FlagLevel) (s : State) (f : Flag) :
    OnlyLinkFlags s (reportFlag l s f) := by
  unfold reportFlag
  repeat' split
  all_goals simp [OnlyLinkFlags]

@[simp] theorem foldReportFlag_frame (l : FlagLevel) (fs : List Flag) (s : State) :
    OnlyLinkFlags s (fs.foldl (reportFlag l) s) := by
  induction fs generalizing s with
  | nil => simp [OnlyLinkFlags]
  | cons a fs ih => simp [OnlyLinkFlags, ih]

@[simp] theorem beginNotice_frame (l : FlagLevel) (s : State) :
    OnlyLinkFlagsLinkNoticeCounterLinkTx s (beginNotice l s) := by
  simp [OnlyLinkFlagsLinkNoticeCounterLinkTx, beginNotice]

@[simp] theorem transmitEndOp_frame (s : State) : OnlyLinkRepliesLinkTx s (transmitEndOp s) := by
  simp only [transmitEndOp]
  repeat' split
  all_goals simp [OnlyLinkRepliesLinkTx]

@[simp] theorem remark_frame (l : FlagLevel) (s : State) : OnlyLinkFlags s (remark l s) := by
  unfold remark
  refine foldl_keeps (fun t =>
      OnlyLinkFlags s t) _ _ _ (by simp [OnlyLinkFlags]) ?_
  intro t a h
  split <;> simp [OnlyLinkFlags, h]

@[simp] theorem setMask_frame (l : FlagLevel) (masked : Bool) (s : State) :
    OnlyLinkFlagsLinkMasked s (setMask l masked s) := by
  simp only [setMask]
  repeat' split
  all_goals simp [OnlyLinkFlagsLinkMasked]

@[simp] theorem silenceFall_frame (ticks : Nat) (s : State) :
    OnlyLinkSilence s (silenceFall ticks s) := by
  unfold silenceFall
  repeat' split
  all_goals simp [OnlyLinkSilence]

@[simp] theorem holdSlot_frame (s : State) : OnlyLinkHold s (holdSlot s) := by
  unfold holdSlot
  repeat' split
  all_goals simp [OnlyLinkHold]

@[simp] theorem linkRestart_frame (s : State) : OnlyLink s (linkRestart s) := by
  simp [OnlyLink, linkRestart]

/-! ## Device time and the schedule -/

@[simp] theorem addInc_frame (s : State) : OnlyTimeFractionTimeTick s (addInc s) := by
  simp [OnlyTimeFractionTimeTick, addInc]

@[simp] theorem startCalibration_frame (s : State) : OnlyTimeCalib s (startCalibration s) := by
  unfold startCalibration
  simp [OnlyTimeCalib]

@[simp] theorem endCalibration_frame (measured : Nat) (s : State) :
    OnlyTimeCalibTimeCrystalTimeInc s (endCalibration measured s) := by
  simp only [endCalibration]
  split <;> simp [OnlyTimeCalibTimeCrystalTimeInc]

@[simp] theorem failCalibration_frame (s : State) :
    OnlyTimeCalibTimeCrystalTimeInc s (failCalibration s) := by
  unfold failCalibration
  simp [OnlyTimeCalibTimeCrystalTimeInc]

@[simp] theorem calibrationStep_frame (fastTime : Nat) (s : State) :
    OnlyTimeCalibTimeCrystalTimeInc s (calibrationStep fastTime s) := by
  unfold calibrationStep
  repeat' split
  all_goals simp [OnlyTimeCalibTimeCrystalTimeInc]

@[simp] theorem calibrationTick_frame (s : State) : OnlyTimeCalib s (calibrationTick s) := by
  unfold calibrationTick
  repeat' split
  all_goals simp [OnlyTimeCalib]

@[simp] theorem enterEntering_frame (s : State) : OnlyEntering s (enterEntering s) := by
  unfold enterEntering
  simp [OnlyEntering]

@[simp] theorem becomeDormant_frame (input : MeterInput) (s : State) :
    OnlyBecomeDormant s (becomeDormant input s) := by
  simp [OnlyBecomeDormant, becomeDormant, Link.hunting]

@[simp] theorem becomeActive_frame (input : MeterInput) (s : State) :
    OnlyBecomeActive s (becomeActive input s) := by
  simp only [becomeActive]
  refine inOrder_keeps (fun t =>
      OnlyBecomeActive s t) _ _ _ (by simp [OnlyBecomeActive]) ?_
  intro a ha t h
  simp only [List.mem_cons, List.not_mem_nil, or_false] at ha
  rcases ha with rfl | rfl | rfl <;> simp [OnlyBecomeActive, h]

@[simp] theorem slowAdvance_frame (input : MeterInput) (s : State) :
    OnlySlowAdvance s (slowAdvance input s) := by
  unfold slowAdvance
  simp [OnlySlowAdvance]

@[simp] theorem slowStep_frame (fastTime : Nat) (input : MeterInput) (s : State) :
    OnlySlowStep s (slowStep fastTime input s) := by
  unfold slowStep
  repeat' split
  all_goals simp [OnlySlowStep]

@[simp] theorem fastTick_frame (input : MeterInput) (s : State) :
    OnlyFastTick s (fastTick input s) := by
  simp [OnlyFastTick, fastTick]

@[simp] theorem moveInstants_frame (delta : Tick) (s : State) :
    OnlyInstants s (moveInstants delta s) := by
  simp [OnlyInstants, moveInstants]

@[simp] theorem setTimeOp_frame (new : Tick) (input : MeterInput) (s : State) :
    OnlyTimeSetInstants s (setTimeOp new input s) := by
  simp [OnlyTimeSetInstants, setTimeOp]

@[simp] theorem setEntry_frame (s : State) (i : Fin 16) (e : SchedEntry) :
    OnlyTimeSchedule s (setEntry s i e) := by
  unfold setEntry
  simp [OnlyTimeSchedule]

@[simp] theorem runAction_frame (a : SchedAction) (s : State) :
    OnlyAction s ((runAction a s).2) := by
  cases a <;> simp [OnlyAction, runAction]

@[simp] theorem fireEntry_frame (i : Fin 16) (s : State) : OnlyFire s (fireEntry i s) := by
  simp only [fireEntry]
  repeat' split
  all_goals simp [OnlyFire]

@[simp] theorem fireIfReached_frame (s : State) (i : Fin 16) :
    OnlyFireSettled s (fireIfReached s i) := by
  unfold fireIfReached
  repeat' split
  all_goals simp [OnlyFireSettled]

@[simp] theorem fireAll_frame (s : State) : OnlyFireSettled s (fireAll s) := by
  unfold fireAll
  generalize List.finRange 16 = l
  induction l generalizing s with
  | nil => simp [OnlyFireSettled]
  | cons a l ih => simp [OnlyFireSettled, ih]

@[simp] theorem timeSetOp_frame (new : Tick) (input : MeterInput) (s : State) :
    OnlyTimeSet s (timeSetOp new input s) := by
  unfold timeSetOp
  simp [OnlyTimeSet]

@[simp] theorem schedWriteOp_frame (i : Fin 16) (due : Tick) (period : Nat) (a : SchedAction)
    (notify : Bool) (s : State) :
    OnlyFire s (schedWriteOp i due period a notify s) := by
  simp only [schedWriteOp]
  split <;> simp [OnlyFire]

@[simp] theorem schedFreeOp_frame (i : Fin 16) (s : State) :
    OnlyTimeSchedule s (schedFreeOp i s) := by
  unfold schedFreeOp
  simp [OnlyTimeSchedule]

@[simp] theorem schedFreeAll_frame (s : State) : OnlyTimeSchedule s (schedFreeAll s) := by
  unfold schedFreeAll
  simp [OnlyTimeSchedule]

/-! ## The Signal Map -/

@[simp] theorem setPin_frame (s : State) (i : Fin 16) (p : Pin) : OnlyPins s (setPin s i p) := by
  unfold setPin
  simp [OnlyPins]

@[simp] theorem setBinding_frame (s : State) (i : Fin 16) (b : PinBinding) :
    OnlyPins s (setBinding s i b) := by
  unfold setBinding
  simp [OnlyPins]

@[simp] theorem ignitionTanksEdge_frame (rising : Bool) (s : State) :
    OnlyTanksRecs s (ignitionTanksEdge rising s) := by
  unfold ignitionTanksEdge
  repeat' split
  all_goals simp [OnlyTanksRecs]

@[simp] theorem ignitionEdge_frame (rising : Bool) (order : List HandOff) (s : State) :
    OnlyIgnition s (ignitionEdge rising order s) := by
  have key := inOrder_keeps (fun t : State =>
      OnlyIgnitionAct s t)
    order
    [(.ignitionTanks, ignitionTanksEdge true), (.ignitionDrive, ignitionAbort),
      (.ignitionMotion, raiseAllOut)] s (by simp [OnlyIgnitionAct]) (by
        intro a ha t h
        simp only [List.mem_cons, List.not_mem_nil, or_false] at ha
        rcases ha with rfl | rfl | rfl <;> simp [OnlyIgnitionAct, h])
  unfold ignitionEdge
  split <;> simp [OnlyIgnition, key]

@[simp] theorem doorEdge_frame (rising : Bool) (order : List HandOff) (s : State) :
    OnlyDoor s (doorEdge rising order s) := by
  unfold doorEdge
  refine inOrder_keeps (fun t =>
      OnlyDoor s t) _ _ _ (by simp [OnlyDoor]) ?_
  intro a ha t h
  simp only [List.mem_cons, List.not_mem_nil, or_false] at ha
  rcases ha with rfl | rfl <;> simp [OnlyDoor, h]

@[simp] theorem awningEdgeFollow_frame (rising : Bool) (before s : State) :
    OnlyArbiterWake s (awningEdgeFollow rising before s) := by
  unfold awningEdgeFollow
  split <;> simp [OnlyArbiterWake]

@[simp] theorem edgeAct_frame (before : State) (e : InputEvent) (rising : Bool)
    (order : List HandOff) (s : State) :
    OnlyEdge s (edgeAct before e rising order s) := by
  cases e <;> simp only [edgeAct] <;> (try split) <;> simp [OnlyEdge]

@[simp] theorem limitMapping_frame (before : State) (e : InputEvent) (s : State) :
    OnlyArbiterWake s (limitMapping before e s) := by
  unfold limitMapping
  repeat' split
  all_goals simp [OnlyArbiterWake]

@[simp] theorem mappingAct_frame (before : State) (e : InputEvent) (s : State) :
    OnlyEdge s (mappingAct before e s) := by
  cases e <;> simp only [mappingAct] <;> (try split) <;> simp [OnlyEdge]

@[simp] theorem formEvent_frame (i : Fin 16) (e : InputEvent) (order : List HandOff)
    (before s : State) :
    OnlyPin s (formEvent i e order before s) := by
  simp only [formEvent]
  repeat' split
  all_goals simp [OnlyPin]

@[simp] theorem changeBinding_frame (i : Fin 16) (b : PinBinding) (order : List HandOff)
    (s : State) :
    OnlyPin s (changeBinding i b order s) := by
  unfold changeBinding
  repeat' split
  all_goals simp [OnlyPin]

@[simp] theorem joinOp_frame (i : Fin 16) (samples : List Bool) (order : List HandOff) (s : State) :
    OnlyPin s (joinOp i samples order s) := by
  unfold joinOp
  repeat' split
  all_goals simp [OnlyPin]

@[simp] theorem debounceOp_frame (i : Fin 16) (samples : List Bool) (order : List HandOff)
    (s : State) :
    OnlyPin s (debounceOp i samples order s) := by
  unfold debounceOp
  repeat' split
  all_goals simp [OnlyPin]

@[simp] theorem pulseOp_frame (i : Fin 16) (level : Bool) (s : State) :
    OnlyPin s (pulseOp i level s) := by
  unfold pulseOp
  simp [OnlyPin]

@[simp] theorem releaseForm_frame (i : Fin 16) (old : Pin) (order : List HandOff)
    (before s : State) :
    OnlyPin s (releaseForm i old order before s) := by
  unfold releaseForm
  repeat' split
  all_goals simp [OnlyPin]

@[simp] theorem pinMapOp_frame (i : Fin 16) (new : Pin) (level : Bool) (order : List HandOff)
    (s : State) :
    OnlyPin s (pinMapOp i new level order s) := by
  simp only [pinMapOp]
  repeat' split
  all_goals simp [OnlyPin]

/-! ## Parameters, flags and the restart -/

@[simp] theorem entryChannelWrite_frame (s : State) : OnlyEntry s (entryChannelWrite s) := by
  unfold entryChannelWrite
  repeat' split
  all_goals simp [OnlyEntry]

@[simp] theorem splitFollow_frame (before s : State) :
    OnlyMotionAwningTailMotionSlotsMotionStepTail s (splitFollow before s) := by
  unfold splitFollow
  repeat' split
  all_goals simp [OnlyMotionAwningTailMotionSlotsMotionStepTail]

@[simp] theorem travelFollow_frame (a : Actuator) (before s : State) :
    OnlyActPosMsActStepMs s (travelFollow a before s) := by
  simp only [travelFollow]
  split <;> simp [OnlyActPosMsActStepMs]

@[simp] theorem silenceFollow_frame (s : State) :
    OnlyLinkAttendedLinkSilence s (silenceFollow s) := by
  unfold silenceFollow
  simp [OnlyLinkAttendedLinkSilence]

/-- Everything that an accepted parameter write can do at its owner (R212). -/
theorem paramFollow_cases (P : State → Prop) (id : Nat) (order : List HandOff) (before s : State)
    (hcap : P (capacityFollow before.params.capacity s)) (hbud : P (recomputeBudget s))
    (hdraw : P (lampsFollowDraw s)) (hre : P (reevaluate before s)) (hcapL : P (lampsFollowCap s))
    (hfade : P (lampsRetarget s)) (hheat : P (heaterFollow before s))
    (hcal : ∀ i, P (tankParamsFollow (recalibrateTank i s))) (htank : P (tankParamsFollow s))
    (hdrain : P (autoDrainFollow order s)) (hsplit : P (splitFollow before s))
    (htravel : ∀ a, P (arbitrate (stowWatch before (travelFollow a before s))))
    (hidle : P (touchIdle s)) (hsil : P (silenceFollow s)) (hnone : P s) :
    P (paramFollow id order before s) := by
  unfold paramFollow
  repeat' with_reducible refine ite_keeps P _ _ _ ?_ ?_
  all_goals with_reducible first | assumption | exact hcal _ | exact htravel _

@[simp] theorem paramFollow_frame (id : Nat) (order : List HandOff) (before s : State) :
    OnlyParamFollow s (paramFollow id order before s) := by
  refine paramFollow_cases (OnlyParamFollow s) id order before s ?_ ?_ ?_ ?_ ?_ ?_ ?_ ?_ ?_ ?_ ?_
      ?_ ?_ ?_ ?_ <;> (try intro i) <;> simp [OnlyParamFollow]

@[simp] theorem writeParam_frame (id : Nat) (v : Int) (order : List HandOff) (s : State) :
    OnlyParamWrite s ((writeParam id v order s).2) := by
  simp only [writeParam]
  split
  · split <;> simp [OnlyParamWrite]
  · simp [OnlyParamWrite]

@[simp] theorem writeParams_frame (order : List HandOff) (ps : List (Nat × Int)) (s : State) :
    OnlyParamWrite s ((writeParams order ps s).2) := by
  induction ps generalizing s with
  | nil => simp [OnlyParamWrite, writeParams]
  | cons a ps ih => simp [OnlyParamWrite, writeParams, ih]

@[simp] theorem ownerClear_frame (f : Flag) (s : State) : OnlyClears s (ownerClear f s) := by
  unfold ownerClear
  repeat' split
  all_goals simp [OnlyClears]

@[simp] theorem clearNamed_frame (s : State) (f : Flag) : OnlyClears s (clearNamed s f) := by
  unfold clearNamed
  repeat' split
  all_goals simp [OnlyClears]

@[simp] theorem foldClearNamed_frame (fs : List Flag) (s : State) :
    OnlyClears s (fs.foldl clearNamed s) := by
  induction fs generalizing s with
  | nil => simp [OnlyClears]
  | cons a fs ih => simp [OnlyClears, ih]

@[simp] theorem flagClearOp_frame (numbers : List Byte) (s : State) :
    OnlyClears s ((flagClearOp numbers s).2) := by
  unfold flagClearOp
  repeat' split
  all_goals simp [OnlyClears]

@[simp] theorem tableRestart_frame (s : State) : OnlyTableRestart s (tableRestart s) := by
  simp [OnlyTableRestart, tableRestart]

@[simp] theorem lampsRestart_frame (s : State) :
    OnlyLampsChansLampsEntryDue s (lampsRestart s) := by
  unfold lampsRestart
  simp [OnlyLampsChansLampsEntryDue]

@[simp] theorem pumpRestart_frame (s : State) : OnlyTanksPumpDue s (pumpRestart s) := by
  unfold pumpRestart
  simp [OnlyTanksPumpDue]

@[simp] theorem timeRestart_frame (s : State) :
    OnlyTimeIdleDueTimePowerTimeSchedule s (timeRestart s) := by
  simp [OnlyTimeIdleDueTimePowerTimeSchedule, timeRestart]

@[simp] theorem reflagLatches_frame (s : State) : OnlyLinkFlags s (reflagLatches s) := by
  simp only [reflagLatches]
  repeat' split
  all_goals simp [OnlyLinkFlags]

@[simp] theorem presentAll_frame (order : List HandOff) (s : State) :
    OnlyPresent s (presentAll order s) := by
  unfold presentAll
  refine inOrder_keeps (fun t =>
      OnlyPresent s t) _ _ _ (by simp [OnlyPresent]) ?_
  intro a ha t h
  simp only [List.mem_cons, List.not_mem_nil, or_false] at ha
  rcases ha with rfl | rfl | rfl <;> simp [OnlyPresent, h]

@[simp] theorem restartOverrides_frame (s : State) : OnlyCompleteWake s (restartOverrides s) := by
  unfold restartOverrides
  repeat' split
  all_goals simp [OnlyCompleteWake]

@[simp] theorem restartOp_frame (order : List HandOff) (s : State) :
    OnlyRestart s (restartOp order s) := by
  simp [OnlyRestart, restartOp]

end Sys2Proof.Machine
end

