-- ==== Sys2Proof/Laws/PerInstr.lean ====
section
/-! SUPPORT. Well-formedness, command by command: a well-formed request fits a frame and carries a kind
code of R217's table; a well-formed command that is no request carries readings that the converters can
give. -/

namespace Sys2Proof.Laws.WellFormedness

open Sys2Proof Sys2Proof.Machine

/-- The readings of a command lie in the converters' ranges (R5, R75, R90, R100). -/
def readingsInRange : Instr → Prop
  | .timeSet _ _ input => -400 ≤ input.temperature ∧ input.temperature ≤ 850
  | .intervalEnd input => -400 ≤ input.temperature ∧ input.temperature ≤ 850
  | .dormantEntry input => -400 ≤ input.temperature ∧ input.temperature ≤ 850
  | .leavingToActive input => -400 ≤ input.temperature ∧ input.temperature ≤ 850
  | .deviceTimeAdvance _ input => -400 ≤ input.temperature ∧ input.temperature ≤ 850
  | .cabinConversion t => -400 ≤ t ∧ t ≤ 850
  | .senderConversion f g b => f ≤ 4095 ∧ g ≤ 4095 ∧ b ≤ 4095
  | .temperatureConversion f g _ => (-400 ≤ f ∧ f ≤ 850) ∧ (-400 ≤ g ∧ g ≤ 850)
  | _ => True

/-- What the check of a command guarantees. -/
def Statement (c : Instr) : Prop :=
  c.wellFormed = true →
    readingsInRange c ∧
      ∀ kind tag p, requestOf c = some (kind, tag, p) →
        p.length ≤ 58 ∧ 1 ≤ kind ∧ kind ≤ 30

/-- A request with its kind code, its payload checked. -/
theorem of_request {k : Nat} {tag : Byte} {p : List Byte} (h : payloadOk p = true) (lo : 1 ≤ k)
    (hi : k ≤ 30) :
    ∀ kind tag' p', some (k, tag, p) = some (kind, tag', p') →
      p'.length ≤ 58 ∧ 1 ≤ kind ∧ kind ≤ 30 := by
  intro kind tag' p' he
  simp only [Option.some.injEq, Prod.mk.injEq] at he
  obtain ⟨rfl, -, rfl⟩ := he
  exact ⟨by simpa [payloadOk] using h, lo, hi⟩

/-- A command that is no request. -/
theorem no_request : ∀ (kind : Nat) (tag : Byte) (p : List Byte),
    (none : Option (Nat × Byte × List Byte)) = some (kind, tag, p) →
      p.length ≤ 58 ∧ 1 ≤ kind ∧ kind ≤ 30 := by
  intro _ _ _ h
  cases h

theorem temperature_range {t : Int} (h : temperatureOk t = true) : -400 ≤ t ∧ t ≤ 850 := by
  simpa [temperatureOk] using h

theorem summary (tag : Byte) (payload : List Byte) : Statement (.summary tag payload) :=
  fun h => ⟨trivial, of_request h (by decide) (by decide)⟩

theorem paramWrite (tag : Byte) (payload : List Byte) (order : List HandOff) :
    Statement (.paramWrite tag payload order) :=
  fun h => ⟨trivial, of_request h (by decide) (by decide)⟩

theorem paramRead (tag : Byte) (payload : List Byte) : Statement (.paramRead tag payload) :=
  fun h => ⟨trivial, of_request h (by decide) (by decide)⟩

theorem loadDemand (tag : Byte) (payload : List Byte) : Statement (.loadDemand tag payload) :=
  fun h => ⟨trivial, of_request h (by decide) (by decide)⟩

theorem loadQuery (tag : Byte) (payload : List Byte) : Statement (.loadQuery tag payload) :=
  fun h => ⟨trivial, of_request h (by decide) (by decide)⟩

theorem heatMode (tag : Byte) (payload : List Byte) : Statement (.heatMode tag payload) :=
  fun h => ⟨trivial, of_request h (by decide) (by decide)⟩

theorem movePost (tag : Byte) (payload : List Byte) : Statement (.movePost tag payload) :=
  fun h => ⟨trivial, of_request h (by decide) (by decide)⟩

theorem moveCancel (tag : Byte) (payload : List Byte) : Statement (.moveCancel tag payload) :=
  fun h => ⟨trivial, of_request h (by decide) (by decide)⟩

theorem moveQuery (tag : Byte) (payload : List Byte) : Statement (.moveQuery tag payload) :=
  fun h => ⟨trivial, of_request h (by decide) (by decide)⟩

theorem schedWrite (tag : Byte) (payload : List Byte) : Statement (.schedWrite tag payload) :=
  fun h => ⟨trivial, of_request h (by decide) (by decide)⟩

theorem schedRead (tag : Byte) (payload : List Byte) : Statement (.schedRead tag payload) :=
  fun h => ⟨trivial, of_request h (by decide) (by decide)⟩

theorem schedFree (tag : Byte) (payload : List Byte) : Statement (.schedFree tag payload) :=
  fun h => ⟨trivial, of_request h (by decide) (by decide)⟩

theorem pinMap (tag : Byte) (payload : List Byte) (level : Bool) (order : List HandOff) :
    Statement (.pinMap tag payload level order) :=
  fun h => ⟨trivial, of_request h (by decide) (by decide)⟩

theorem pinRead (tag : Byte) (payload : List Byte) (levels : BitVec 16) :
    Statement (.pinRead tag payload levels) :=
  fun h => ⟨trivial, of_request h (by decide) (by decide)⟩

theorem tankQuery (tag : Byte) (payload : List Byte) : Statement (.tankQuery tag payload) :=
  fun h => ⟨trivial, of_request h (by decide) (by decide)⟩

theorem meterQuery (tag : Byte) (payload : List Byte) : Statement (.meterQuery tag payload) :=
  fun h => ⟨trivial, of_request h (by decide) (by decide)⟩

theorem flagClear (tag : Byte) (payload : List Byte) : Statement (.flagClear tag payload) :=
  fun h => ⟨trivial, of_request h (by decide) (by decide)⟩

theorem noticeMask (tag : Byte) (payload : List Byte) : Statement (.noticeMask tag payload) :=
  fun h => ⟨trivial, of_request h (by decide) (by decide)⟩

theorem drainOpen (tag : Byte) (payload : List Byte) (order : List HandOff) :
    Statement (.drainOpen tag payload order) :=
  fun h => ⟨trivial, of_request h (by decide) (by decide)⟩

theorem drainClose (tag : Byte) (payload : List Byte) (order : List HandOff) :
    Statement (.drainClose tag payload order) :=
  fun h => ⟨trivial, of_request h (by decide) (by decide)⟩

theorem accountSet (tag : Byte) (payload : List Byte) : Statement (.accountSet tag payload) :=
  fun h => ⟨trivial, of_request h (by decide) (by decide)⟩

theorem accountFull (tag : Byte) (payload : List Byte) : Statement (.accountFull tag payload) :=
  fun h => ⟨trivial, of_request h (by decide) (by decide)⟩

theorem sceneRecall (tag : Byte) (payload : List Byte) : Statement (.sceneRecall tag payload) :=
  fun h => ⟨trivial, of_request h (by decide) (by decide)⟩

theorem sceneStore (tag : Byte) (payload : List Byte) : Statement (.sceneStore tag payload) :=
  fun h => ⟨trivial, of_request h (by decide) (by decide)⟩

theorem timeSet (tag : Byte) (payload : List Byte) (input : MeterInput) :
    Statement (.timeSet tag payload input) :=
  fun h =>
  have h := (Bool.and_eq_true _ _).mp h
  ⟨temperature_range h.2, of_request h.1 (by decide) (by decide)⟩

theorem timeQuery (tag : Byte) (payload : List Byte) : Statement (.timeQuery tag payload) :=
  fun h => ⟨trivial, of_request h (by decide) (by decide)⟩

theorem recalibrate (tag : Byte) (payload : List Byte) : Statement (.recalibrate tag payload) :=
  fun h => ⟨trivial, of_request h (by decide) (by decide)⟩

theorem dormant (tag : Byte) (payload : List Byte) : Statement (.dormant tag payload) :=
  fun h => ⟨trivial, of_request h (by decide) (by decide)⟩

theorem restart (tag : Byte) (payload : List Byte) : Statement (.restart tag payload) :=
  fun h => ⟨trivial, of_request h (by decide) (by decide)⟩

theorem hold (tag : Byte) (payload : List Byte) : Statement (.hold tag payload) :=
  fun h => ⟨trivial, of_request h (by decide) (by decide)⟩

theorem startByte : Statement .startByte :=
  fun _ => ⟨trivial, no_request⟩

theorem validFrame (bytes : List Byte) : Statement (.validFrame bytes) :=
  fun _ => ⟨trivial, no_request⟩

theorem frameDiscard (bytes : List Byte) (framing : Bool) :
    Statement (.frameDiscard bytes framing) :=
  fun _ => ⟨trivial, no_request⟩

theorem receiveTimeout : Statement .receiveTimeout :=
  fun _ => ⟨trivial, no_request⟩

theorem noticeBegin : Statement .noticeBegin :=
  fun _ => ⟨trivial, no_request⟩

theorem transmitEnd : Statement .transmitEnd :=
  fun _ => ⟨trivial, no_request⟩

theorem restartPerform (order : List HandOff) : Statement (.restartPerform order) :=
  fun _ => ⟨trivial, no_request⟩

theorem holdEnd : Statement .holdEnd :=
  fun _ => ⟨trivial, no_request⟩

theorem hostSilence : Statement .hostSilence :=
  fun _ => ⟨trivial, no_request⟩

theorem powerOnReset : Statement .powerOnReset :=
  fun _ => ⟨trivial, no_request⟩

theorem intervalEnd (input : MeterInput) : Statement (.intervalEnd input) :=
  fun h => ⟨temperature_range h, no_request⟩

theorem fadeEnd (channel : Fin 6) : Statement (.fadeEnd channel) :=
  fun _ => ⟨trivial, no_request⟩

theorem entryHoldEnd : Statement .entryHoldEnd :=
  fun _ => ⟨trivial, no_request⟩

theorem cabinConversion (temperature : Int) : Statement (.cabinConversion temperature) :=
  fun h => ⟨temperature_range h, no_request⟩

theorem glowEnd : Statement .glowEnd :=
  fun _ => ⟨trivial, no_request⟩

theorem purgeEnd : Statement .purgeEnd :=
  fun _ => ⟨trivial, no_request⟩

theorem senderConversion (fresh grey black : Nat) :
    Statement (.senderConversion fresh grey black) :=
  fun h =>
  ⟨by simpa [Instr.wellFormed, senderOk, and_assoc, readingsInRange] using h, no_request⟩

theorem temperatureConversion (fresh grey : Int) (order : List HandOff) :
    Statement (.temperatureConversion fresh grey order) :=
  fun h =>
  have h := (Bool.and_eq_true _ _).mp h
  ⟨⟨temperature_range h.1, temperature_range h.2⟩, no_request⟩

theorem dangerDue (tank : FrostTank) (order : List HandOff) : Statement (.dangerDue tank order) :=
  fun _ => ⟨trivial, no_request⟩

theorem pumpRunExpiry : Statement .pumpRunExpiry :=
  fun _ => ⟨trivial, no_request⟩

theorem grantWaitExpiry : Statement .grantWaitExpiry :=
  fun _ => ⟨trivial, no_request⟩

theorem settleEnd : Statement .settleEnd :=
  fun _ => ⟨trivial, no_request⟩

theorem motorStall : Statement .motorStall :=
  fun _ => ⟨trivial, no_request⟩

theorem backoffEnd : Statement .backoffEnd :=
  fun _ => ⟨trivial, no_request⟩

theorem retryWaitEnd : Statement .retryWaitEnd :=
  fun _ => ⟨trivial, no_request⟩

theorem motionTimeout : Statement .motionTimeout :=
  fun _ => ⟨trivial, no_request⟩

theorem destinationReached : Statement .destinationReached :=
  fun _ => ⟨trivial, no_request⟩

theorem brakeHoldEnd : Statement .brakeHoldEnd :=
  fun _ => ⟨trivial, no_request⟩

theorem gapTimerEnd : Statement .gapTimerEnd :=
  fun _ => ⟨trivial, no_request⟩

theorem windWindowEnd : Statement .windWindowEnd :=
  fun _ => ⟨trivial, no_request⟩

theorem windPulse (pin : Fin 16) (level : Bool) : Statement (.windPulse pin level) :=
  fun _ => ⟨trivial, no_request⟩

theorem pinJoin (pin : Fin 16) (samples : List Bool) (order : List HandOff) :
    Statement (.pinJoin pin samples order) :=
  fun _ => ⟨trivial, no_request⟩

theorem debounceComplete (pin : Fin 16) (samples : List Bool) (order : List HandOff) :
    Statement (.debounceComplete pin samples order) :=
  fun _ => ⟨trivial, no_request⟩

theorem scheduleFire (entry : Fin 16) : Statement (.scheduleFire entry) :=
  fun _ => ⟨trivial, no_request⟩

theorem idleDue : Statement .idleDue :=
  fun _ => ⟨trivial, no_request⟩

theorem dormantEntry (input : MeterInput) : Statement (.dormantEntry input) :=
  fun h => ⟨temperature_range h, no_request⟩

theorem leavingToActive (input : MeterInput) : Statement (.leavingToActive input) :=
  fun h => ⟨temperature_range h, no_request⟩

theorem calibrationEnd (fastTime : Nat) : Statement (.calibrationEnd fastTime) :=
  fun _ => ⟨trivial, no_request⟩

theorem calibrationNoSteps : Statement .calibrationNoSteps :=
  fun _ => ⟨trivial, no_request⟩

theorem deviceTimeAdvance (edge : ClockEdge) (input : MeterInput) :
    Statement (.deviceTimeAdvance edge input) :=
  fun h => ⟨temperature_range h, no_request⟩

theorem driveMillisecond (sample : MotorSample) : Statement (.driveMillisecond sample) :=
  fun _ => ⟨trivial, no_request⟩

theorem unknownKindRequest (kind tag : Byte) (payload : List Byte) :
    Statement (.unknownKindRequest kind tag payload) :=
  fun _ => ⟨trivial, no_request⟩

end Sys2Proof.Laws.WellFormedness
end

