-- ==== Sys2Proof/Laws/Walk.lean ====
section
/-! SUPPORT. What the walk never touches: no operation of the lists and of the walk changes an origin,
and none raises a flag but LOAD_SHED. -/

namespace Sys2Proof.Machine

/-- From `s` to `t` every record keeps its origins and every flag but LOAD_SHED its bits. -/
structure SameDemands (s t : State) : Prop where
  origins : ∀ ch : Channel, (t.table.recs[ch]).origins = (s.table.recs[ch]).origins
  flags : ∀ f, f ≠ .loadShed → flagBits t f = flagBits s f

namespace SameDemands

theorem refl (s : State) : SameDemands s s := ⟨fun _ => rfl, fun _ _ => rfl⟩

theorem trans {s t u : State} (h : SameDemands s t) (k : SameDemands t u) : SameDemands s u :=
  ⟨fun ch => (k.origins ch).trans (h.origins ch),
    fun f hf => (k.flags f hf).trans (h.flags f hf)⟩

/-- A change that leaves the records and the flags alone. -/
theorem of_eq {s t : State} (hr : t.table.recs = s.table.recs)
    (hf : t.link.flags = s.link.flags) : SameDemands s t :=
  ⟨fun ch => by rw [hr], fun f _ => flagBits_of_flags hf f⟩

theorem get {s t : State} (h : SameDemands s t) (ch : Channel) :
    Machine.origins t ch = Machine.origins s ch := h.origins ch

end SameDemands

/-- A record replaced by one with the same origins. -/
theorem setRec_same (s : State) (ch : Channel) (r : LoadRec)
    (h : r.origins = (s.table.recs[ch]).origins) : SameDemands s (setRec s ch r) := by
  refine ⟨fun c => ?_, fun f _ => flagBits_of_flags (by simp) f⟩
  simp only [setRec, State.setTable_table, Fin.getElem_fin, vput_getElem, ← Fin.ext_iff]
  split
  · next he => subst he; exact h
  · rfl

theorem setWaiting_same (s : State) (l : List Channel) : SameDemands s (setWaiting s l) :=
  .of_eq (by simp) (by simp)

theorem setGranted_same (s : State) (l : List Channel) : SameDemands s (setGranted s l) :=
  .of_eq (by simp) (by simp)

theorem putInOrder_same (s : State) (ch : Channel) : SameDemands s (putInOrder s ch) := by
  unfold putInOrder
  split <;> exact setWaiting_same _ _

theorem startWaiting_same (s : State) (ch : Channel) : SameDemands s (startWaiting s ch) :=
  .trans (setRec_same s ch { s.table.recs[ch] with waitStart := some s.now } rfl)
    (putInOrder_same _ ch)

theorem grant_same (s : State) (ch : Channel) : SameDemands s (grant s ch) :=
  .trans (setRec_same s ch { s.table.recs[ch] with waitStart := none, shedMark := false } rfl)
    (.of_eq rfl rfl)

theorem grantIfZero_same (s : State) (ch : Channel) : SameDemands s (grantIfZero s ch) := by
  unfold grantIfZero
  split
  · exact grant_same s ch
  · exact .refl s

theorem foldl_same {α : Type} (f : State → α → State) (h : ∀ t a, SameDemands t (f t a))
    (l : List α) (s : State) : SameDemands s (l.foldl f s) :=
  foldl_keeps (SameDemands s) f l s (.refl s) (fun t a ht => ht.trans (h t a))

theorem walkStep1_same (s : State) : SameDemands s (walkStep1 s) :=
  foldl_same _ grantIfZero_same _ s

theorem shedRecord_same (s : State) (ch : Channel) : SameDemands s (shedRecord s ch) := by
  unfold shedRecord
  split
  · have h : SameDemands s (enterPurging s) := .of_eq (by simp) (by simp)
    generalize enterPurging s = t at h ⊢
    exact h.trans (setRec_same t ch { t.table.recs[ch] with shedMark := true } rfl)
  · have h := setGranted_same s (s.table.granted.erase ch)
    generalize setGranted s (s.table.granted.erase ch) = t at h ⊢
    exact h.trans ((setRec_same t ch { t.table.recs[ch] with shedMark := true } rfl).trans
      (startWaiting_same _ ch))

theorem shedWhile_same (pick : State → Option Channel) (n : Nat) (s : State) :
    SameDemands s (shedWhile pick n s) := by
  induction n generalizing s with
  | zero => exact .refl s
  | succ n ih =>
    unfold shedWhile
    split
    · exact .refl s
    · exact .trans (shedRecord_same s _) (ih _)

theorem walkStep2_same (s : State) : SameDemands s (walkStep2 s) := by
  have h : SameDemands s (shedWhile pickOver 13 (shedWhile pickUnserved 13 s)) :=
    .trans (shedWhile_same _ _ s) (shedWhile_same _ _ _)
  unfold walkStep2
  simp only
  split
  · refine h.trans ⟨fun ch => by simp, fun f hf => ?_⟩
    simp [Ne.symm hf]
  · exact h

theorem walkStep3_same (l : List Channel) (s : State) : SameDemands s (walkStep3 l s) := by
  induction l generalizing s with
  | nil => exact .refl s
  | cons ch rest ih =>
    unfold walkStep3
    repeat' split
    · exact ih s
    · exact .trans (grant_same s ch) (ih _)
    · exact .refl s
    · exact ih s

/-- A walk changes no origin, and no flag but LOAD_SHED (R37 to R41). -/
theorem walk_same (s : State) : SameDemands s (walk s) :=
  .trans (.trans (walkStep1_same s) (walkStep2_same _)) (walkStep3_same _ _)

/-- The hand-offs of a walk change neither a record nor a flag (R44). -/
theorem handOff_same (before again : List Channel) (s : State) :
    SameDemands s (handOff before again s) :=
  .of_eq (by simp) (by simp)

theorem dropIdle_same (s : State) : SameDemands s (dropIdle s) := by
  refine ⟨fun ch => ?_, fun f _ => flagBits_of_flags (by simp) f⟩
  simp only [dropIdle, State.setTable_table, Fin.getElem_fin, vmap_getElem]
  split <;> rfl

theorem moveReclassed_same (before s : State) : SameDemands s (moveReclassed before s) := by
  unfold moveReclassed
  exact .trans (setWaiting_same s _)
    (.trans (foldl_same _ putInOrder_same _ _) (foldl_same _ putInOrder_same _ _))

theorem enterIfNew_same (s : State) (ch : Channel) : SameDemands s (enterIfNew s ch) := by
  unfold enterIfNew
  split
  · exact startWaiting_same s ch
  · exact .refl s

theorem relist_same (before s : State) : SameDemands s (relist before s) :=
  .trans (.trans (dropIdle_same s) (moveReclassed_same before _)) (foldl_same _ enterIfNew_same _ _)

theorem runWalk_same (n : Nat) (before : List Channel) (s : State) :
    SameDemands s (runWalk n before s) := by
  induction n generalizing before s with
  | zero => exact .refl s
  | succ n ih =>
    have h : SameDemands s (handOff before (regranted s) (walk s)) :=
      .trans (walk_same s) (handOff_same before _ _)
    unfold runWalk
    simp only
    split
    · exact h
    · exact .trans h (.trans (relist_same _ _) (ih _ _))

/-- A re-evaluation event changes no origin, and no flag but LOAD_SHED (R37). -/
theorem reevaluate_same (before s : State) : SameDemands s (reevaluate before s) := by
  unfold reevaluate
  simp only
  split
  · exact relist_same before s
  · exact .trans (relist_same before s) (runWalk_same _ _ _)

theorem reevaluateAlways_same (before s : State) : SameDemands s (reevaluateAlways before s) :=
  .trans (relist_same before s) (runWalk_same _ _ _)

theorem followLamps_same (before s : State) : SameDemands s (followLamps before s) :=
  .of_eq (by simp) (by simp)

/-- A change of origins as one event keeps the origins it was given (R31, R37). -/
theorem originEvent_same (before s : State) : SameDemands s (originEvent before s) :=
  .trans (followLamps_same before s) (reevaluate_same before _)

/-- Adding or withdrawing one origin changes that origin alone. -/
theorem origins_putOrigin (s : State) (ch c : Channel) (k : Origin) (v : Option Nat) :
    origins (putOrigin s ch k v) c = if ch = c then (origins s ch).put k v else origins s c := by
  simp only [origins, putOrigin, setOrigins, setRec, State.setTable_table, Fin.getElem_fin, vput_getElem, ← Fin.ext_iff]
  split <;> rfl

theorem origins_setOrigins (s : State) (ch c : Channel) (o : OriginSet) :
    origins (setOrigins s ch o) c = if ch = c then o else origins s c := by
  simp only [origins, setOrigins, setRec, State.setTable_table, Fin.getElem_fin, vput_getElem, ← Fin.ext_iff]
  split <;> rfl

end Sys2Proof.Machine
end

