-- ==== Sys2Proof/Tests/Slice0.lean ====
section
/-! SUPPORT. The checks of WellFormed against ill-formed terms, tests with values from the manual's worked
examples, and for each statement with hypotheses a witness that meets them. -/

namespace Sys2Proof.Tests

open Sys2Proof Sys2Proof.Machine

set_option maxRecDepth 100000

/-! ## Ill-formed terms (WellFormed.lean) -/

theorem test_cabin_reading_below_the_rail_is_ill_formed :
    (Instr.cabinConversion (-401)).wellFormed = false := by decide

theorem test_tank_temperature_above_the_rail_is_ill_formed :
    (Instr.temperatureConversion 0 851 []).wellFormed = false := by decide

theorem test_battery_temperature_above_the_rail_is_ill_formed :
    (Instr.intervalEnd ⟨[], 851, []⟩).wellFormed = false := by decide

theorem test_sender_reading_of_13_bits_is_ill_formed :
    (Instr.senderConversion 0 4096 0).wellFormed = false := by decide

theorem test_payload_of_59_bytes_is_ill_formed :
    (Instr.paramRead 0 (List.replicate 59 1)).wellFormed = false := by decide

theorem test_named_kind_is_no_unknown_kind : (Instr.unknownKindRequest 30 0 []).wellFormed = false := by
  decide

theorem test_payload_of_a_time_set_is_checked :
    (Instr.timeSet 0 (List.replicate 59 0) ⟨[], 0, []⟩).wellFormed = false := by decide

/-- The refusal of an ill-formed reading leaves no state. -/
theorem test_ill_formed_reading_is_refused :
    exec (.cabinConversion 851) State.reset = .refused (.illFormed "CABIN_CONVERSION") := by rfl

/-! ## Small states -/

/-- The request alone in the inbox. -/
def withRequest (kind : Nat) (tag : Byte) (p : List Byte) (s : State) : State :=
  s.setLink { s.link with inbox := [⟨BitVec.ofNat 8 kind, tag, p⟩] }

def atTick (n : Nat) (s : State) : State := s.setTime { s.time with tick := BitVec.ofNat 32 n }

def inPower (p : PowerState) (s : State) : State := s.setTime { s.time with power := p }

def calibrated (s : State) : State :=
  s.setTime { s.time with calib := .idle, crystal := .good, inc := 131040 }

def withParam (id : Nat) (v : Int) (s : State) : State := s.setParams (s.params.put id v)

/-- A band, published and handed on, with its allowance. -/
def inBand (b : Band) (s : State) : State :=
  let t := s.setMeter { s.meter with socBand := b, band := b }
  let t := t.setHeater { t.heater with ceiling := ceilingOf b }
  t.setTable { t.table with band := b, budget := t.params.nat (19 + b.code) }

/-- An origin on a record, which is the youngest grant. -/
def granted (ch : Channel) (k : Origin) (level : Nat) (s : State) : State :=
  let t := putOrigin s ch k (some level)
  t.setTable { t.table with granted := t.table.granted ++ [ch] }

def bound (i : Fin 16) (e : InputEvent) (b : PinBinding) (s : State) : State :=
  setPin s i ⟨.input, .activeHigh, some (.input e), false, b⟩

/-- The awning at half its travel, with slot 8 ACTIVE toward `action` and the stage in `stage`. -/
def moving (stage : StageState) (action : MoveAction) (s : State) : State :=
  let t := setSlot s 8 ⟨.active, action, none, true, .host, none, 0, 0⟩
  let t := t.setAct { t.act with posMs := some 10000 }
  let t := t.setDrive
    { t.drive with
      stage := stage
      owner := some ⟨.awning, .slot 8⟩
      direction := some (if action = .retract then .retract else .extend)
      blank := 100 }
  granted chDrive .motion 0 t

def after (c : Instr) (s : State) : State :=
  match exec c s with
  | .next t => t
  | _ => s

/-- The payload of the youngest reply. -/
def lastReply (s : State) : List Byte := (s.link.replies.getLast?.map (fun f => f.payload)).getD []

/-! ## The manual's worked examples -/

/-- 11: PARAM_WRITE of 20 with 24,000, 86 with 6 and 11 with 300, with a READY awning slot. -/
def writeThree : State :=
  let p : List Byte := [20, 0, 0, 93, 192, 86, 0, 0, 0, 6, 11, 0, 0, 1, 44]
  withRequest 2 12 p
    (setSlot (inPower .entering (inBand .economy State.reset)) 8
      ⟨.ready, .extend, none, false, .host, none, 0, 0⟩)

theorem test_param_write_reply :
    lastReply (after (.paramWrite 12 [20, 0, 0, 93, 192, 86, 0, 0, 0, 6, 11, 0, 0, 1, 44] [])
      writeThree) = [5, 3, 20, 0, 86, 5, 11, 4] := by decide

theorem test_param_write_budget :
    (after (.paramWrite 12 [20, 0, 0, 93, 192, 86, 0, 0, 0, 6, 11, 0, 0, 1, 44] [])
      writeThree).table.budget = 24000 := by decide

/-- 01, a cold battery at half charge. -/
def coldBattery : State :=
  let s := withParam 1 200000 State.reset
  s.setMeter { s.meter with q := 5760000000, derating := 760 }

theorem test_cold_battery_figures :
    storedSoc coldBattery = 500 ∧ qFull coldBattery = 8755200000 ∧ usable coldBattery = 2995200000 ∧
      usableSoc coldBattery = 342 := by decide

theorem test_discharge_interval : effectiveCharge coldBattery.params (-30000) 16 = -528000 := by decide

theorem test_charge_interval : effectiveCharge coldBattery.params 12000 16 = 188160 := by decide

theorem test_runtime_at_a_steady_load :
    runtime (coldBattery.setMeter
      { coldBattery.meter with q := 5759472000, filtered := -30000 }) = 73 := by decide

/-- 01, the power-on estimate: I = −800 mA, V = 12,700 mV, T_b = +150. -/
def firstInterval : MeterInput := ⟨[⟨-800, 12700⟩], 150, []⟩

def estimated : State := after (.intervalEnd firstInterval) (atTick 16 State.reset)

theorem test_power_on_estimate :
    estimated.meter.q = 2880000000 ∧ usableSoc estimated = 456 ∧ runtime estimated = 2460 := by decide

theorem test_power_on_band :
    estimated.meter.band = .economy ∧ estimated.table.budget = 30000 ∧
      flagBits estimated .bandChange = ⟨true, true⟩ ∧ estimated.meter.chargeInhibit = false := by decide

/-- 01, a capacity change. -/
theorem test_capacity_change :
    (after (.paramWrite 1 [1, 0, 2, 73, 240] [])
      (withRequest 2 1 [1, 0, 2, 73, 240]
        (coldBattery.setMeter { coldBattery.meter with q := 5759472000 }))).meter.q = 4319604000 := by
  decide

/-- 02: FRESH_PAD, LIGHT0, LIGHT2, AUX0, PUMP, HEATER in glow and AUX1, granted in this order. -/
def winterEvening : State :=
  let s := inBand .economy State.reset
  let s := s.setTanks { s.tanks with fresh := { s.tanks.fresh with state := .guard } }
  let s := s.setHeater { s.heater with state := .starting, glowDue := some 960 }
  let lamp : Lamp := ⟨60, 15360, .steady, none, 600⟩
  let s := s.setLamps { s.lamps with chans := vput (vput s.lamps.chans 0 lamp) 2 lamp }
  granted chAux1 .host 100 (granted chHeater .thermostat 0 (granted chPump .switch 0
    (granted chAux0 .host 100 (granted (chLamp 2) .switch 100 (granted (chLamp 0) .host 60
      (granted chFreshPad .frost 0 s))))))

def reserveEvening : State :=
  winterEvening.setTable { winterEvening.table with band := .reserve, budget := 12000 }

theorem test_winter_evening_remainder : c0 winterEvening = 3000 ∧ remainder winterEvening = 8800 := by
  decide

theorem test_band_falls_to_reserve :
    (walk reserveEvening).table.waiting = [chAux0, chAux1] ∧
      (walk reserveEvening).heater.state = .purging ∧ c0 (walk reserveEvening) = 4200 ∧
      s13 (walk reserveEvening) = 6200 := by decide

/-- 02, overdraw: the fifth interval at −68,000 mA sheds AUX1, the youngest of class 3. -/
def overdrawn : State :=
  let s := granted chAux1 .host 100 (granted chAux0 .host 100 (granted (chLamp 0) .host 100
    (granted chPump .switch 0 (inBand .normal State.reset))))
  s.setTable { s.table with overdraw := 4 }

theorem test_overdraw_sheds_the_youngest :
    (overdrawCheck (-68000) overdrawn).table.waiting = [chAux1] ∧
      (overdrawCheck (-68000) overdrawn).table.overdraw = 0 := by decide

/-- 03: the door opens in Economy. The first tick takes the output to 800. -/
def doorOpened : State :=
  after (.debounceComplete 3 (List.replicate 50 true) [])
    (bound 3 .doorOpen (.joined false 0) (inBand .economy State.reset))

theorem test_door_lights_the_entry :
    (doorOpened.lamps.chans[0]).applied = 60 ∧ (doorOpened.lamps.chans[0]).presented = 600 ∧
      doorOpened.lamps.entryDue = some 1920 ∧ isGranted doorOpened (chLamp 0) = true := by decide

theorem test_entry_light_rises :
    ((after (.deviceTimeAdvance .fastTick ⟨[], 250, []⟩) doorOpened).lamps.chans[0]).output = 800 := by
  decide

/-- 04: the glow ends without a flame for the third time. -/
def noFlame : State :=
  let s := bound 9 .heaterFlame (.joined false 0) State.reset
  let s := s.setHeater
    { s.heater with
      state := .starting, frostOrigin := true, effective := .frost, reading := some 35
      sensor := .present, thermostat := .calling, demand := true, failed := 2
      glowDue := some 960 }
  granted chHeater .frost 0 (granted chHeater .thermostat 0 (atTick 960 s))

theorem test_third_failed_start_locks_out :
    (after .glowEnd noFlame).heater.latch = true ∧ (after .glowEnd noFlame).heater.state = .purging ∧
      (after .glowEnd noFlame).heater.purgeDue = some 3840 ∧
      flagSet (after .glowEnd noFlame) .heaterLockout = true := by decide

/-- 05, parking after a drive: the eighth level brings the level in use to 301. -/
def parking : State :=
  let s := atTick 16 State.reset
  s.setTanks
    { s.tanks with
      recs := vput s.tanks.recs 0
        ⟨1, .present, [300, 305, 298, 302, 301, 299, 303], .held (some 420), false⟩ }

theorem test_eighth_parked_level :
    filteredLevel ⟨1, .present, [300, 305, 298, 302, 301, 299, 303, 300], .parked, false⟩ = some 301 := by
  decide

theorem test_level_stays_held_while_driving :
    ((after (.senderConversion 2000 2000 2000)
      (bound 0 .ignitionOn (.joined true 0) parking)).tanks.recs[0]).source = .held (some 420) := by
  decide

/-- 05, a hard frost: 28 gives WATCH; 4 gives GUARD. -/
theorem test_watch_at_28 :
    (after (.temperatureConversion 28 200 []) (atTick 16 State.reset)).tanks.fresh.state = .watch := by
  decide

/-- 05: the danger due instant, 9,600 ticks after the conversion that read −12 in GUARD. -/
def frozen : State :=
  let s := inBand .critical (atTick 16 State.reset)
  s.setTanks { s.tanks with fresh := ⟨.guard, some 4, .present, none⟩ }

theorem test_danger_due_instant :
    (after (.temperatureConversion (-12) 200 []) frozen).tanks.fresh.dangerDue = some 9616 := by decide

def danger : State :=
  frozen.setTanks { frozen.tanks with fresh := ⟨.guard, some (-12), .present, some 16⟩ }

theorem test_hard_frost_drains :
    (after (.dangerDue .fresh []) danger).tanks.fresh.state = .drained ∧
      outputActive (after (.dangerDue .fresh []) danger) .drainValve = true ∧
      pumpGuard (after (.dangerDue .fresh []) danger) = true := by decide

theorem test_drain_close_below_the_watch_exit :
    lastReply (after (.drainClose 9 [] [])
      (withRequest 20 9 [] (danger.setTanks
        { danger.tanks with fresh := ⟨.drained, some 25, .present, none⟩ }))) =
      [8, 4, 0, 0, 0, 25, 1] := by decide

/-- 06, the ignition during an awning move: slot 8 is preempted and both overrides are raised. -/
def ignitionNext : State :=
  let s := bound 2 .awningInLimit (.joined false 0) (moving .running .retract (inBand .economy State.reset))
  bound 0 .ignitionOn (.joined false 499) (s.setAct { s.act with stepMs := some 3000 })

def preempted : State := after (.debounceComplete 0 [true] []) ignitionNext

theorem test_ignition_preempts :
    (slotAt preempted 8).result = some .abortedPreempted ∧ preempted.drive.stage = .braking ∧
      (overrideOf preempted .step).state = .raised ∧
      (overrideOf preempted .awning).state = .raised := by decide

/-- 06, a step blocked by an obstruction: the second back-off is followed by a wait of 2,000 ms. -/
theorem test_second_retry_wait :
    (after .backoffEnd
      (setSlot (moving .backing .extend State.reset) 8
        ⟨.active, .extend, none, true, .host, none, 2, 0⟩)).drive.phaseTimer = 2000 := by decide

/-- 06: MOVE_TO 300 from a reported 700 claims DRIVE at 12,000 mA and is granted in the same walk. -/
def posted : State :=
  let s := inBand .economy State.reset
  after (.movePost 3 [1, 2, 1, 44, 1])
    (withRequest 7 3 [1, 2, 1, 44, 1] (s.setAct { s.act with posMs := some 14000 }))

theorem test_arbiter_takes_a_posted_move :
    (slotAt posted 8).state = .active ∧ posted.drive.stage = .waking ∧
      posted.drive.direction = some .retract ∧ grantedDraw posted chDrive = 12000 := by decide

/-- 07, wind: windows of 12 and then of 17 and 18 pulses. -/
def windy (pulses high : Nat) : State :=
  let s := bound 4 .windPulse (.joined false 0) (atTick 48 (inBand .normal State.reset))
  let s := bound 2 .awningInLimit (.joined false 0) (s.setAct { s.act with posMs := some 12000 })
  s.setWind { s.wind with count := pulses, high := high }

theorem test_twelve_pulses : (after .windWindowEnd (windy 12 0)).wind.speed = 288 := by decide

theorem test_eighteen_pulses_trip :
    (after .windWindowEnd (windy 18 1)).wind.lockout = true ∧
      (overrideOf (after .windWindowEnd (windy 18 1)) .awning).state = .active ∧
      flagSet (after .windWindowEnd (windy 18 1)) .windLockout = true := by decide

/-- 07, a step already out: the stall in the end zone ends it DONE(END_BY_STALL). -/
def stepStalled : State :=
  let s := setSlot State.reset 0 ⟨.active, .extend, none, true, .host, none, 0, 300⟩
  let s := s.setAct { s.act with homing := some 300 }
  granted chDrive .motion 0 (s.setDrive
    { s.drive with
      stage := .running, owner := some ⟨.step, .slot 0⟩, direction := some .extend, stallCount := 20
      stallDue := true
      legTime := 300, blank := 100 })

theorem test_step_ends_by_stall :
    (slotAt (after .motorStall stepStalled) 0).result = some .doneEndByStall ∧
      (after .motorStall stepStalled).act.stepMs = some 3000 := by decide

/-- A heater that runs with its flame on P9. -/
def burning : State :=
  let s := bound 9 .heaterFlame (.joined true 0) State.reset
  granted chHeater .thermostat 0 (s.setHeater
    { s.heater with
      state := .running, demand := true, hostMode := .frost, effective := .frost
      reading := some 35, sensor := .present, thermostat := .calling })

/-- 08, moving the flame sense: the heater runs on when its only pin is set to OFF. -/
theorem test_released_flame_pin_is_no_flame_loss :
    (after (.pinMap 1 [9, 0, 0, 0, 0] true [])
      (withRequest 13 1 [9, 0, 0, 0, 0] burning)).heater.state = .running := by decide

/-- 09: M = 33,546,240 gives Inc = 131,040. -/
theorem test_calibration_result :
    (after (.calibrationEnd 131040)
      (State.reset.setTime
        { State.reset.time with calib := .running 256 33415200 512 })).time.inc = 131040 := by decide

def asleepAt (tick : Nat) (fraction : Nat) : State :=
  inPower .dormant (calibrated (State.reset.setTime
    { State.reset.time with tick := BitVec.ofNat 32 tick, fraction := BitVec.ofNat 16 fraction }))

theorem test_slow_step_adds_one_tick :
    (after (.deviceTimeAdvance (.slowStep 0) ⟨[], 250, []⟩) (asleepAt 1000000 0)).time.tick = 1000001 ∧
      (after (.deviceTimeAdvance (.slowStep 0) ⟨[], 250, []⟩) (asleepAt 1000000 0)).time.fraction =
        65504 := by decide

/-- 09, catching up after a time set: an hourly entry fires once and skips three instants. -/
theorem test_reschedule_after_a_time_set :
    (SchedEntry.reschedule 2200000
      ⟨.armed, some 2000000, 57600, some (.load 10 100), false, some .accepted, 0⟩) =
      ⟨.armed, some 2230400, 57600, some (.load 10 100), false, some .accepted, 3⟩ := by decide

/-- 10: the CRC of the ASCII digits 1 to 9 under the polynomial and start value of R195 (29B1 hex). -/
theorem test_crc : crc16 [49, 50, 51, 52, 53, 54, 55, 56, 57] = 10673 := by decide

/-- 10: the SERVICE notice lists MOVE_DONE, new, and FRESH_LOW, and clears MOVE_DONE. -/
def noticeDue : State :=
  let s := clearFlag State.reset .chargeInhibit
  let s := putFlag (raiseFlag s .moveDone) .freshLow ⟨true, false⟩
  let s := s.setTanks { s.tanks with recs := vput s.tanks.recs 0 ⟨9, .present, [], .parked, true⟩ }
  let s := s.setMeter { s.meter with chargeInhibit := false }
  s.setLink { s.link with noticeCounter := 41 }

theorem test_service_notice :
    (after .noticeBegin noticeDue).link.tx = .notice ⟨64, 41, [2, 2, 143, 49]⟩ ∧
      (after .noticeBegin noticeDue).link.noticeCounter = 42 ∧
      flagSet (after .noticeBegin noticeDue) .moveDone = false ∧
      flagSet (after .noticeBegin noticeDue) .freshLow = true := by decide

/-! ## Witnesses: concrete states and operands that meet the statements' hypotheses -/

/-- Every state that a command has settled. -/
abbrev base : State := State.reset

theorem witness_StepTakesTheFrontCommand :
    (base.setPending [.startByte, .holdEnd]).pending = .startByte :: [.holdEnd] ∧ base.pending = [] := by
  decide

theorem witness_StepKeepsSettled :
    ∃ t, Settled base ∧ step (base.setPending [.startByte]) = .next t ∧ base.pending = [] :=
  ⟨_, by decide, rfl, rfl⟩

/-- Four replies queued, the last place taken, and a flag that is set without its mark. -/
def fullLink : State :=
  let f : Frame := ⟨129, 1, [0]⟩
  let s := putFlag base .freshLow ⟨true, false⟩
  s.setLink { s.link with replies := [f, f, f, f], tx := .reply, inbox := [f, f, f, f] }

theorem witness_LinkInvariantsAreKept :
    ∃ t, MarksOnSetFlags fullLink ∧ QueuesBounded fullLink ∧
      step (fullLink.setPending [.transmitEnd]) = .next t :=
  ⟨_, by decide, by decide, rfl⟩

/-- Granted and waiting records: the winter evening in Reserve after its walk. -/
theorem witness_StepKeepsListsAgree :
    ∃ t, ListsAgree (walk reserveEvening) ∧ 0 < (walk reserveEvening).table.waiting.length ∧
      step (walk reserveEvening) = .next t :=
  ⟨_, by decide, by decide, rfl⟩

/-- The account at its upper and the derating factor at its lower bound. -/
def fullAccount : State := base.setMeter { base.meter with q := 5760000000, derating := 500 }

theorem witness_ParametersAndAccountStayInRange :
    ∃ t, ParamsInRange fullAccount ∧ AccountInRange fullAccount ∧
      step (fullAccount.setPending [.startByte]) = .next t :=
  ⟨_, by decide, by decide, rfl⟩

theorem witness_TheBandChangesAtIntervalEndsOnly :
    ∃ t, exec (.intervalEnd firstInterval) (atTick 16 base) = .next t ∧
      t.meter.band ≠ (atTick 16 base).meter.band :=
  ⟨_, rfl, by decide⟩

theorem witness_TheHeaterStopsOnlyThroughAPurge :
    (∃ t, exec .glowEnd noFlame = .next t ∧ noFlame.heater.state = .starting) ∧
      ∃ t, exec .startByte burning = .next t ∧ burning.heater.state = .running :=
  ⟨⟨_, rfl, by decide⟩, ⟨_, rfl, by decide⟩⟩

theorem witness_RunningIsEnteredFromWakingOrRetryWait :
    (∃ t, exec .settleEnd (moving .waking .extend base) = .next t ∧ t.drive.stage = .running) ∧
      ∃ t, exec .motorStall
        ((moving .running .extend base).setDrive
          { (moving .running .extend base).drive with stallCount := 20, stallDue := true }) = .next t ∧
        t.drive.stage = .backing :=
  ⟨⟨_, rfl, by decide⟩, ⟨_, rfl, by decide⟩⟩

/-- A committed purge, a class 0 demand that waits for the walk, and grants above the budget. -/
def overBudget : State :=
  let s := reserveEvening.setHeater { reserveEvening.heater with state := .purging, purgeDue := some 960 }
  let s := putOrigin s chGreyPad .frost (some 0)
  { s with table := { s.table with waiting := [chGreyPad] } }

theorem witness_AWalkFitsBudgetAndBand :
    overBudget.table.granted.Nodup ∧
      (overBudget.table.waiting ++ overBudget.table.granted).Nodup ∧
      demanded overBudget chGreyPad = true ∧ classOf overBudget chGreyPad = 0 ∧
      demanded overBudget chHeater = true ∧ heaterPhase overBudget = .purge ∧
      0 < (candidates (walk overBudget)).length := by decide

/-- The current at which an interval counts as high, and one mA less. -/
theorem witness_OverdrawCheckCountsAndSheds :
    (-65000 : Int) ≤ -((overdrawn.table.budget : Int) + overdrawn.params.overdrawMargin) ∧
      ¬ (-64999 : Int) ≤ -((overdrawn.table.budget : Int) + overdrawn.params.overdrawMargin) ∧
      4 ≤ overdrawn.table.overdraw ∧ ListsAgree overdrawn ∧
      pickShed overdrawn (candidates overdrawn) = some chAux1 ∧
      4 ≤ ({ overdrawn.table with clear := 4 } : LoadTable).clear := by decide

/-- The shed that falls on a heater in glow. -/
theorem witness_OverdrawCheckCountsAndSheds_heater :
    let s := granted chHeater .thermostat 0
      (base.setHeater { base.heater with state := .starting, glowDue := some 9 })
    let s := s.setTable { s.table with overdraw := 4 }
    pickShed s (candidates s) = some chHeater ∧ heaterPhase s = .glow ∧ ListsAgree s := by decide

theorem witness_EveryTakenRequestIsAnsweredOnce :
    requestOf (.summary 7 []) = some (1, 7, []) ∧ (Instr.summary 7 []).wellFormed = true ∧
      RequestAt 1 7 [] (withRequest 1 7 [] base) ∧
      RequestAt 30 7 [0] ((withRequest 30 7 [0] base).setLink
        { (withRequest 30 7 [0] base).link with replies := fullLink.link.replies.take 3 }) := by decide

/-- Both bounds of the payload, both queues empty, and both full. -/
theorem witness_AFrameOnTheLineArrives :
    ([] : List Byte).length ≤ 58 ∧ (List.replicate 58 (0 : Byte)).length ≤ 58 ∧
      base.link.rx = .hunt ∧ base.link.inbox.length < 4 ∧ Settled base ∧ base.time.power ≠ .dormant ∧
      fullLink.link.rx = .hunt ∧ 4 ≤ fullLink.link.inbox.length ∧ 4 ≤ fullLink.link.replies.length ∧
      (fullLink.setLink { fullLink.link with replies := fullLink.link.replies.take 3 }).link.replies.length
        < 4 := by decide

/-- A request that stands to be taken from the state after reset. -/
abbrev Asked (kind : Nat) (p : List Byte) : Prop :=
  RequestAt kind 7 p (withRequest kind 7 p base) ∧ Settled (withRequest kind 7 p base)

theorem witness_QueriesChangeNothingElse :
    Asked 1 [] ∧ Asked 3 [1] ∧ Asked 3 [1, 2, 3, 4, 5, 105, 106, 0] ∧ Asked 5 [255] ∧ Asked 9 [1, 15] := by
  decide

theorem witness_QueriesChangeNothingElse_others :
    Asked 11 [15] ∧ Asked 14 [255] ∧ Asked 15 [2] ∧ Asked 16 [] ∧ Asked 26 [] := by decide

theorem witness_ParamReadReportsEachIdentifier :
    Asked 3 [0] ∧ Asked 3 [1, 105, 106, 0, 255, 54, 57, 58] := by decide

theorem witness_RequestsThatOnlyAnswerOrWait :
    Asked 4 [1] ∧ requestOf (.loadDemand 7 [1]) = some (4, 7, [1]) ∧ lengthAllowed 4 1 = false ∧
      Asked 0 [] ∧ unknownKindOk 0 = true ∧ Asked 64 [] ∧ unknownKindOk 64 = true ∧
      4 ≤ fullLink.link.replies.length ∧ (asleepAt 0 0).time.power = .dormant ∧
      (Instr.loadDemand 7 [1]).wellFormed = true := by decide

/-- The ends of a range, a value past it, an unknown identifier, and one that acts at its next use. -/
theorem witness_ParamWriteOfOnePair :
    Asked 2 (2 :: i32 (1000#32).toInt) ∧ judgeParam base 2 1000 = .accepted ∧
      Asked 2 (2 :: i32 (1001#32).toInt) ∧ judgeParam base 2 1001 = .range ∧
      Asked 2 (0 :: i32 (0#32).toInt) ∧ paramSpec 0 = none ∧ Asked 2 (106 :: i32 (0#32).toInt) ∧
      paramSpec 106 = none ∧ Asked 2 (1 :: i32 (10000#32).toInt) ∧
      judgeParam base 1 10000 = .accepted := by decide

/-- A heater locked out, its flag set and its latch. -/
def lockedOut : State :=
  let s := base.setHeater { base.heater with state := .lockout, failed := 3, latch := true }
  raiseFlag s .heaterLockout

theorem witness_FlagClearByKind :
    Asked 17 [12] ∧ Asked 17 (List.replicate 21 1) ∧ Asked 17 [0] ∧ Asked 17 [22] ∧
      RequestAt 17 7 [9] (withRequest 17 7 [9] lockedOut) ∧
      Settled (withRequest 17 7 [9] lockedOut) ∧
      flagSet lockedOut .heaterLockout = true ∧ lockedOut.heater.latch = true := by decide

theorem witness_NoticeMaskSetsTheLevels : Asked 18 [0, 1, 2] ∧ Asked 18 [3, 0, 0] := by decide

theorem witness_NoticeBeginReportsALevel :
    (base.link.tx = .free ∧ base.link.replies = [] ∧ base.time.power = .active ∧ base.link.hold = 0 ∧
      base.link.restartPending = false ∧ levelMasked base .energy = false) ∧
      (∃ f : Flag, f.level = .energy ∧ (flagBits base f).mark = true) ∧
      (∀ l' : FlagLevel, l'.code < FlagLevel.energy.code →
        levelMasked base l' = true ∨ ∀ f : Flag, f.level = l' → (flagBits base f).mark = false) ∧
      MarksOnSetFlags base ∧ Settled base := by
  refine ⟨by decide, ⟨.chargeInhibit, rfl, rfl⟩, ?_, by decide, by decide⟩
  intro l' h
  cases l'
  · right
    intro f hf
    cases f <;> first | rfl | cases hf
  · exact absurd h (by decide)
  · exact absurd h (by decide)

theorem witness_TransmitEndTakesTheNextReply :
    fullLink.link.tx ≠ .free ∧ Settled (settle fullLink fullLink) ∧
      (settle fullLink fullLink).link.tx = .reply := by decide

theorem witness_ReceiverEvents :
    Settled base ∧ base.time.power = .active ∧ base.link.rx = .hunt ∧
      (1#8).toNat < 2 ∧ 60 < (61#8).toNat ∧
      (0#8).toNat * 256 + (0#8).toNat ≠ (crc16 (coveredBytes ⟨1, 7, []⟩)).toNat ∧
      (after .startByte base).link.rx = .length ∧ Settled (after .startByte base) ∧
      (base.setLink { base.link with hold := 1 }).link.hold = 1 ∧
      Settled (base.setLink { base.link with hold := 1 }) := by decide

/-- The host has gone silent while a lamp and AUX0 are demanded by it. -/
def silent : State :=
  let s := granted chAux0 .host 100 (granted (chLamp 0) .host 60 base)
  s.setLink { s.link with silence := some 0 }

theorem witness_HostSilenceWithdrawsClassThree :
    silent.link.silence = some 0 ∧ Settled silent ∧ demandClass silent chAux0 = some 3 ∧
      demandClass silent (chLamp 0) = some 2 := by decide

/-- A calibrated part with nothing to do, for DORMANT and RECALIBRATE. -/
def quiet : State := settle (calibrated base) (calibrated base)

theorem witness_RecalibrateRestartHoldDormant :
    RequestAt 27 7 [] (withRequest 27 7 [] quiet) ∧ Settled (withRequest 27 7 [] quiet) ∧
      quiet.time.power = .active ∧ quiet.time.calib = .idle ∧ Asked 27 [] ∧ base.time.calib ≠ .idle ∧
      Asked 29 [] ∧ Asked 30 [0, 0] ∧ Asked 30 [255, 255] := by decide

theorem witness_RecalibrateRestartHoldDormant_dormant :
    RequestAt 28 7 [] (withRequest 28 7 [] quiet) ∧ quiet.time.crystal ≠ .fault ∧
      activities (withRequest 28 7 [] quiet) = [false, false, false, false, false, false] ∧
      Asked 28 [] ∧ (activities (withRequest 28 7 [] base)).any id = true := by decide

/-- The lowest and the highest channel with levels. -/
theorem witness_LoadDemandOfALevelChannel :
    Asked 4 [0, 0] ∧ Asked 4 [5, 100] ∧ Asked 4 [10, 101] ∧ Asked 4 [11, 255] := by decide

/-- The guard holds at reset, where no level is known; with the dry limit at 0 it does not. -/
theorem witness_LoadDemandOfThePumpAndTheRest :
    Asked 4 [7, 0] ∧ Asked 4 [7, 1] ∧ pumpGuard (withRequest 4 7 [7, 1] base) = true ∧
      pumpGuard (withRequest 4 7 [7, 1] (withParam 75 0 base)) = false ∧
      Settled (withRequest 4 7 [7, 1] (withParam 75 0 base)) ∧
      Asked 4 [6, 0] ∧ Asked 4 [12, 0] ∧ Asked 4 [255, 0] := by decide

theorem witness_HeatModeSetsTheHostMode :
    Asked 6 [0] ∧ Asked 6 [3] ∧ (3#8).toNat = HeatMode.comfort.code ∧ Asked 6 [255] ∧ Asked 6 [4] ∧
      Asked 6 [254] := by decide

theorem witness_ScenesAreRecalledAndStored :
    Asked 23 [0] ∧ Asked 23 [3] ∧ Asked 23 [4] ∧ Asked 24 [0] ∧ Asked 24 [3] ∧ Asked 24 [255] := by
  decide

/-- A granted lamp whose fall has come to its end, and an entry hold that has. -/
def fallen : State :=
  let s := granted (chLamp 0) .entry 30 (atTick 1920 base)
  s.setLamps
    { s.lamps with
      chans := vput s.lamps.chans 0 ⟨30, 7680, .falling, some 60, 600⟩
      entryDue := some 1920 }

theorem witness_FadeEndAndEntryHoldEnd :
    Settled fallen ∧ fadeDone fallen 0 = true ∧ isGranted fallen (chLamp 0) = true ∧
      ListsAgree fallen ∧ dueReached fallen.now fallen.lamps.entryDue = true := by decide

theorem witness_CabinConversionDecidesTheThermostat :
    temperatureOk (-400) = true ∧ temperatureOk 850 = true ∧ temperatureOk 40 = true ∧
      reached (atTick 16 base).now (atTick 16 base).heater.cabinDue = true ∧ Settled (atTick 16 base) ∧
      reached (atTick 960 burning).now burning.heater.cabinDue = true ∧ Settled (atTick 960 burning) ∧
      setpointOf burning.params burning.heater.effective = some 50 := by decide

theorem witness_GlowEndTestsTheFlame :
    noFlame.heater.state = .starting ∧ dueReached noFlame.now noFlame.heater.glowDue = true ∧
      Settled noFlame ∧ eventMapped noFlame .heaterFlame = true ∧
      eventActive noFlame .heaterFlame = false ∧ 2 ≤ noFlame.heater.failed ∧
      eventMapped (setPin noFlame 9 Pin.reset) .heaterFlame = false ∧
      Settled (setPin noFlame 9 Pin.reset) := by decide

/-- A purge that has come to its end, with the demand and with the failed-start count. -/
def purged (failed : Nat) (demand : Bool) : State :=
  noFlame.setHeater
    { noFlame.heater with
      state := .purging, failed := failed, demand := demand, glowDue := none, purgeDue := some 960 }

theorem witness_PurgeEndLeavesThePurge :
    (purged 3 true).heater.state = .purging ∧
      dueReached (purged 3 true).now (purged 3 true).heater.purgeDue = true ∧
      Settled (purged 3 true) ∧ Settled (purged 2 true) ∧ Settled (purged 2 false) := by decide

/-- The pump has run for its whole time. -/
def pumping : State :=
  let s := granted chPump .switch 0 (atTick 16 (withParam 75 0 base))
  s.setTanks { s.tanks with pumpDue := some 16 }

theorem witness_TankSendersAndPumpExpiry :
    dueReached parking.now parking.tanks.senderDue = true ∧ Settled parking ∧
      eventActive parking .ignitionOn = false ∧ dueReached pumping.now pumping.tanks.pumpDue = true ∧
      Settled pumping ∧ ListsAgree pumping := by decide

theorem witness_TemperatureConversionMovesTheControllers :
    temperatureOk (-400) = true ∧ temperatureOk (-10) = true ∧ temperatureOk 850 = true ∧
      reached frozen.now frozen.tanks.tempDue = true ∧ Settled frozen ∧
      frozen.params.dangerTemperature < frozen.params.dangerRelease ∧
      frozen.params.dangerRelease < frozen.params.guardEntry ∧
      frozen.params.guardEntry < frozen.params.guardExit ∧
      frozen.params.guardExit < frozen.params.watchEntry ∧
      frozen.params.watchEntry < frozen.params.watchExit := by decide

theorem witness_DangerDueDrainsOrFlags :
    dueReached danger.now (frostCtl danger .fresh).dangerDue = true ∧ Settled danger ∧
      danger.params.autoDrain = true ∧
      let s := danger.setTanks { danger.tanks with grey := danger.tanks.fresh }
      dueReached s.now (frostCtl s .grey).dangerDue = true ∧ Settled s := by decide

/-- A drained tank at the watch exit. -/
def thawed : State :=
  raiseFlag (base.setTanks { base.tanks with fresh := ⟨.drained, some 40, .present, none⟩ }) .drained

theorem witness_DrainOpenAndClose :
    Asked 19 [] ∧ Asked 20 [] ∧ RequestAt 20 7 [] (withRequest 20 7 [] thawed) ∧
      Settled (withRequest 20 7 [] thawed) ∧
      (thawed.tanks.fresh.reading.any (fun x => decide (thawed.params.watchExit ≤ x))) = true ∧
      RequestAt 19 7 [] (withRequest 19 7 [] thawed) := by decide

theorem witness_SocFiguresFollowTheAccount : AccountInRange fullAccount ∧ AccountInRange base := by decide

/-- Both ends of the current range, and the end of an interval's length. -/
theorem witness_EffectiveChargeOfAnInterval :
    ParamsInRange { State.reset with params := Params.defaults } ∧ (-250000 : Int) ≤ -250000 ∧
      (250000 : Int) ≤ 250000 ∧ 4096 ≤ 4096 ∧ 0 ≤ (250000 : Int) * 4096 ∧
      (-5000 : Int).natAbs ≤ Params.defaults.capacity / 20 ∧ (-5000 : Int) * 16 < 0 := by decide

theorem witness_IntervalEndClosesTheInterval :
    temperatureOk firstInterval.temperature = true ∧ intervalDue (atTick 16 base) = true ∧
      Settled (atTick 16 base) ∧
      0 < (accumulate firstInterval.samples (atTick 16 base)).meter.acc.count ∧
      (accumulate [] (atTick 16 base)).meter.acc.count = 0 := by decide

theorem witness_AccountSetAndFull :
    Asked 21 [3, 232] ∧ (3#8).toNat * 256 + (232#8).toNat = 1000 ∧ Asked 21 [3, 233] ∧ Asked 22 [] := by
  decide

/-- A free slot after the tail, with the stage idle and with it busy. -/
theorem witness_MovePostFillsTheNextSlot :
    Asked 7 [1, 2, 3, 232, 1] ∧ eventActive base .estop = false ∧
      (slotAt base (nextSlot base .awning (tailOf base .awning))).state = .free ∧
      (BitVec.ofNat 8 Actuator.awning.code :: BitVec.ofNat 8 MoveAction.moveTo.code ::
        (u16 (1000 : Fin 65536).val ++ flag8 true)) = [1, 2, 3, 232, 1] ∧
      RequestAt 7 7 [1, 1, 0, 0, 0] (withRequest 7 7 [1, 1, 0, 0, 0] (moving .running .extend base)) ∧
      Settled (withRequest 7 7 [1, 1, 0, 0, 0] (moving .running .extend base)) := by decide

/-- A target past the awning's range; the emergency stop; a ring whose next slot still holds a motion. -/
theorem witness_MovePostRefusals :
    Asked 7 [1, 2, 3, 233, 1] ∧ Asked 7 [0, 2, 0, 0, 0] ∧
      eventActive (bound 5 .estop (.joined true 0) base) .estop = true ∧
      Settled (settle base (withRequest 7 7 [1, 0, 0, 0, 0] (bound 5 .estop (.joined true 0) base))) ∧
      (slotAt (moving .running .extend base)
        (nextSlot base .awning (tailOf base .awning))).state = .active := by decide

theorem witness_MoveCancelEndsMotions :
    inRing base .awning 8 = true ∧ inRing base .awning 15 = true ∧ Asked 8 [1, 15] ∧ Asked 8 [1, 255] ∧
      Asked 8 [1, 7] ∧ inRing base .awning 7 = false ∧ Asked 8 [2, 0] ∧
      (slotAt (setSlot base 8 ⟨.ready, .extend, none, true, .host, none, 0, 0⟩) 8).state = .ready ∧
      Settled (withRequest 8 7 [1, 8] (setSlot base 8 ⟨.ready, .extend, none, true, .host, none, 0, 0⟩)) ∧
      (slotAt (moving .running .extend base) 8).state = .active ∧
      (moving .running .extend base).drive.owner = some ⟨.awning, .slot 8⟩ ∧
      holdsStage (moving .running .extend base).drive.stage = true ∧
      Settled (withRequest 8 7 [1, 8] (moving .running .extend base)) := by decide

theorem witness_StageTimersEndTheirPhases :
    (∀ st ∈ [StageState.waking, .retryWait, .backing],
      Settled (moving st .extend base) ∧ (moving st .extend base).drive.stage = st) ∧
      (moving .backing .extend base).drive.owner = some ⟨.awning, .slot 8⟩ := by decide

/-- The awning 30,001 ms into a travel of 20,000, and at its stall. -/
def overrun : State :=
  let s := setSlot (moving .running .extend base) 8 ⟨.active, .extend, none, true, .host, none, 3, 30001⟩
  s.setDrive { s.drive with stallCount := 20, stallDue := true }

theorem witness_TheEndsOfAMotion :
    Settled overrun ∧ overrun.drive.owner = some ⟨.awning, .slot 8⟩ ∧
      travelTime overrun .awning * 3 / 2 < (slotAt overrun 8).runTime ∧
      overrun.params.stallTime ≤ overrun.drive.stallCount * 10 ∧
      inEndZone overrun ⟨.awning, .slot 8⟩ = false ∧ overrun.params.maxRetries ≤ (slotAt overrun 8).retries ∧
      Settled (moving .claimed .extend base) ∧ (moving .claimed .extend base).drive.stage = .claimed := by
  decide

theorem witness_TheEndsOfAMotion_end :
    Settled stepStalled ∧ inEndZone stepStalled ⟨.step, .slot 0⟩ = true ∧
      destinationSwitchMapped stepStalled ⟨.step, .slot 0⟩ = false ∧
      destinationSwitchMapped (bound 1 .stepOutLimit (.joined false 0)
        (stepStalled.setAct { stepStalled.act with stepMs := some 3000 })) ⟨.step, .slot 0⟩ = true ∧
      inEndZone (bound 1 .stepOutLimit (.joined false 0)
        (stepStalled.setAct { stepStalled.act with stepMs := some 3000 })) ⟨.step, .slot 0⟩ = true ∧
      destinationReached
        ((moving .running .extend base).setAct
          { base.act with posMs := some 20000 }) ⟨.awning, .slot 8⟩ = some .doneTarget := by decide

theorem witness_TheEndsOfAMotion_moveTo :
    let s := setSlot (moving .running .moveTo base) 8 ⟨.active, .moveTo, some 500, true, .host, none, 0, 0⟩
    let t := s.setDrive { s.drive with stallDue := true }
    Settled t ∧ t.drive.owner = some ⟨.awning, .slot 8⟩ ∧ ownerAction t ⟨.awning, .slot 8⟩ = .moveTo ∧
      inEndZone t ⟨.awning, .slot 8⟩ = true ∧ destinationSwitchMapped t ⟨.awning, .slot 8⟩ = false ∧
      (after .motorStall t).act.posMs = some 10000 := by decide

theorem witness_StageTimersEndTheirPhases_brake :
    Settled (moving .braking .extend base) ∧ (moving .braking .extend base).drive.stage = .braking ∧
      chosen (moving .braking .extend base) = none ∧
      let s := base.setDrive { base.drive with stage := .gap, gap := some ⟨1, .step⟩ }
      Settled s ∧ s.drive.gap.isSome = true := by decide

theorem witness_AMillisecondOfDrive :
    Settled (moving .running .extend base) ∧ Settled (moving .backing .extend base) ∧
      (moving .running .extend base).drive.owner = some ⟨.awning, .slot 8⟩ ∧
      (moving .running .extend base).drive.direction = some .extend ∧
      (moving .running .extend base).time.power ≠ .dormant ∧
      eventActive (moving .running .extend base) .ignitionOn = false := by decide

/-- ESTOP about to be pressed while the awning runs and a slot and an override wait. -/
def beforeEstop : State :=
  let s := setSlot (moving .running .extend base) 9 ⟨.ready, .retract, none, true, .host, none, 0, 0⟩
  let s := s.setMotion { s.motion with stepOverride := ⟨.raised, some .ignition, 0, 0, none⟩ }
  setPin s 5 ⟨.input, .activeHigh, some (.input .estop), false, .joined false 19⟩

theorem witness_EmergencyStopEndsEveryMotion :
    pinAt beforeEstop 5 = ⟨.input, .activeHigh, some (.input .estop), false, .joined false 19⟩ ∧
      eventActive beforeEstop .estop = false ∧ 19 < (if beforeEstop.time.power = .dormant then 2 else 20) ∧
      [true] = List.replicate ((if beforeEstop.time.power = .dormant then 2 else 20) - 19)
        (decide (Polarity.activeHigh = .activeHigh)) ∧ Settled beforeEstop := by decide

theorem witness_DebouncedPinsTakeTheLevel :
    let s := bound 3 .shorePresent (.joined false 1999) base
    let u := bound 3 .wake (.settling none 0) base
    (pinAt s 3).event = some (.input .shorePresent) ∧ Settled s ∧
      (pinAt s 3).binding = .joined false 1999 ∧ 1999 < debounceCount .shorePresent s.time.power ∧
      (pinAt s 3).converted true = true ∧ (pinAt s 3).converted false = false ∧
      (pinAt u 3).event = some (.input .wake) ∧ (pinAt u 3).binding = .settling none 0 ∧ Settled u := by
  decide

theorem witness_PinMapWritesTheRecord :
    Asked 13 [16, 0, 0, 0, 0] ∧ Asked 13 [15, 1, 0, 3, 1] ∧
      parsePin 1 0 3 1 = some ⟨.input, .activeHigh, some (.input .doorOpen), true, .unbound⟩ ∧
      (pinAt base 15).inputEvent = none ∧ parsePin 1 0 32 0 = none ∧ Asked 13 [15, 1, 0, 32, 0] ∧
      pinBusy (moving .running .extend base) (pinAt base 15)
        ⟨.pushPull, .activeHigh, some (.output .motorSupply), false, .unbound⟩ = true ∧
      parsePin 3 0 45 0 = some ⟨.pushPull, .activeHigh, some (.output .motorSupply), false, .unbound⟩ ∧
      Settled (withRequest 13 7 [15, 3, 0, 45, 0] (moving .running .extend base)) := by decide

/-- A window that has come to its end, mapped and not, below the trip speed and at it. -/
theorem witness_WindPulsesAndWindows :
    reached (atTick 48 base).now (atTick 48 base).wind.due = true ∧ Settled (atTick 48 base) ∧
      eventMapped (atTick 48 base) .windPulse = false ∧ reached (windy 17 1).now (windy 17 1).wind.due = true ∧
      Settled (windy 17 1) ∧ eventMapped (windy 17 1) .windPulse = true ∧
      min 65535 (17 * (windy 17 1).params.windFactor) = 408 ∧
      (pinAt (windy 17 1) 4).event = some (.input .windPulse) ∧
      (pinAt (windy 17 1) 4).binding = .joined false 0 ∧ (pinAt (windy 17 1) 4).converted true = true := by
  decide

/-- A trip while the stage brakes. -/
theorem witness_WindPulsesAndWindows_trip :
    let s := (windy 17 1).setDrive { base.drive with stage := .braking, owner := some ⟨.step, .slot 0⟩ }
    1 ≤ s.wind.high ∧ s.wind.lockout = false ∧ awningStowed s = false ∧ eventActive s .estop = false ∧
      (overrideOf s .awning).state = .none ∧ s.drive.stage ≠ .idle ∧ holdsStage s.drive.stage = false ∧
      Settled s ∧ s.params.tripSpeed ≤ min 65535 (s.wind.count * s.params.windFactor) := by decide

theorem witness_ScheduleWriteAndFree :
    Asked 10 [15, 0, 0, 0, 5, 127, 255, 255, 255, 1, 0, 10, 100, 0, 0] ∧
      parseEntry [15, 0, 0, 0, 5, 127, 255, 255, 255, 1, 0, 10, 100, 0, 0] =
        some (5, 2147483647, .load 10 100, true) ∧
      reached base.now 5 = false ∧ reached base.now 0 = true ∧
      parseEntry [15, 0, 0, 0, 5, 0, 0, 0, 15, 1, 0, 10, 100, 0, 0] = none ∧
      Asked 10 [15, 0, 0, 0, 5, 0, 0, 0, 15, 1, 0, 10, 100, 0, 0] ∧
      Asked 10 [16, 0, 0, 0, 5, 0, 0, 0, 15, 1, 0, 10, 100, 0, 0] := by decide

theorem witness_ScheduleWriteAndFree_free :
    Asked 12 [0] ∧ Asked 12 [15] ∧ Asked 12 [255] ∧ Asked 12 [16] ∧
      Asked 10 [15, 0, 0, 0, 0, 0, 0, 0, 0, 1, 4, 0, 0, 0, 0] ∧
      parseEntry [15, 0, 0, 0, 0, 0, 0, 0, 0, 1, 4, 0, 0, 0, 0] = some (0, 0, .note, true) := by decide

/-- Entry 15, alone armed, at its due instant. -/
def armed : State :=
  setEntry (atTick 100 base) 15 ⟨.armed, some 100, 0, some (.load 10 100), true, none, 0⟩

theorem witness_AnEntryFires :
    (entryAt armed 15).state = .armed ∧ dueReached armed.now (entryAt armed 15).due = true ∧
      (entryAt armed 15).action = some (.load 10 100) ∧
      (∀ j : Fin 16, j < 15 → (entryAt armed j).state = .armed →
        dueReached armed.now (entryAt armed j).due = false) ∧
      Settled armed ∧ (entryAt armed 15).notify = true := by decide

theorem witness_RescheduledDueIsTheFirstNotReached :
    reached 2200000 2000000 = true ∧ reached 0 (0 - 2147483647) = true ∧ 1 ≤ 2147483647 := by decide

theorem witness_TimeSetMovesTheInstants :
    temperatureOk 250 = true ∧ Asked 25 (u32 (4294967295 : Tick).toNat) ∧
      (∀ i : Fin 16, (entryAt base i).state ≠ .armed) ∧ base.meter.acc.count = 0 := by decide

theorem witness_EnteringDormantAndLeaving :
    temperatureOk 250 = true ∧
      let s := withParam 104 10 (quiet.setTime { quiet.time with idleDue := some 0 })
      let e := settle quiet (inPower .entering (quiet.setTime { quiet.time with idleDue := none }))
      let l := settle quiet (inPower .leaving (quiet.setTime { quiet.time with idleDue := none }))
      Settled s ∧ s.time.power = .active ∧ dueReached s.now s.time.idleDue = true ∧
        Settled e ∧ e.time.power = .entering ∧ linkQuiet e = true ∧ Settled l ∧ l.time.power = .leaving := by
  decide

theorem witness_CalibrationAndDeviceTime :
    let s := base.setTime { base.time with calib := .running 256 33415200 512 }
    let u := base.setTime { base.time with calib := .running 255 0 768 }
    Settled s ∧ s.time.power = .active ∧ s.time.calib = .running 256 33415200 512 ∧
      (33415200 + 131040 + 128) / 256 = 131040 ∧ Settled u ∧ u.time.calib = .running 255 0 768 ∧
      Settled (settle (asleepAt 0 0) (asleepAt 0 0)) ∧ (asleepAt 0 0).time.power = .dormant ∧
      Settled (settle (asleepAt 0 0) (inPower .entering (withRequest 1 7 [] (asleepAt 0 0)))) ∧
      linkQuiet (inPower .entering (withRequest 1 7 [] (asleepAt 0 0))) = false := by decide

theorem witness_TheRestartClearsAndKeeps :
    let s := burning.setLink { burning.link with restartPending := true }
    s.link.restartPending = true ∧ s.link.replies = [] ∧ s.time.power ≠ .dormant ∧
      lockedOut.heater.latch = true := by decide

/-! ## Tests on states of the witnesses -/

/-- R72: leaving LOCKOUT is a re-evaluation event, so its walk grants a record that fits. -/
theorem test_leaving_lockout_walks :
    let s := putOrigin (inBand .normal lockedOut) chAux0 .host (some 100)
    let s := s.setTable { s.table with waiting := [chAux0] }
    isGranted (after (.flagClear 7 [9]) (withRequest 17 7 [9] s)) chAux0 = true := by decide

/-- R49, R69: the record and the figures of an IDLE entry channel in the compact form (log 11), 26 bytes between
the result code and the band of the table figures. -/
theorem test_entry_lamp_is_reported :
    (loadQueryReply 0 base).length = 49 ∧
      (loadQueryReply 0 base).take 28 =
        [0, 0, 0, 255, 0, 0, 0, 0, 0, 0, 0, 0, 0, 0, 0, 0, 0, 0, 0, 0, 0, 0, 0, 0, 0, 0, 0,
          BitVec.ofNat 8 base.table.band.code] := by decide

/-- R69: the record and all figures of the entry channel fit the payload where it is WAITING, with all five
origins. -/
theorem test_full_entry_lamp_fits :
    let s := ([Origin.host, .schedule, .switch, .scene, .entry]).foldl (fun t k => putOrigin t 0 k (some 100)) base
    let s := s.setTable { s.table with waiting := [0] }
    let s := s.setLamps { s.lamps with entryDue := some (s.ahead 480) }
    (loadRecord .compact s 0).length = 56 ∧
      (loadQueryReply 0 s).take 57 = 0#8 :: loadRecord .compact s 0 := by decide

/-- R125, R127: with both switches of the step active its position is UNKNOWN, so a stall with the destination
switch mapped lies outside the end zone, and is tried again. -/
theorem test_stall_between_both_switches_retries :
    let s := bound 2 .stepOutLimit (.joined true 0) (bound 1 .stepInLimit (.joined true 0)
      (setSlot (stepStalled.setAct { stepStalled.act with stepMs := some 0 }) 0
        ⟨.active, .retract, none, true, .host, none, 0, 300⟩))
    stepPosition s = .unknown ∧ (after .motorStall (settle s s)).drive.stage = .backing := by decide

/-- R184, R215: a FREE entry reports no missed count. -/
theorem test_free_entry_has_no_missed_count : (entryBytes base 3).getLast? = some 255 := by decide

/-! ## Witnesses of the single clauses: edges, writes, claimants, actions -/

/-- `s` with pin 6 bound to an event, one sample before the edge to `rising`. -/
def edging (e : InputEvent) (rising : Bool) (s : State) : State :=
  let t := bound 6 e (.joined (!rising) (debounceCount e s.time.power - 1)) s
  settle t t

/-- The last sample of that debounce is an edge of the event. -/
abbrev AtEdge (e : InputEvent) (rising : Bool) (s : State) : Prop :=
  EdgeAt 6 e rising (debounceCount e s.time.power - 1) [rising] (edging e rising s) ∧
    Settled (edging e rising s)

theorem witness_AFrameOnTheLineArrives_started :
    (after .startByte base).link.rx = .length ∧ (after .startByte base).time.power ≠ .dormant ∧
      (asleepAt 0 0).link.rx = .hunt ∧ asleep (asleepAt 0 0) = true ∧
      Settled (settle (asleepAt 0 0) (asleepAt 0 0)) := by decide

/-- An accepted PARAM_WRITE of one pair that stands to be taken. -/
abbrev Written (x : Byte × BitVec 32) : Prop :=
  Asked 2 (x.1 :: i32 x.2.toInt) ∧ judgeParam base x.1.toNat x.2.toInt = .accepted

/-- Values of the parameters that act at once, at ends of their ranges. -/
theorem witness_ParamWriteOfOnePair_loads :
    Written (1, 250000#32) ∧ Written (19, 0#32) ∧ Written (24, 250000#32) ∧
      Written (27, 0#32) ∧ Written (28, 0#32) ∧ Written (42, 3#32) := by
  decide

theorem witness_ParamWriteOfOnePair_lamps :
    Written (43, 0#32) ∧ Written (46, 100#32) ∧ Written (47, 0#32) ∧
      Written (54, 5#32) ∧ Written (59, 0#32) ∧ Written (62, 50#32) := by
  decide

theorem witness_ParamWriteOfOnePair_tanks :
    Written (65, 201#32) ∧ Written (70, 3899#32) ∧ Written (71, 0#32) ∧
      Written (74, 200#32) ∧ Written (76, 0#32) ∧ Written (85, 1#32) := by
  decide

theorem witness_ParamWriteOfOnePair_motions :
    Written (86, 2#32) ∧ Written (86, 8#32) ∧ Written (98, 2000#32) ∧
      Written (99, 20000#32) ∧ Written (104, 3600#32) ∧ Written (105, 0#32) := by
  decide

/-- AUX0's draw changes under its grant; the entry channel is written while ENTRY stands; auto-drain is
switched on in DANGER. -/
theorem witness_ParamWriteOfOnePair_states :
    let s := granted chAux0 .host 100 (inBand .normal base)
    (ListsAgree s ∧ LampsAtRest s ∧ demanded s chAux0 = true ∧ Settled s ∧
      demandDraw (s.setParams (s.params.put 33 3000)) chAux0 ≠ demandDraw s chAux0 ∧
      judgeParam s 33 3000 = .accepted) ∧
    (fallen.lamps.entryDue.isSome = true ∧ Settled fallen ∧ judgeParam fallen 54 (-1) = .accepted) ∧
    (let d := danger.setTanks
        { danger.tanks with fresh := { danger.tanks.fresh with state := .danger, dangerDue := none } }
      let d := settle d d
      d.tanks.fresh.state = .danger ∧ Settled d ∧ judgeParam d 85 1 = .accepted) := by decide

/-- Values out of order at a boundary, and the parameters that are BUSY while a motion stands. -/
theorem witness_ParamWriteOfOnePair_judge :
    judgeParam base 10 500 = .range ∧ judgeParam base 10 499 = .accepted ∧
      judgeParam base 65 3900 = .range ∧ judgeParam base 94 105 = .range ∧
      (slotAt (moving .running .extend base) 8).state = .active ∧
      judgeParam (moving .running .extend base) 86 2 = .busy ∧
      (moving .running .extend base).drive.owner = some ⟨.awning, .slot 8⟩ ∧
      judgeParam (moving .running .extend base) 98 2000 = .busy ∧
      judgeParam (moving .running .extend base) 99 500 = .accepted := by decide

theorem witness_ReceiverEvents_asleep :
    (∀ p ∈ [PowerState.entering, .dormant],
      let s := settle quiet (inPower p (quiet.setTime { quiet.time with idleDue := none }))
      asleep s = true ∧ s.link.rx = .hunt ∧ Settled s ∧ s.time.power = p) := by decide

/-- No load stands shed before the fade ends. -/
theorem witness_FadeEndAndEntryHoldEnd_fits :
    let s := inBand .normal fallen
    Settled s ∧ fadeDone s 0 = true ∧ isGranted s (chLamp 0) = true ∧ ListsAgree s ∧
      flagSet s .loadShed = false ∧ flagSet (after (.fadeEnd 0) s) .loadShed = false := by decide

/-- The ignition is on. -/
abbrev ignited (s : State) : State := bound 0 .ignitionOn (.joined true 0) s

/-- The emergency stop is pressed. -/
abbrev stopped (s : State) : State := bound 5 .estop (.joined true 0) s

/-- A lamp with a target. -/
def lit : State := granted (chLamp 0) .host 60 base

/-- A heater that runs, its flame pin still to be bound. -/
def flaming (failed : Nat) : State :=
  setPin (burning.setHeater { burning.heater with failed := failed }) 9 Pin.reset

theorem witness_DebouncedPinsTakeTheLevel_lamps :
    AtEdge (.lightSwitch 5) true base ∧ lampTarget (edging (.lightSwitch 5) true base) 5 = 0 ∧
      AtEdge (.lightSwitch 0) true lit ∧ 0 < lampTarget (edging (.lightSwitch 0) true lit) 0 ∧
      AtEdge (.lightSwitch 0) false base := by decide

theorem witness_DebouncedPinsTakeTheLevel_scenes :
    AtEdge .sceneSelect true base ∧ base.params.val 57 = 0 ∧
      AtEdge .sceneSelect true (withParam 57 (-1) base) ∧
      AtEdge .sceneSelect false (withParam 58 3 base) := by decide

theorem witness_DebouncedPinsTakeTheLevel_door :
    (AtEdge .doorOpen true base ∧ eventActive (edging .doorOpen true base) .ignitionOn = false ∧
      base.params.entryChannel = 0) ∧
      AtEdge .doorOpen false (withParam 54 5 (fallen)) ∧ fallen.lamps.entryDue.isSome = true ∧
      AtEdge .doorOpen true (withParam 54 (-1) base) ∧
      AtEdge .doorOpen true (ignited base) ∧
      eventActive (edging .doorOpen true (ignited base)) .ignitionOn = true := by decide

theorem witness_DebouncedPinsTakeTheLevel_pump :
    AtEdge .pumpDemand true base ∧ pumpGuard (edging .pumpDemand true base) = true ∧
      AtEdge .pumpDemand true (withParam 75 0 base) ∧
      pumpGuard (edging .pumpDemand true (withParam 75 0 base)) = false ∧
      AtEdge .pumpDemand false base ∧ AtEdge .ignitionOn true base ∧ AtEdge .ignitionOn false base := by
  decide

theorem witness_DebouncedPinsTakeTheLevel_flame :
    AtEdge .heaterFlame false (flaming 1) ∧
      (edging .heaterFlame false (flaming 1)).heater.state = .running ∧
      AtEdge .heaterFlame false (flaming 2) ∧ AtEdge .heaterFlame true (flaming 0) ∧
      AtEdge .heaterFlame false base := by decide

theorem witness_MovePostFillsTheNextSlot_switches :
    (∀ e ∈ [InputEvent.stepSwitch, .awningOutSwitch, .awningInSwitch],
      AtEdge e true base ∧ AtEdge e false base ∧ RingTakes .step (edging e true base) ∧
        RingTakes .awning (edging e true base)) ∧
      AtEdge .stepSwitch true (stopped base) ∧ ¬RingTakes .step (edging .stepSwitch true (stopped base)) ∧
      stepPosition (edging .stepSwitch true base) = .unknown ∧
      (let s := base.setAct { base.act with stepMs := some 3000 };
        AtEdge .stepSwitch true s ∧ stepPosition (edging .stepSwitch true s) = .deployed) := by decide

theorem witness_MovePostFillsTheNextSlot_door :
    let s := withParam 103 1 (base.setAct { base.act with stepMs := some 0 })
    AtEdge .doorOpen true s ∧ RingTakes .step (edging .doorOpen true s) ∧ s.params.autoStep = true ∧
      eventActive (edging .doorOpen true s) .ignitionOn = false ∧
      stepPosition (edging .doorOpen true s) = .stowed ∧
      AtEdge .doorOpen true (ignited s) ∧ AtEdge .doorOpen true base ∧ base.params.autoStep = false := by
  decide

/-- The step on its way in, slot 0 ACTIVE. -/
def stepIn : State :=
  setSlot stepStalled 0 ⟨.active, .retract, none, true, .host, none, 0, 300⟩

/-- The awning on its way in by its override. -/
def stowing (stage : StageState) (s : State) : State :=
  let t := s.setMotion { s.motion with awningOverride := ⟨.active, some .wind, 0, 30001, none⟩ }
  let t := t.setAct { t.act with posMs := some 10000 }
  let t := t.setDrive
    { t.drive with
      stage := stage, owner := some ⟨.awning, .override⟩, direction := some .retract, blank := 100
      stallCount := 20, stallDue := true }
  let t := granted chDrive .override 0 t
  settle t t

theorem witness_TheEndsOfAMotion_override :
    (∀ st ∈ [StageState.claimed, .running, .braking], Settled (stowing st base) ∧
      (stowing st base).drive.owner = some ⟨.awning, .override⟩) ∧
      travelTime (stowing .running base) .awning * 3 / 2 <
        ownerRunTime (stowing .running base) ⟨.awning, .override⟩ ∧
      (let s := (stowing .running base).setAct { base.act with posMs := some 0 };
        Settled s ∧ destinationReached s ⟨.awning, .override⟩ = some .doneTarget) := by decide

theorem witness_TheEndsOfAMotion_step :
    (AtEdge .stepInLimit true stepIn ∧ eventActive (edging .stepInLimit true stepIn) .stepOutLimit = false ∧
      (edging .stepInLimit true stepIn).drive.owner = some ⟨.step, .slot 0⟩ ∧
      (slotAt (edging .stepInLimit true stepIn) 0).action = .retract) ∧
      AtEdge .stepInLimit false (bound 1 .stepOutLimit (.joined true 0) base) ∧
      (AtEdge .stepOutLimit true stepStalled ∧
        (slotAt (edging .stepOutLimit true stepStalled) 0).action = .extend) ∧
      AtEdge .stepOutLimit false (bound 1 .stepInLimit (.joined true 0) base) := by decide

theorem witness_TheEndsOfAMotion_awning :
    (∀ m ∈ [MoveAction.retract, .extend, .moveTo],
      let s := edging .awningInLimit true (moving .running m base)
      AtEdge .awningInLimit true (moving .running m base) ∧ (slotAt s 8).action = m ∧
        s.drive.owner = some ⟨.awning, .slot 8⟩ ∧ holdsStage s.drive.stage = true) ∧
      AtEdge .awningInLimit true (stowing .running base) ∧
      (let s := ignited (base.setAct { base.act with posMs := some 0 });
        let t := edging .awningInLimit false s;
        AtEdge .awningInLimit false s ∧ eventActive t .ignitionOn = true ∧ awningStowed t = true ∧
          eventActive t .estop = false ∧ (overrideOf t .awning).state = .none) := by decide

theorem witness_TheEndsOfAMotion_ignition :
    (let s := base.setAct { base.act with stepMs := some 3000 };
      let t := edging .ignitionOn true s;
      AtEdge .ignitionOn true s ∧ t.drive.stage = .idle ∧ t.time.power = .active ∧ t.drive.gap = none ∧
        origins t chDrive = OriginSet.empty ∧ ListsAgree t ∧ eventActive t .estop = false ∧
        stowed t .step = false ∧ (overrideOf t .step).state = .none) ∧
      (∀ m ∈ [MoveAction.extend, .retract],
        let s := moving .running m base
        AtEdge .ignitionOn true s ∧ stowed (edging .ignitionOn true s) .awning = false) ∧
      AtEdge .ignitionOn true (stopped base) ∧ AtEdge .ignitionOn true (stowing .running base) := by decide

/-- The awning brakes after its motion, and slot `i` waits to retract or to extend. -/
def waitingSlot (i : Fin 16) (action : MoveAction) (s : State) : State :=
  let t := setSlot (moving .braking .extend s) 8
    ⟨.complete, .extend, none, true, .host, some .doneTarget, 0, 0⟩
  setSlot t i ⟨.ready, action, none, true, .host, none, 0, 0⟩

/-- The arbiter has a claimant at the end of the brake hold: of the other actuator, of the same one to
retract and to extend (Critical band), with a gap time and without. -/
theorem witness_StageTimersEndTheirPhases_claimant :
    (∀ s ∈ [waitingSlot 0 .extend base, waitingSlot 9 .retract base, waitingSlot 9 .extend base,
        waitingSlot 0 .retract (withParam 91 0 base)],
      s.drive.stage = .braking ∧ s.drive.owner = some ⟨.awning, .slot 8⟩ ∧ s.time.power = .active ∧
        ListsAgree s ∧ Settled s ∧ s.meter.band = .critical ∧ s.drive.gap = none) ∧
      chosen (waitingSlot 0 .extend base) = some ⟨.step, .slot 0⟩ ∧
      chosen (waitingSlot 9 .retract base) = some ⟨.awning, .slot 9⟩ ∧
      chosen (waitingSlot 9 .extend base) = some ⟨.awning, .slot 9⟩ ∧
      chosen (waitingSlot 0 .retract (withParam 91 0 base)) = some ⟨.step, .slot 0⟩ ∧
      destinationReached (waitingSlot 9 .retract base) ⟨.awning, .slot 9⟩ = none := by decide

/-- An override is the claimant, out of its destination and at it. -/
def raisedOverride (pos : Nat) : State :=
  let s := waitingSlot 9 .retract base
  let s := s.setMotion { s.motion with awningOverride := ⟨.raised, some .wind, 0, 0, none⟩ }
  s.setAct { s.act with posMs := some pos }

theorem witness_StageTimersEndTheirPhases_override :
    (∀ n ∈ [0, 10000], ListsAgree (raisedOverride n) ∧ Settled (raisedOverride n) ∧
      chosen (raisedOverride n) = some ⟨.awning, .override⟩) ∧
      destinationReached (raisedOverride 10000) ⟨.awning, .override⟩ = none ∧
      destinationReached (raisedOverride 0) ⟨.awning, .override⟩ = some .doneTarget ∧
      (stowing .backing base).drive.stage = .backing ∧ Settled (stowing .backing base) := by decide

theorem witness_AMillisecondOfDrive_override :
    (∀ st ∈ [StageState.running, .backing],
      Settled (stowing st base) ∧ (stowing st base).drive.stage = st ∧
        (stowing st base).drive.owner = some ⟨.awning, .override⟩ ∧
        (stowing st base).drive.direction = some .retract ∧
        (overrideOf (stowing st base) .awning).state = .active) ∧
      (∀ n ∈ [0, 2999],
        let s := stepStalled.setAct { stepStalled.act with homing := some n }
        Settled s ∧ s.drive.owner = some ⟨.step, .slot 0⟩ ∧ s.drive.direction = some .extend ∧
          s.act.stepMs = none ∧ s.drive.stage = .running ∧ s.time.power ≠ .dormant ∧
          destinationSwitchMapped s ⟨.step, .slot 0⟩ = false) := by decide

theorem witness_MoveCancelEndsMotions_all :
    let s := withRequest 8 7 [1, 255] (waitingSlot 9 .retract base)
    let t := withRequest 8 7 [1, 255] (moving .running .extend base)
    RequestAt 8 7 [1, 255] s ∧ Settled s ∧ (slotAt s 9).state = .ready ∧ (slotAt s 8).state = .complete ∧
      RequestAt 8 7 [1, 255] t ∧ Settled t ∧ inRing t .awning 8 = true ∧ (slotAt t 8).state = .active ∧
      t.drive.owner = some ⟨.awning, .slot 8⟩ ∧ afterWaking t.drive.stage = true := by decide

/-- Pins that leave their events, and one that takes WIND_PULSE. -/
theorem witness_PinMapWritesTheRecord_release :
    (∀ e ∈ [InputEvent.shorePresent, .windPulse, .doorOpen, .heaterFlame],
      let s := bound 15 e (.joined true 0) base
      let t := settle s (withRequest 13 7 [15, 0, 0, 0, 0] s)
      RequestAt 13 7 [15, 0, 0, 0, 0] t ∧ Settled t ∧ (pinAt t 15).event = some (.input e) ∧
        eventMapped t e = true) ∧
      parsePin 0 0 0 0 = some ⟨.off, .activeHigh, none, false, .unbound⟩ ∧
      Asked 13 [15, 1, 0, 6, 0] ∧
      parsePin 1 0 6 0 = some ⟨.input, .activeHigh, some (.input .windPulse), false, .unbound⟩ := by
  decide

/-- A trip while slot 8 runs. -/
theorem witness_WindPulsesAndWindows_preempts :
    let s := (moving .running .extend (windy 17 1))
    1 ≤ s.wind.high ∧ s.wind.lockout = false ∧ awningStowed s = false ∧ eventActive s .estop = false ∧
      (overrideOf s .awning).state = .none ∧ s.drive.owner = some ⟨.awning, .slot 8⟩ ∧ Settled s ∧
      reached s.now s.wind.due = true ∧ eventMapped s .windPulse = true ∧
      s.params.tripSpeed ≤ min 65535 (s.wind.count * s.params.windFactor) := by decide

/-- Entry 15, alone armed and due, with an action. -/
def armedFor (act : SchedAction) (s : State) : State :=
  setEntry (atTick 100 s) 15 ⟨.armed, some 100, 0, some act, true, none, 0⟩

theorem witness_AnEntryFires_actions :
    (∀ act ∈ [SchedAction.load 0 0, .load 5 100, .load 10 101, .load 7 1, .load 6 0, .load 12 0,
        .load 255 0, .heat 0, .heat 3, .heat 4, .heat 254, .heat 255, .scene 0, .scene 3, .scene 4,
        .move 0 0 0, .move 1 2 1000, .move 0 2 0, .move 1 2 1001, .move 2 0 0, .move 1 3 0, .note],
      Settled (armedFor act base) ∧ (entryAt (armedFor act base) 15).action = some act ∧
        (entryAt (armedFor act base) 15).state = .armed ∧
        dueReached (armedFor act base).now (entryAt (armedFor act base) 15).due = true) ∧
      (∀ j : Fin 16, j < 15 → (entryAt (armedFor .note base) j).state = .free) := by decide

theorem witness_AnEntryFires_conditions :
    pumpGuard (armedFor (.load 7 1) base) = true ∧
      pumpGuard (armedFor (.load 7 1) (withParam 75 0 base)) = false ∧
      Settled (armedFor (.load 7 1) (withParam 75 0 base)) ∧
      RingTakes .step (armedFor (.move 0 0 0) base) ∧
      (let s := moving .running .extend base;
        Settled (armedFor (.move 1 1 0) s) ∧ ¬RingTakes .awning (armedFor (.move 1 1 0) s) ∧
          eventActive (armedFor (.move 1 1 0) s) .estop = false) ∧
      (let s := bound 5 .estop (.joined true 0) base;
        let t := settle s s;
        Settled (armedFor (.move 0 0 0) t) ∧ eventActive (armedFor (.move 0 0 0) t) .estop = true) := by
  decide

/-- A time set to the due instant of the one ARMED entry, among FREE ones. -/
theorem witness_TimeSetMovesTheInstants_armed :
    let s := withRequest 25 7 (u32 (100 : Tick).toNat)
      (setEntry base 3 ⟨.armed, some 100, 2147483647, some .note, false, none, 0⟩)
    RequestAt 25 7 (u32 (100 : Tick).toNat) s ∧ Settled s ∧ (entryAt s 3).state = .armed ∧
      (entryAt s 0).state = .free ∧ dueReached 100 (entryAt s 3).due = true ∧
      ∀ i, (entryAt s i).state = .armed →
        (entryAt s i).period ≤ 2147483647 ∧ (entryAt s i).action.isSome = true := by decide

/-- The voltage floor in either state, an account that synchronises, and a day that ends. -/
theorem witness_IntervalEndClosesTheInterval_figures :
    let s := atTick 16 base
    let f := s.setMeter { s.meter with floor := .forced, recoveryTimer := 944, dayAcc := 1382384 }
    let c := closeReadings (accumulate [⟨0, 14000⟩] f).meter 16 (-400)
    intervalDue f = true ∧ Settled f ∧ 0 < (accumulate [⟨0, 14000⟩] f).meter.acc.count ∧
      f.params.releaseVoltage ≤ c.voltage ∧ f.params.releaseTime * 16 ≤ f.meter.recoveryTimer + 16 ∧
      1382400 ≤ f.meter.dayAcc + 16 ∧ tailHolds f.params c = true ∧ s.meter.floor = .normal := by decide

theorem witness_CalibrationAndDeviceTime_steps :
    (∀ n ∈ [0, 1, 255],
      let s := base.setTime { base.time with calib := .running n 0 5 }
      Settled s ∧ s.time.power = .active ∧ s.time.calib = .running n 0 5) ∧
      (let s := base.setTime { base.time with calib := .running 256 0 768 };
        Settled s ∧ s.time.calib = .running 256 0 768) ∧
      Settled quiet ∧ quiet.time.calib = .idle := by decide

end Sys2Proof.Tests
end

section
/-! PROOFS. The arithmetic of the Charge Meter: the derived figures of an account in its range (R11, R12)
and the effective charge of an interval (R8, R9). -/

namespace Sys2Proof.Machine

/-! ## Parameters in their ranges -/

/-- One parameter of a set in its ranges, by its identifier. -/
theorem val_in_range {p : Params} (h : ParamsInRange { State.reset with params := p }) (i : Fin 105)
    {sp : ParamSpec} (hsp : paramSpec (i.val + 1) = some sp) :
    sp.lo ≤ p.val (i.val + 1) ∧ p.val (i.val + 1) ≤ sp.hi :=
  h i sp hsp

/-- The same for a parameter that is never negative. -/
theorem nat_in_range {p : Params} (h : ParamsInRange { State.reset with params := p }) (i : Fin 105)
    {d : Int} {lo hi : Nat} (hsp : paramSpec (i.val + 1) = some ⟨d, lo, hi⟩) :
    lo ≤ p.nat (i.val + 1) ∧ p.nat (i.val + 1) ≤ hi := by
  obtain ⟨hlo, hhi⟩ := val_in_range h i hsp
  simp only at hlo hhi
  unfold Params.nat
  omega

theorem capacity_in_range {p : Params} (h : ParamsInRange { State.reset with params := p }) :
    10000 ≤ p.capacity ∧ p.capacity ≤ 2000000 :=
  nat_in_range h 0 (d := 100000) rfl

theorem efficiency_in_range {p : Params} (h : ParamsInRange { State.reset with params := p }) :
    800 ≤ p.efficiency ∧ p.efficiency ≤ 1000 :=
  nat_in_range h 1 (d := 980) rfl

/-! ## The figures of the account (R11, R12) -/

theorem qNom_pos {p : Params} (h : 10000 ≤ p.capacity) : 0 < qNom p := by
  unfold qNom; omega

theorem qFull_le_qNom {s : State} (h : s.meter.derating ≤ 1000) : qFull s ≤ qNom s.params := by
  unfold qFull
  exact Nat.div_le_of_le_mul (by rw [Nat.mul_comm 1000]; exact Nat.mul_le_mul_left _ h)

theorem qFull_pos {s : State} (hc : 10000 ≤ s.params.capacity) (h : 500 ≤ s.meter.derating) :
    0 < qFull s := by
  have hq : 2 ≤ qNom s.params := by unfold qNom; omega
  exact Nat.div_pos (le_trans (by omega) (Nat.mul_le_mul hq h)) (by omega)

/-- Subtracting the charge that the cold takes away lowers the fill ratio: with q ≤ N and F ≤ N,
(q − (N − F)) / F ≤ q / N. -/
theorem derated_ratio_le {q n f : Nat} (hq : q ≤ n) (hf : f ≤ n) : (q - (n - f)) * n ≤ q * f := by
  rcases Nat.le_total q (n - f) with hle | hle
  · simp [Nat.sub_eq_zero_of_le hle]
  · obtain ⟨d, rfl⟩ := Nat.exists_eq_add_of_le hf
    obtain ⟨u, rfl⟩ := Nat.exists_eq_add_of_le (show d ≤ q by omega)
    have hu : u ≤ f := by omega
    simp only [Nat.add_sub_cancel_left]
    nlinarith [Nat.mul_le_mul_left d hu]

/-- A smaller ratio gives a smaller permille figure. -/
theorem permille_mono {a b n f : Nat} (hn : 0 < n) (hf : 0 < f) (h : a * n ≤ b * f) :
    a * 1000 / f ≤ b * 1000 / n := by
  rw [Nat.le_div_iff_mul_le hn]
  refine Nat.le_of_mul_le_mul_right ?_ hf
  calc a * 1000 / f * n * f = a * 1000 / f * f * n := Nat.mul_right_comm _ _ _
    _ ≤ a * 1000 * n := Nat.mul_le_mul_right _ (Nat.div_mul_le_self _ _)
    _ = a * n * 1000 := Nat.mul_right_comm _ _ _
    _ ≤ b * f * 1000 := Nat.mul_le_mul_right _ h
    _ = b * 1000 * f := Nat.mul_right_comm _ _ _

/-- Settles O40: the cold takes charge from the account and from the whole alike, which lowers the ratio. -/
theorem socFiguresFollowTheAccount : Obligations.SocFiguresFollowTheAccount := by
  rintro s ⟨hcap, hq, hlo, hhi⟩
  have hn := qNom_pos hcap
  have hratio : usable s * qNom s.params ≤ s.meter.q * qFull s :=
    derated_ratio_le hq (qFull_le_qNom hhi)
  have hstored : storedSoc s ≤ 1000 :=
    Nat.div_le_of_le_mul (Nat.mul_le_mul_right _ hq)
  have horder : usableSoc s ≤ storedSoc s := permille_mono hn (qFull_pos hcap hlo) hratio
  exact ⟨rfl, rfl, hstored, horder.trans hstored, horder, hratio, rfl⟩

/-! ## The effective charge (R8, R9) -/

/-- A credit at an efficiency of at most 1,000 permille is at most the raw charge. -/
theorem truncDiv_le_of_permille {raw : Int} {e : Nat} (h : 0 ≤ raw) (he : e ≤ 1000) :
    truncDiv (raw * e) 1000 ≤ raw := by
  have hle : raw * e ≤ raw * 1000 := mul_le_mul_of_nonneg_left (by exact_mod_cast he) h
  have hnn : 0 ≤ raw * (e : Int) := mul_nonneg h (Int.natCast_nonneg e)
  rw [truncDiv, Int.tdiv_eq_ediv_of_nonneg hnn]
  omega

/-- The rate penalty is at most 500 permille, and none up to I_ref. -/
theorem ratePenalty_le (p : Params) (current : Int) : ratePenalty p current ≤ 500 := by
  unfold ratePenalty
  split
  · exact Nat.min_le_left _ _
  · omega

theorem ratePenalty_eq_zero {p : Params} {current : Int} (h : current.natAbs ≤ iRef p) :
    ratePenalty p current = 0 := by
  rw [ratePenalty, if_neg (by omega)]

/-- A debit with the penalty `k`, in magnitude. -/
theorem effectiveCharge_of_neg {p : Params} {current : Int} {n : Nat} (h : current * n < 0) :
    effectiveCharge p current n =
      -(((-(current * n)).toNat * (1000 + ratePenalty p current) + 999) / 1000 : Nat) := by
  have hk : 0 < ((1000 + ratePenalty p current : Nat) : Int) := by omega
  have hneg : current * n * ((1000 + ratePenalty p current : Nat) : Int) < 0 :=
    mul_neg_of_neg_of_pos h hk
  have hmag : (-(current * n * ((1000 + ratePenalty p current : Nat) : Int))).toNat =
      (-(current * n)).toNat * (1000 + ratePenalty p current) := by
    rw [← Int.neg_mul, Int.toNat_mul (by omega) hk.le, Int.toNat_natCast]
  simp only [effectiveCharge, if_neg (not_le.mpr h), awayDiv, if_neg (not_le.mpr hneg), hmag,
    ceilDiv]
  rfl

/-- A debit of `a` with a penalty of `k` ≤ 500 permille: at least `a`, at most one and a half times `a`. -/
theorem debit_bounds {a k : Nat} (hk : k ≤ 500) :
    a ≤ (a * (1000 + k) + 999) / 1000 ∧ 2 * ((a * (1000 + k) + 999) / 1000) ≤ 3 * a + 1 := by
  have hup : a * (1000 + k) ≤ a * 1500 := Nat.mul_le_mul_left _ (by omega)
  have hlo : a * 1000 ≤ a * (1000 + k) := Nat.mul_le_mul_left _ (by omega)
  omega

/-- The raw charge of an interval fits R8's bound. -/
theorem raw_charge_bound {current : Int} {n : Nat} (hlo : -250000 ≤ current) (hhi : current ≤ 250000)
    (hn : n ≤ 4096) : (current * n).natAbs ≤ 1024000000 := by
  have hc : current.natAbs ≤ 250000 := by omega
  calc (current * n).natAbs = current.natAbs * n := by rw [Int.natAbs_mul, Int.natAbs_natCast]
    _ ≤ 250000 * 4096 := Nat.mul_le_mul hc hn

/-- Settles O41, by the sign of the raw charge: a credit at the efficiency, a debit with the rate penalty. -/
theorem effectiveChargeOfAnInterval : Obligations.EffectiveChargeOfAnInterval := by
  intro p current n hp hlo hhi hn raw excess k
  refine ⟨raw_charge_bound hlo hhi hn, fun hnn => ?_, fun hneg => ?_⟩
  · have heq : effectiveCharge p current n = truncDiv (raw * p.efficiency) 1000 := if_pos hnn
    exact ⟨heq, heq ▸ truncDiv_le_of_permille hnn (efficiency_in_range hp).2⟩
  · have heq : effectiveCharge p current n = -(((-raw).toNat * (1000 + k) + 999) / 1000 : Nat) :=
      effectiveCharge_of_neg hneg
    have hbounds := debit_bounds (a := (-raw).toNat) (k := k) (ratePenalty_le p current)
    refine ⟨heq, by omega, fun href => ?_, by omega⟩
    have hk : k = 0 := ratePenalty_eq_zero href
    rw [heq, hk]
    omega

end Sys2Proof.Machine
end

section
/-! PROOFS. The state after reset, and the requests whose answer leaves no condition and no idle condition
changed: the queries, ACCOUNT_SET and ACCOUNT_FULL (R16, R17, R25, R198). -/

namespace Sys2Proof.Machine

/-! ## The state after reset -/

/-- Settles O5: every invariant is decidable, and the state after reset is one state. -/
theorem theStateAfterResetIsSafe : Obligations.TheStateAfterResetIsSafe := by
  have hsettled : Settled State.reset := by decide
  have hmarks : MarksOnSetFlags State.reset := by decide
  have hqueues : QueuesBounded State.reset := by decide
  have hlists : ListsAgree State.reset := by decide
  have hparams : ParamsInRange State.reset := by decide
  have haccount : AccountInRange State.reset := by decide
  exact ⟨hsettled, hmarks, hqueues, hlists, hparams, haccount⟩

theorem paramsInRange_reset : ParamsInRange State.reset := by
  obtain ⟨-, -, -, -, hparams, -⟩ := theStateAfterResetIsSafe
  exact hparams

theorem accountInRange_reset : AccountInRange State.reset := by
  obtain ⟨-, -, -, -, -, haccount⟩ := theStateAfterResetIsSafe
  exact haccount

/-- R25 over the state after reset, the derived figures. -/
theorem reset_figures :
    qFull State.reset = qNom State.reset.params ∧ usable State.reset = 0 ∧
      storedSoc State.reset = 0 ∧ usableSoc State.reset = 0 ∧ reportedCharge State.reset = 0 ∧
      outputActive State.reset .chargeInhibit = true ∧ flagSet State.reset .bandChange = false ∧
      ∀ i : Fin 6, lampCap State.reset .critical = State.reset.params.nat 46 ∧
        State.reset.lamps.chans[i].applied = 0 := by
  decide

/-- Settles O3: a power-on reset keeps the queue alone, and no figure of the meter depends on it. -/
theorem powerOnResetOfTheMeter : Obligations.PowerOnResetOfTheMeter := by
  intro s
  obtain ⟨hfull, husable, hstored, husableSoc, hcharge, hout, hflag, hcap⟩ := reset_figures
  exact ⟨State.reset.setPending s.pending, rfl, rfl, rfl, rfl, rfl, hfull, husable, hstored, husableSoc,
    hcharge, rfl, rfl, rfl, rfl, rfl, rfl, rfl, rfl, rfl, rfl, rfl, hout, rfl, rfl, rfl, rfl, rfl, hflag,
    rfl, rfl, hcap⟩

/-! ## Answers that settle at once -/

/-- The answer of a request replaces the Link Interface alone, and keeps its flags. -/
theorem conditionHolds_answered (kind : Nat) (tag : Byte) (reply : List Byte) (s : State) (f : Flag) :
    conditionHolds (answered kind tag reply s) f = conditionHolds s f :=
  conditionHolds_setLink s _ f

theorem settled_answered {s : State} (h : Settled s) (kind : Nat) (tag : Byte) (reply : List Byte) :
    Settled (answered kind tag reply s) := by
  obtain ⟨hflags, hidle⟩ := h
  rw [flagsStand_iff] at hflags
  refine ⟨(flagsStand_iff _).mpr fun f hf => hflags f ?_, hidle⟩
  rwa [conditionHolds_answered] at hf

/-- A settled state with the conditions of `s` is left alone by the end of a command that began in `s`. -/
theorem settle_eq_of_settled {s t : State} (ht : Settled t)
    (hc : ∀ f, conditionHolds t f = true → conditionHolds s f = true) : settle s t = t :=
  settle_eq_self (fun f hf => ⟨hc f hf, (flagsStand_iff t).mp ht.1 f hf⟩) ht.2

/-- A request is not taken in DORMANT (R189). -/
theorem not_dormant_of_requestAt {kind : Nat} {tag : Byte} {p : List Byte} {s : State}
    (h : RequestAt kind tag p s) : s.time.power ≠ .dormant := by
  obtain ⟨-, -, hpower, -⟩ := h
  exact hpower

/-- A request that only reports is answered, and changes nothing else. -/
theorem takeRequest_reports {kind : Nat} {tag : Byte} {p : List Byte} {s : State}
    (report : State → List Byte) (hs : Settled s) (h : RequestAt kind tag p s)
    (hl : lengthAllowed kind p.length = true) :
    takeRequest kind tag p (fun t => (report t, t)) s = .next (answered kind tag (report s) s) := by
  rw [takeRequest_taken _ h hl, answer_eq_answered _ _ _ _ (not_dormant_of_requestAt h),
    settle_eq_of_settled (settled_answered hs _ _ _) fun f hf => by
      rwa [conditionHolds_answered] at hf]

/-- Settles O17: each query is a request that only reports. -/
theorem queriesChangeNothingElse : Obligations.QueriesChangeNothingElse := by
  intro s tag x y p levels hs
  refine ⟨?summary, ?paramRead, ?loadQuery, ?moveQuery, ?schedRead, ?pinRead, ?tankQuery, ?meterQuery,
    ?timeQuery⟩
  case summary =>
    intro h
    simp only [exec, execSummary]
    exact takeRequest_reports _ hs h rfl
  case paramRead =>
    intro h hlo hhi
    have hl : lengthAllowed 3 p.length = true := by simp [lengthAllowed, hlo, hhi]
    simp only [exec, execParamRead]
    exact takeRequest_reports _ hs h hl
  case loadQuery =>
    intro h
    simp only [exec, execLoadQuery]
    exact takeRequest_reports _ hs h rfl
  case moveQuery =>
    intro h
    simp only [exec, execMoveQuery]
    exact takeRequest_reports _ hs h rfl
  case schedRead =>
    intro h
    simp only [exec, execSchedRead]
    exact takeRequest_reports _ hs h rfl
  case pinRead =>
    intro h
    simp only [exec, execPinRead]
    exact takeRequest_reports _ hs h rfl
  case tankQuery =>
    intro h
    simp only [exec, execTankQuery]
    exact takeRequest_reports _ hs h rfl
  case meterQuery =>
    intro h
    simp only [exec, execMeterQuery]
    exact takeRequest_reports _ hs h rfl
  case timeQuery =>
    intro h
    simp only [exec, execTimeQuery]
    exact takeRequest_reports _ hs h rfl

/-! ## The account (R16, R17) -/

/-- What the conditions read of the meter: its inhibit, its age flag and its last readings. -/
theorem conditionHolds_setMeter {s : State} {m : Meter}
    (hi : m.chargeInhibit = s.meter.chargeInhibit) (hu : m.unsyncedLong = s.meter.unsyncedLong)
    (hr : m.readings = s.meter.readings) (f : Flag) :
    conditionHolds (s.setMeter m) f = conditionHolds s f := by
  cases f <;> simp [conditionHolds, sensorLost, meterSensorLost, roadUnsafe, hi, hu, hr] <;> rfl

/-- A change of the account alone leaves a settled state settled. -/
theorem settled_setMeter {s : State} {m : Meter} (h : Settled s)
    (hi : m.chargeInhibit = s.meter.chargeInhibit) (hu : m.unsyncedLong = s.meter.unsyncedLong)
    (hr : m.readings = s.meter.readings) : Settled (s.setMeter m) := by
  obtain ⟨hflags, hidle⟩ := h
  rw [flagsStand_iff] at hflags
  refine ⟨(flagsStand_iff _).mpr fun f hf => hflags f ?_, hidle⟩
  rwa [conditionHolds_setMeter hi hu hr] at hf

/-- Raising a flag leaves a settled state settled. -/
theorem settled_raiseFlag {s : State} (h : Settled s) (g : Flag) : Settled (raiseFlag s g) := by
  obtain ⟨hflags, hidle⟩ := h
  rw [flagsStand_iff] at hflags
  refine ⟨(flagsStand_iff _).mpr fun f hf => ?_, hidle⟩
  rw [conditionHolds_raiseFlag] at hf
  by_cases hg : g = f
  · simp [flagSet, hg]
  · simpa [flagSet, hg] using hflags f hf

/-- Settles O43: neither request changes what a condition reads of the meter, so the end of the command adds
nothing to the answer. -/
theorem accountSetAndFull : Obligations.AccountSetAndFull := by
  intro s tag hi lo permille hs
  have hbe : beNat [hi, lo] = permille := by simp [beNat, permille]
  refine ⟨fun h hp => ?set, fun h hp => ?refused, fun h => ?full⟩
  case set =>
    have hans : answer 21#8 tag (u8 Result.accepted.code) (accountSetOp permille s) =
        (answered 21 tag [0#8] s).setMeter (accountSetOp permille s).meter :=
      answer_eq_answered 21 _ _ _ (not_dormant_of_requestAt h)
    have hsettled : Settled ((answered 21 tag [0#8] s).setMeter (accountSetOp permille s).meter) :=
      settled_setMeter (settled_answered hs _ _ _) rfl rfl rfl
    simp only [exec, execAccountSet]
    rw [takeRequest_taken _ h rfl]
    simp only [hbe, if_pos hp, hans]
    refine congrArg _ (settle_eq_of_settled hsettled fun f hf => ?_)
    rwa [conditionHolds_setMeter (by rfl) (by rfl) (by rfl), conditionHolds_answered] at hf
  case refused =>
    have hact : (fun t => if beNat [hi, lo] ≤ 1000 then
          (u8 Result.accepted.code, accountSetOp (beNat [hi, lo]) t)
        else (u8 Result.range.code, t)) = fun t => ([4#8], t) := by
      simp only [hbe, if_neg (not_le.mpr hp)]; rfl
    simp only [exec, execAccountSet, hact]
    exact takeRequest_reports (fun _ => [4#8]) hs h rfl
  case full =>
    have hans : answer 22#8 tag (u8 Result.accepted.code) (accountFullOp s) =
        raiseFlag ((answered 22 tag [0#8] s).setMeter (s.meter.synchronised s.params))
          .accountSynced :=
      answer_eq_answered 22 _ _ _ (not_dormant_of_requestAt h)
    have hsettled : Settled (raiseFlag ((answered 22 tag [0#8] s).setMeter
        (s.meter.synchronised s.params)) .accountSynced) :=
      settled_raiseFlag (settled_setMeter (settled_answered hs _ _ _) rfl rfl rfl) _
    simp only [exec, execAccountFull]
    rw [takeRequest_taken _ h rfl]
    simp only [hans]
    refine congrArg _ (settle_eq_of_settled hsettled fun f hf => ?_)
    rwa [conditionHolds_raiseFlag, conditionHolds_setMeter (by rfl) (by rfl) (by rfl),
      conditionHolds_answered] at hf

end Sys2Proof.Machine
end

section
/-! PROOFS. The nine steps of an interval end (R7), step by step: what each leaves unchanged, and the
bounds of the account and of the derating factor. -/

namespace Sys2Proof.Machine

/-! ## What each step leaves unchanged -/

@[simp] theorem stepAccount_frame (p : Params) (c : Closed) (m : Meter) :
    let m' := stepAccount p c m
    m'.syncTimer = m.syncTimer ∧ m'.spent = m.spent ∧ m'.age = m.age ∧ m'.dayAcc = m.dayAcc ∧
      m'.acc = m.acc ∧ m'.filtered = m.filtered ∧ m'.derating = m.derating ∧
      m'.unsyncedLong = m.unsyncedLong ∧ m'.socBand = m.socBand ∧ m'.band = m.band ∧
      m'.floor = m.floor ∧ m'.belowTimer = m.belowTimer ∧ m'.recoveryTimer = m.recoveryTimer ∧
      m'.chargeInhibit = c.inhibit ∧ m'.intervalStart = m.intervalStart := by
  simp only [stepAccount]
  split <;> simp

@[simp] theorem stepSync_frame (p : Params) (c : Closed) (m : Meter) :
    let m' := stepSync p c m
    m'.readings = m.readings ∧ m'.acc = m.acc ∧ m'.filtered = m.filtered ∧ m'.derating = m.derating ∧
      m'.unsyncedLong = m.unsyncedLong ∧ m'.socBand = m.socBand ∧ m'.band = m.band ∧
      m'.floor = m.floor ∧ m'.belowTimer = m.belowTimer ∧ m'.recoveryTimer = m.recoveryTimer ∧
      m'.chargeInhibit = m.chargeInhibit ∧ m'.intervalStart = m.intervalStart := by
  simp only [stepSync]
  repeat' split
  all_goals simp [Meter.synchronised]

@[simp] theorem stepFigures_frame (p : Params) (c : Closed) (m : Meter) :
    let m' := stepFigures p c m
    m'.q = m.q ∧ m'.sync = m.sync ∧ m'.syncTimer = m.syncTimer ∧ m'.spent = m.spent ∧ m'.age = m.age ∧
      m'.dayAcc = m.dayAcc ∧ m'.readings = m.readings ∧ m'.acc = m.acc ∧
      m'.derating = deratingOf p c.battery ∧ m'.unsyncedLong = m.unsyncedLong ∧
      m'.socBand = m.socBand ∧ m'.band = m.band ∧ m'.floor = m.floor ∧ m'.belowTimer = m.belowTimer ∧
      m'.recoveryTimer = m.recoveryTimer ∧ m'.chargeInhibit = m.chargeInhibit ∧
      m'.intervalStart = m.intervalStart := by
  simp [stepFigures]

@[simp] theorem stepAge_frame (p : Params) (c : Closed) (m : Meter) :
    let m' := stepAge p c m
    m'.q = m.q ∧ m'.sync = m.sync ∧ m'.syncTimer = m.syncTimer ∧ m'.spent = m.spent ∧
      m'.readings = m.readings ∧ m'.acc = m.acc ∧ m'.filtered = m.filtered ∧
      m'.derating = m.derating ∧ m'.socBand = m.socBand ∧ m'.band = m.band ∧ m'.floor = m.floor ∧
      m'.belowTimer = m.belowTimer ∧ m'.recoveryTimer = m.recoveryTimer ∧
      m'.chargeInhibit = m.chargeInhibit ∧ m'.intervalStart = m.intervalStart := by
  simp only [stepAge]
  split <;> simp

@[simp] theorem stepFloor_frame (p : Params) (c : Closed) (m : Meter) :
    let m' := stepFloor p c m
    m'.q = m.q ∧ m'.sync = m.sync ∧ m'.syncTimer = m.syncTimer ∧ m'.spent = m.spent ∧ m'.age = m.age ∧
      m'.dayAcc = m.dayAcc ∧ m'.readings = m.readings ∧ m'.acc = m.acc ∧ m'.filtered = m.filtered ∧
      m'.derating = m.derating ∧ m'.unsyncedLong = m.unsyncedLong ∧ m'.socBand = m.socBand ∧
      m'.band = m.band ∧ m'.chargeInhibit = m.chargeInhibit ∧ m'.intervalStart = m.intervalStart := by
  simp only [stepFloor]
  repeat' split
  all_goals simp

@[simp] theorem stepBand_frame (p : Params) (first : Bool) (soc : Nat) (m : Meter) :
    let m' := stepBand p first soc m
    m'.q = m.q ∧ m'.sync = m.sync ∧ m'.syncTimer = m.syncTimer ∧ m'.spent = m.spent ∧ m'.age = m.age ∧
      m'.dayAcc = m.dayAcc ∧ m'.readings = m.readings ∧ m'.acc = m.acc ∧ m'.filtered = m.filtered ∧
      m'.derating = m.derating ∧ m'.unsyncedLong = m.unsyncedLong ∧ m'.floor = m.floor ∧
      m'.belowTimer = m.belowTimer ∧ m'.recoveryTimer = m.recoveryTimer ∧
      m'.chargeInhibit = m.chargeInhibit ∧ m'.intervalStart = m.intervalStart := by
  simp [stepBand]

/-! ## The account and the derating factor in their bounds -/

/-- The account within 0..Q_nom and the derating factor within 500..1000 (R10, R11). -/
def AccountFits (m : Meter) (p : Params) : Prop :=
  m.q ≤ qNom p ∧ 500 ≤ m.derating ∧ m.derating ≤ 1000

theorem accountInRange_iff (s : State) :
    AccountInRange s ↔ 10000 ≤ s.params.capacity ∧ AccountFits s.meter s.params := Iff.rfl

theorem AccountFits.congr {m m' : Meter} {p : Params} (h : AccountFits m p) (hq : m'.q = m.q)
    (hd : m'.derating = m.derating) : AccountFits m' p := by
  unfold AccountFits
  rwa [hq, hd]

theorem deratingOf_bounds (p : Params) (t : Int) :
    500 ≤ deratingOf p t ∧ deratingOf p t ≤ 1000 := by
  unfold deratingOf
  split
  · next h =>
    have hloss : 0 ≤ floorDiv ((p.coldCoefficient : Int) * (250 - t)) 10 :=
      Int.fdiv_nonneg (mul_nonneg (Int.natCast_nonneg _) (by omega)) (by omega)
    omega
  · omega

theorem estimatedSoc_le (p : Params) (c : Closed) : estimatedSoc p c ≤ 1000 := by
  unfold estimatedSoc clampInt
  split <;> omega

/-- Steps 1 to 3 leave the account within 0..Q_nom: an estimate is at most the whole, a count is
clamped. -/
theorem stepAccount_q_le (p : Params) (c : Closed) (m : Meter) : (stepAccount p c m).q ≤ qNom p := by
  simp only [stepAccount]
  split
  · exact Nat.div_le_of_le_mul
      (by rw [Nat.mul_comm 1000]; exact Nat.mul_le_mul_left _ (estimatedSoc_le p c))
  · simp only [clampInt]
    omega

/-- Step 4 keeps the account or makes it Q_nom. -/
theorem stepSync_q_le {p : Params} {c : Closed} {m : Meter} (h : m.q ≤ qNom p) :
    (stepSync p c m).q ≤ qNom p := by
  simp only [stepSync]
  repeat' split
  all_goals simp [Meter.synchronised, h]

/-- The account after the nine steps is that of step 4, the derating factor that of step 5. -/
theorem meterSteps_account (c : Closed) (s : State) :
    (meterSteps c s).meter.q = (stepSync s.params c (stepAccount s.params c s.meter)).q ∧
      (meterSteps c s).meter.derating = deratingOf s.params c.battery := by
  simp [meterSteps]

theorem meterSteps_fits (c : Closed) (s : State) : AccountFits (meterSteps c s).meter s.params := by
  obtain ⟨hq, hd⟩ := meterSteps_account c s
  unfold AccountFits
  rw [hq, hd]
  exact ⟨stepSync_q_le (stepAccount_q_le _ _ _), deratingOf_bounds _ _⟩

/-! ## The close of an interval -/

/-- What the meter holds once an interval has closed: the hand-offs and the flags leave it alone (R7). -/
theorem closeInterval_meter (t : Int) (order : List HandOff) (start : Tick) (s : State) :
    (closeInterval t order start s).meter =
      { (if intervalTicks s = 0 || s.meter.acc.count = 0 then s.meter
          else (meterSteps (closeReadings s.meter (intervalTicks s) t) s).meter) with
        acc := .empty, intervalStart := start } := by
  simp only [closeInterval]
  split <;> simp [nextInterval]

theorem closeInterval_fits (t : Int) (order : List HandOff) (start : Tick) {s : State}
    (h : AccountFits s.meter s.params) :
    AccountFits (closeInterval t order start s).meter s.params := by
  rw [closeInterval_meter]
  split
  · exact h.congr rfl rfl
  · exact (meterSteps_fits _ s).congr rfl rfl

theorem accumulate_fits (xs : List MeterSample) {s : State} (h : AccountFits s.meter s.params) :
    AccountFits (accumulate xs s).meter s.params := h.congr rfl rfl

end Sys2Proof.Machine
end

section
/-! PROOFS. Which commands touch the meter and the parameters, and what holds of them after every step:
the ranges of the parameters and of the account (R10, R11, R212), and the published band (R22). -/

namespace Sys2Proof.Machine

/-! ## Commands that leave the meter alone -/

/-- The commands that write a parameter, act on the account, advance device time or can close a metering
interval, and the power-on reset. -/
def actsOnMeter : Instr → Bool
  | .paramWrite _ _ _ => true
  | .accountSet _ _ => true
  | .accountFull _ _ => true
  | .timeSet _ _ _ => true
  | .powerOnReset => true
  | .intervalEnd _ => true
  | .dormantEntry _ => true
  | .leavingToActive _ => true
  | .deviceTimeAdvance _ _ => true
  | _ => false

/-- A property of the meter and the parameters that the state before has, and the effect of the command,
is a property of what the command answers: the end of a command leaves both alone. -/
theorem perform_meter {R : Meter → Params → Prop} {s t u : State} {e : Bool}
    (h : perform s e u = .next t) (hs : R s.meter s.params) (hu : R u.meter u.params) :
    R t.meter t.params := by
  have hm : (settle s u).meter = u.meter := by simp
  have hp : (settle s u).params = u.params := by simp
  rcases perform_cases h with h | h
  · rw [h]; exact hs
  · rw [h, hm, hp]; exact hu

theorem takeRequest_meter {R : Meter → Params → Prop} {kind : Nat} {tag : Byte} {p : List Byte}
    {act : State → List Byte × State} {s t : State} (h : takeRequest kind tag p act s = .next t)
    (hs : R s.meter s.params) (hact : R (act s).2.meter (act s).2.params) : R t.meter t.params := by
  refine perform_meter h hs ?_
  split
  · simpa using hact
  · simpa using hs

/-- The meter and the parameters as they were. -/
abbrev MeterKept (s : State) (m : Meter) (p : Params) : Prop := m = s.meter ∧ p = s.params

theorem receiveFrame_meter (bytes : List Byte) (s : State) :
    MeterKept s ((receiveFrame bytes s).getD s).meter ((receiveFrame bytes s).getD s).params := by
  unfold receiveFrame
  split <;> simp [MeterKept]

theorem discardFrame_meter (bytes : List Byte) (framing : Bool) (s : State) :
    MeterKept s ((discardFrame bytes framing s).getD s).meter
      ((discardFrame bytes framing s).getD s).params := by
  unfold discardFrame
  repeat' split
  all_goals simp [MeterKept]

theorem moveCancel_meter (tag : Byte) (p : List Byte) {s t : State}
    (h : execMoveCancel tag p s = .next t) : MeterKept s t.meter t.params := by
  refine takeRequest_meter h ⟨rfl, rfl⟩ ?_
  split <;> simp [MeterKept]

theorem schedWrite_meter (tag : Byte) (p : List Byte) {s t : State}
    (h : execSchedWrite tag p s = .next t) : MeterKept s t.meter t.params := by
  refine takeRequest_meter h ⟨rfl, rfl⟩ ?_
  repeat' split
  all_goals simp [MeterKept]

theorem schedFree_meter (tag : Byte) (p : List Byte) {s t : State}
    (h : execSchedFree tag p s = .next t) : MeterKept s t.meter t.params := by
  refine takeRequest_meter h ⟨rfl, rfl⟩ ?_
  repeat' split
  all_goals simp [MeterKept]

theorem pinMap_meter (tag : Byte) (p : List Byte) (level : Bool) (order : List HandOff) {s t : State}
    (h : execPinMap tag p level order s = .next t) : MeterKept s t.meter t.params := by
  refine takeRequest_meter h ⟨rfl, rfl⟩ ?_
  simp only
  repeat' split
  all_goals simp [MeterKept]

theorem noticeMask_meter (tag : Byte) (p : List Byte) {s t : State}
    (h : execNoticeMask tag p s = .next t) : MeterKept s t.meter t.params := by
  refine takeRequest_meter h ⟨rfl, rfl⟩ ?_
  split
  · next u hu =>
    simp only [noticeMaskOp] at hu
    split at hu
    · cases hu; simp [MeterKept]
    · cases hu
  · simp [MeterKept]

/-- Every other command leaves the meter and the parameters as they were. -/
theorem exec_keepsMeter {c : Instr} {s t : State} (h : exec c s = .next t)
    (hc : actsOnMeter c = false) : MeterKept s t.meter t.params := by
  have hself : MeterKept s s.meter s.params := ⟨rfl, rfl⟩
  cases c with
  | paramWrite | accountSet | accountFull | timeSet | powerOnReset | intervalEnd | dormantEntry
  | leavingToActive | deviceTimeAdvance => cases hc
  | summary | paramRead | loadQuery | moveQuery | schedRead | pinRead | tankQuery | meterQuery
  | timeQuery =>
    simp only [exec, execSummary, execParamRead, execLoadQuery, execMoveQuery, execSchedRead,
      execPinRead, execTankQuery, execMeterQuery, execTimeQuery] at h
    exact takeRequest_meter h hself hself
  | loadDemand | heatMode | movePost | sceneRecall | sceneStore | flagClear | drainOpen | restart
  | hold =>
    simp only [exec, execLoadDemand, execHeatMode, execMovePost, execSceneRecall, execSceneStore,
      execFlagClear, execDrainOpen, execRestart, execHold] at h
    exact takeRequest_meter h hself (by simp [MeterKept])
  | moveCancel => exact moveCancel_meter _ _ h
  | schedWrite => exact schedWrite_meter _ _ h
  | schedFree => exact schedFree_meter _ _ h
  | pinMap => exact pinMap_meter _ _ _ _ h
  | noticeMask => exact noticeMask_meter _ _ h
  | drainClose | recalibrate | dormant =>
    simp only [exec, execDrainClose, execRecalibrate, execDormant] at h
    refine takeRequest_meter h hself ?_
    split <;> simp [MeterKept]
  | validFrame bytes => exact perform_meter h hself (receiveFrame_meter bytes s)
  | frameDiscard bytes framing => exact perform_meter h hself (discardFrame_meter bytes framing s)
  | noticeBegin =>
    simp only [exec, execNoticeBegin] at h
    split at h
    · exact perform_meter h hself hself
    · exact perform_meter h hself (by simp [MeterKept])
  | cabinConversion | senderConversion | temperatureConversion =>
    simp only [exec, execCabinConversion, execSenderConversion, execTemperatureConversion] at h
    split at h
    · exact perform_meter h hself (by simp [MeterKept])
    · cases h
  | startByte | receiveTimeout | transmitEnd | restartPerform | holdEnd | hostSilence | fadeEnd
  | entryHoldEnd | glowEnd | purgeEnd | dangerDue | pumpRunExpiry | grantWaitExpiry | settleEnd
  | motorStall | backoffEnd | retryWaitEnd | motionTimeout | destinationReached | brakeHoldEnd
  | gapTimerEnd | driveMillisecond | windWindowEnd | windPulse | pinJoin | debounceComplete
  | scheduleFire | idleDue | calibrationEnd | calibrationNoSteps | unknownKindRequest =>
    exact perform_meter h hself (by simp [MeterKept])

/-! ## The commands that act on the meter: the published band (R22) -/

theorem capacityFollow_band (old : Nat) (s : State) :
    (capacityFollow old s).meter.band = s.meter.band := by
  unfold capacityFollow
  split <;> rfl

theorem paramFollow_band (id : Nat) (order : List HandOff) (before s : State) :
    (paramFollow id order before s).meter.band = s.meter.band := by
  refine paramFollow_cases (fun t => t.meter.band = s.meter.band) id order before s
    (capacityFollow_band _ s) ?_ ?_ ?_ ?_ ?_ ?_ ?_ ?_ ?_ ?_ ?_ ?_ ?_ ?_ <;> (try intro i) <;> simp

theorem writeParam_band (id : Nat) (v : Int) (order : List HandOff) (s : State) :
    (writeParam id v order s).2.meter.band = s.meter.band := by
  simp only [writeParam]
  split
  · split <;> simp [paramFollow_band]
  · rfl

theorem writeParams_band (order : List HandOff) (ps : List (Nat × Int)) (s : State) :
    (writeParams order ps s).2.meter.band = s.meter.band := by
  induction ps generalizing s with
  | nil => rfl
  | cons a ps ih => simp [writeParams, ih, writeParam_band]

/-- Settles O10: the meter's own requests and the parameter writes keep the band, and every command that
does not act on the meter keeps the whole of it. -/
theorem theBandChangesAtIntervalEndsOnly : Obligations.TheBandChangesAtIntervalEndsOnly := by
  intro s t c h hband
  cases hc : actsOnMeter c
  · exact absurd (congrArg Meter.band (exec_keepsMeter h hc).1) hband
  · cases c with
    | paramWrite tag p order =>
      simp only [exec, execParamWrite] at h
      refine absurd (takeRequest_meter (R := fun m _ => m.band = s.meter.band) h rfl ?_) hband
      exact writeParams_band order (parsePairs p) s
    | accountSet tag p =>
      simp only [exec, execAccountSet] at h
      refine absurd (takeRequest_meter (R := fun m _ => m.band = s.meter.band) h rfl ?_) hband
      split <;> rfl
    | accountFull tag p =>
      simp only [exec, execAccountFull] at h
      refine absurd (takeRequest_meter (R := fun m _ => m.band = s.meter.band) h rfl ?_) hband
      rfl
    | intervalEnd input => exact .inl ⟨input, rfl⟩
    | timeSet tag p input => exact .inr (.inl ⟨tag, p, input, rfl⟩)
    | dormantEntry input => exact .inr (.inr (.inl ⟨input, rfl⟩))
    | leavingToActive input => exact .inr (.inr (.inr (.inl ⟨input, rfl⟩)))
    | deviceTimeAdvance edge input => exact .inr (.inr (.inr (.inr (.inl ⟨edge, input, rfl⟩))))
    | powerOnReset => exact .inr (.inr (.inr (.inr (.inr rfl))))
    | _ => cases hc

/-! ## Parameters in their ranges after every step (R212) -/

/-- Every parameter lies in its range; `ParamsInRange` of a state is this of its parameters. -/
abbrev InRanges (p : Params) : Prop := ParamsInRange { State.reset with params := p }

theorem val_put (p : Params) {id j : Nat} (v : Int) (hid : 1 ≤ id) (hj : 1 ≤ j) (hj' : j ≤ 105) :
    (p.put id v).val j = if id = j then v else p.val j := by
  have hlt : j - 1 < 105 := by omega
  have heq : id - 1 = j - 1 ↔ id = j := by omega
  simp [Params.put, Params.val, Vector.getD, hlt, Array.getElem_setIfInBounds, heq]

/-- Identifier 0 names no parameter (R212). -/
theorem paramSpec_pos {id : Nat} {sp : ParamSpec} (h : paramSpec id = some sp) : 1 ≤ id := by
  rcases Nat.eq_zero_or_pos id with rfl | hpos
  · cases h
  · exact hpos

/-- A value that its specification allows keeps the parameter set in its ranges. -/
theorem inRanges_put {p : Params} (h : InRanges p) {id : Nat} {v : Int} {sp : ParamSpec}
    (hsp : paramSpec id = some sp) (hlo : sp.lo ≤ v) (hhi : v ≤ sp.hi) : InRanges (p.put id v) := by
  have hid := paramSpec_pos hsp
  intro i sp' hsp'
  simp only [val_put p v hid (show 1 ≤ i.val + 1 by omega) (show i.val + 1 ≤ 105 by omega)]
  split
  · next he =>
    subst he
    have hsame : sp = sp' := Option.some.inj (hsp.symm.trans hsp')
    exact hsame ▸ ⟨hlo, hhi⟩
  · exact h i sp' hsp'

/-- What an accepted pair guarantees: a known identifier and a value in its range. -/
theorem judgeParam_accepted {s : State} {id : Nat} {v : Int}
    (h : judgeParam s id v = .accepted) : ∃ sp, paramSpec id = some sp ∧ sp.lo ≤ v ∧ v ≤ sp.hi := by
  unfold judgeParam at h
  split at h
  · cases h
  · next sp hsp =>
    split at h
    · cases h
    · next hrange =>
      push Not at hrange
      exact ⟨sp, hsp, hrange.1, hrange.2.1⟩

/-- The state that holds an accepted value, before its owner acts on it: a write of the entry channel has
withdrawn ENTRY from the old channel (R63). -/
def withValue (id : Nat) (v : Int) (s : State) : State :=
  let t := if id = 54 then entryChannelWrite s else s
  t.setParams (t.params.put id v)

theorem withValue_params (id : Nat) (v : Int) (s : State) :
    (withValue id v s).params = s.params.put id v := by
  simp only [withValue]
  split <;> simp

theorem withValue_meter (id : Nat) (v : Int) (s : State) : (withValue id v s).meter = s.meter := by
  simp only [withValue]
  split <;> simp

/-- The two outcomes of one pair (R212): refused with its result and without effect, or accepted, with the
owner's action on the new value. -/
theorem writeParam_cases (id : Nat) (v : Int) (order : List HandOff) (s : State) :
    (writeParam id v order s = (judgeParam s id v, s) ∧ judgeParam s id v ≠ .accepted) ∨
      (judgeParam s id v = .accepted ∧ writeParam id v order s =
        (.accepted, settle s (paramFollow id order (if id = 54 then entryChannelWrite s else s)
          (withValue id v s)))) := by
  unfold writeParam
  split
  · next h => exact .inr ⟨h, rfl⟩
  · next h => exact .inl ⟨rfl, h⟩

theorem writeParam_params (id : Nat) (v : Int) (order : List HandOff) (s : State) :
    (writeParam id v order s).2.params =
      if judgeParam s id v = .accepted then s.params.put id v else s.params := by
  rcases writeParam_cases id v order s with ⟨h, hj⟩ | ⟨hj, h⟩
  · rw [h, if_neg hj]
  · rw [h, if_pos hj]
    simp [withValue_params]

theorem writeParam_inRanges (id : Nat) (v : Int) (order : List HandOff) {s : State}
    (h : InRanges s.params) : InRanges (writeParam id v order s).2.params := by
  rw [writeParam_params]
  split
  · next hj =>
    obtain ⟨sp, hsp, hlo, hhi⟩ := judgeParam_accepted hj
    exact inRanges_put h hsp hlo hhi
  · exact h

/-! ## The account in its bounds after every step (R10, R11, R24) -/

/-- A capacity write rescales the account, so that it still fits (R24). -/
theorem capacityFollow_fits {old : Nat} {s : State} (hq : s.meter.q ≤ old * 57600)
    (hlo : 500 ≤ s.meter.derating) (hhi : s.meter.derating ≤ 1000) :
    AccountFits (capacityFollow old s).meter s.params := by
  unfold capacityFollow
  split
  · next he => exact ⟨by rw [qNom, he]; exact hq, hlo, hhi⟩
  · refine ⟨Nat.div_le_of_le_mul ?_, hlo, hhi⟩
    calc s.meter.q * s.params.capacity ≤ old * 57600 * s.params.capacity :=
          Nat.mul_le_mul_right _ hq
      _ = old * qNom s.params := by rw [qNom]; ring

/-- No other write touches the meter. -/
theorem paramFollow_meter {id : Nat} (h : id ≠ 1) (order : List HandOff) (before s : State) :
    (paramFollow id order before s).meter = s.meter := by
  simp [paramFollow, h, apply_ite State.meter]

theorem capacity_put {p : Params} {id : Nat} (v : Int) (h : 1 ≤ id) (h' : id ≠ 1) :
    (p.put id v).capacity = p.capacity := by
  unfold Params.capacity Params.nat
  rw [val_put p v h (le_refl 1) (by omega), if_neg h']

theorem paramFollow_params (id : Nat) (order : List HandOff) (before s : State) :
    (paramFollow id order before s).params = s.params := by
  simp

theorem settle_fits (before u : State) :
    AccountFits (settle before u).meter (settle before u).params ↔ AccountFits u.meter u.params := by
  simp

theorem writeParam_fits (id : Nat) (v : Int) (order : List HandOff) {s : State}
    (h : AccountFits s.meter s.params) :
    AccountFits (writeParam id v order s).2.meter (writeParam id v order s).2.params := by
  obtain ⟨hq, hlo, hhi⟩ := h
  rcases writeParam_cases id v order s with ⟨hw, hj⟩ | ⟨hj, hw⟩
  · rw [hw]
    exact ⟨hq, hlo, hhi⟩
  · obtain ⟨sp, hsp, -, -⟩ := judgeParam_accepted hj
    rw [hw, settle_fits, paramFollow_params]
    by_cases hid : id = 1
    · subst hid
      have hfits := capacityFollow_fits (old := s.params.capacity) (s := withValue 1 v s)
        (by rwa [withValue_meter]) (by rwa [withValue_meter]) (by rwa [withValue_meter])
      simpa [paramFollow] using hfits
    · rw [paramFollow_meter hid, withValue_meter, withValue_params]
      refine ⟨?_, hlo, hhi⟩
      rwa [qNom, capacity_put v (paramSpec_pos hsp) hid]

end Sys2Proof.Machine
end

section
/-! PROOFS. An invariant of the meter and the parameters, kept by every step once the few operations that
act on them keep it; with that the ranges of R10, R11 and R212. -/

namespace Sys2Proof.Machine

/-- A property of the meter and the parameters that the power-on reset has and that every operation on them
keeps: a parameter write, the two account requests, the samples of an interval and its close. -/
structure MeterInvariant (R : Meter → Params → Prop) : Prop where
  reset : R Meter.reset Params.defaults
  write : ∀ (s : State) (id : Nat) (v : Int) (order : List HandOff), R s.meter s.params →
    R (writeParam id v order s).2.meter (writeParam id v order s).2.params
  set : ∀ (s : State) (permille : Nat), permille ≤ 1000 → R s.meter s.params →
    R (accountSetOp permille s).meter s.params
  full : ∀ s : State, R s.meter s.params → R (s.meter.synchronised s.params) s.params
  sample : ∀ (s : State) (xs : List MeterSample), R s.meter s.params →
    R (accumulate xs s).meter s.params
  close : ∀ (s : State) (t : Int) (order : List HandOff) (start : Tick), R s.meter s.params →
    R (closeInterval t order start s).meter s.params

namespace MeterInvariant

variable {R : Meter → Params → Prop} (hR : MeterInvariant R) {s : State}

include hR

theorem writeParams (order : List HandOff) (ps : List (Nat × Int)) (hs : R s.meter s.params) :
    R (Machine.writeParams order ps s).2.meter (Machine.writeParams order ps s).2.params := by
  induction ps generalizing s with
  | nil => exact hs
  | cons a ps ih => exact ih (hR.write s _ _ _ hs)

theorem slowAdvance (input : MeterInput) (hs : R s.meter s.params) :
    R (slowAdvance input s).meter (slowAdvance input s).params := by
  have h := hR.sample (silenceFall (incTicks s) (addInc s)) input.samples (by simpa using hs)
  simpa [Machine.slowAdvance] using h

theorem becomeDormant (input : MeterInput) (hs : R s.meter s.params) :
    R (becomeDormant input s).meter (becomeDormant input s).params := by
  simp only [Machine.becomeDormant]
  simp only [closeInterval_frame]
  exact hR.close _ _ _ _ (by simpa using hs)

theorem becomeActive (input : MeterInput) (hs : R s.meter s.params) :
    R (becomeActive input s).meter (becomeActive input s).params := by
  unfold Machine.becomeActive
  refine inOrder_keeps (fun t => R t.meter t.params) _ _ _ (by simpa using hs) ?_
  intro a ha t ht
  simp only [List.mem_cons, List.not_mem_nil, or_false] at ha
  rcases ha with rfl | rfl | rfl
  · simpa using hR.close t input.temperature input.order t.now ht
  · simpa using ht
  · simpa using ht

/-- A slow step closes an interval where it enters DORMANT or ACTIVE (R2, R188, R191). -/
theorem slowStep (fastTime : Nat) (input : MeterInput) (hs : R s.meter s.params) :
    R (slowStep fastTime input s).meter (slowStep fastTime input s).params := by
  have hadvance := hR.slowAdvance input hs
  unfold Machine.slowStep
  split
  · simpa using hR.sample s input.samples hs
  · split
    · exact hR.becomeDormant input hadvance
    · exact hadvance
  · exact hadvance
  · exact hR.becomeActive input hadvance

theorem fastTick (input : MeterInput) (hs : R s.meter s.params) :
    R (fastTick input s).meter (fastTick input s).params := by
  simpa [Machine.fastTick] using hR.sample s input.samples hs

/-- A time set closes the interval on the old time; neither the moved instants nor the firings of the
schedule act on the meter (R177, R183). -/
theorem timeSetOp (new : Tick) (input : MeterInput) (hs : R s.meter s.params) :
    R (timeSetOp new input s).meter (timeSetOp new input s).params := by
  have hsample := hR.sample s input.samples hs
  have hclose := hR.close (accumulate input.samples s) input.temperature input.order new
    (by simpa using hsample)
  simpa [Machine.timeSetOp, setTimeOp] using hclose

/-- Every command keeps such a property. -/
theorem exec {c : Instr} {t : State} (h : exec c s = .next t) (hs : R s.meter s.params) :
    R t.meter t.params := by
  cases hc : actsOnMeter c
  · obtain ⟨hm, hp⟩ := exec_keepsMeter h hc
    rwa [hm, hp]
  · cases c with
    | powerOnReset =>
      simp only [Machine.exec, execPowerOnReset, Host.Outcome.next.injEq] at h
      exact h ▸ hR.reset
    | paramWrite tag p order =>
      simp only [Machine.exec, execParamWrite] at h
      exact takeRequest_meter h hs (hR.writeParams order (parsePairs p) hs)
    | accountSet tag p =>
      simp only [Machine.exec, execAccountSet] at h
      refine takeRequest_meter h hs ?_
      split
      · next hp => exact hR.set s _ hp hs
      · exact hs
    | accountFull tag p =>
      simp only [Machine.exec, execAccountFull] at h
      exact takeRequest_meter h hs (hR.full s hs)
    | timeSet tag p input =>
      simp only [Machine.exec, execTimeSet] at h
      split at h
      · refine takeRequest_meter h hs ?_
        simpa only using hR.timeSetOp (BitVec.ofNat 32 (beNat p)) input hs
      · cases h
    | intervalEnd input =>
      simp only [Machine.exec, execIntervalEnd] at h
      split at h
      · refine perform_meter h hs ?_
        have hsample := hR.sample s input.samples hs
        have hclose := hR.close (accumulate input.samples s) input.temperature input.order s.now
          (by simpa using hsample)
        simpa using hclose
      · cases h
    | dormantEntry input =>
      simp only [Machine.exec, execDormantEntry] at h
      split at h
      · exact perform_meter h hs (hR.slowStep 0 input hs)
      · cases h
    | leavingToActive input =>
      simp only [Machine.exec, execLeavingToActive] at h
      split at h
      · exact perform_meter h hs (hR.slowStep 0 input hs)
      · cases h
    | deviceTimeAdvance edge input =>
      simp only [Machine.exec, execDeviceTimeAdvance] at h
      split at h
      · split at h
        · exact perform_meter h hs (hR.fastTick input hs)
        · exact perform_meter h hs (hR.slowStep _ input hs)
      · cases h
    | _ => cases hc

/-- Every step keeps such a property: the queue and the line's bit clock do not touch it. -/
theorem step {t : State} (h : step s = .next t) (hs : R s.meter s.params) : R t.meter t.params := by
  unfold Machine.step at h
  split at h
  · cases h
    simpa using hs
  · exact hR.exec h hs

end MeterInvariant

theorem meterInvariant_inRanges : MeterInvariant (fun _ p => InRanges p) where
  reset := paramsInRange_reset
  write _ _ _ _ h := writeParam_inRanges _ _ _ h
  set _ _ _ h := h
  full _ h := h
  sample _ _ h := h
  close _ _ _ _ h := h

theorem meterInvariant_fits : MeterInvariant AccountFits where
  reset := ((accountInRange_iff _).mp accountInRange_reset).2
  write _ _ _ _ h := writeParam_fits _ _ _ h
  set s _ hp h := ⟨Nat.div_le_of_le_mul (by rw [Nat.mul_comm]; exact Nat.mul_le_mul_right _ hp), h.2⟩
  full _ h := ⟨le_refl _, h.2⟩
  sample _ xs h := accumulate_fits xs h
  close _ _ _ _ h := closeInterval_fits _ _ _ h

/-- Settles O9: both ranges are invariants of the meter and the parameters, and the capacity is a parameter
in its range. -/
theorem parametersAndAccountStayInRange : Obligations.ParametersAndAccountStayInRange := by
  have hparams : ∀ s t : State, ParamsInRange s → step s = .next t → ParamsInRange t :=
    fun s t hs h => meterInvariant_inRanges.step h hs
  refine ⟨hparams, fun s t hs haccount h => ?_⟩
  have hcapacity := capacity_in_range (p := t.params) (hparams s t hs h)
  exact ⟨hcapacity.1, meterInvariant_fits.step h haccount.2⟩

end Sys2Proof.Machine
end

section
/-! PROOFS. What the hand-offs of an interval end keep and what they bring about, whatever their order
(R7, R22, log 3). -/

namespace Sys2Proof.Machine

/-! ## Hand-offs taken in order -/

/-- What one of the hand-offs establishes and all of them keep holds after them, whatever their order. -/
theorem inOrder_establishes (Q : State → Prop) (order : List HandOff)
    {acts : List (HandOff × (State → State))} {a : HandOff × (State → State)} (s : State)
    (hdistinct : (acts.map Prod.fst).Nodup) (ha : a ∈ acts) (hest : ∀ t, Q (a.2 t))
    (hkeep : ∀ b ∈ acts, ∀ t, Q t → Q (b.2 t)) : Q (inOrder order acts s) := by
  induction order generalizing acts s with
  | nil =>
    simp only [inOrder_nil]
    induction acts generalizing s with
    | nil => cases ha
    | cons b acts ih =>
      have htail : ∀ b ∈ acts, ∀ t, Q t → Q (b.2 t) := fun b hb => hkeep b (by simp [hb])
      rcases List.mem_cons.mp ha with rfl | ha
      · exact inOrder_keeps Q [] acts (a.2 s) (hest s) htail
      · exact ih (b.2 s) (List.nodup_cons.mp hdistinct).2 ha htail
  | cons k rest ih =>
    unfold inOrder
    split
    · next b hb =>
      have hbmem := List.mem_of_find?_eq_some hb
      have hbk : b.1 = k := by simpa using List.find?_some hb
      have hrest : ∀ b' ∈ acts.filter (fun x => decide (x.1 ≠ k)), ∀ t, Q t → Q (b'.2 t) :=
        fun b' hb' => hkeep b' (List.mem_of_mem_filter hb')
      by_cases hak : a.1 = k
      · have hab : a = b := List.inj_on_of_nodup_map hdistinct ha hbmem (hak.trans hbk.symm)
        exact inOrder_keeps Q rest _ _ (hab ▸ hest s) hrest
      · exact ih _ (hdistinct.sublist (List.filter_sublist.map _))
          (List.mem_filter.mpr ⟨ha, by simpa using hak⟩) hrest
    · exact ih s hdistinct ha hkeep

/-! ## Input events under a wake -/

theorem joinedTo_clearCount (p : Pin) (e : InputEvent) : p.clearCount.joinedTo e = p.joinedTo e := by
  obtain ⟨mode, polarity, event, wakes, binding⟩ := p
  cases binding with
  | unbound => rfl
  | settling r n => rcases event with _ | (_ | _) <;> rfl
  | joined r n => rcases event with _ | (_ | _) <;> rfl

/-- The debounce counts restart without a change of any input event (R162). -/
theorem any_restartDebounce (f : Option Bool → Bool) (s : State) (e : InputEvent) :
    (vlist (restartDebounce s).pins).any (fun p => f (p.joinedTo e)) =
      (vlist s.pins).any (fun p => f (p.joinedTo e)) := by
  simp [restartDebounce, vlist, List.any_map, Function.comp_def, joinedTo_clearCount]

theorem wake_pins (s : State) :
    (wake s).pins = s.pins ∨ (wake s).pins = (restartDebounce s).pins := by
  unfold wake
  split
  · exact .inr (by simp [wakeFromDormant])
  · exact .inl rfl
  · exact .inl rfl
  · exact .inl rfl

theorem eventActive_wake (s : State) (e : InputEvent) : eventActive (wake s) e = eventActive s e := by
  rcases wake_pins s with h | h
  · exact eventActive_of_pins h e
  · unfold eventActive
    rw [h]
    exact any_restartDebounce (fun o => o.getD false) s e

theorem eventMapped_wake (s : State) (e : InputEvent) : eventMapped (wake s) e = eventMapped s e := by
  rcases wake_pins s with h | h
  · exact eventMapped_of_pins h e
  · unfold eventMapped
    rw [h]
    exact any_restartDebounce (fun o => o.isSome) s e

/-- R190: after a wake the part is not asleep; an awake part keeps its power state. -/
theorem wake_power (s : State) :
    (wake s).time.power = if asleep s then .leaving else s.time.power := by
  unfold wake asleep
  split <;> simp_all

theorem asleep_congr {s t : State} (h : t.time.power = s.time.power) : asleep t = asleep s := by
  unfold asleep; rw [h]

theorem not_asleep_wake (s : State) : asleep (wake s) = false := by
  have h := wake_power s
  unfold asleep at h ⊢
  split at h <;> simp_all

/-! ## What every hand-off keeps -/

/-- From `s` to `t`, beside the fields of `OnlyMeterHandOffs`: the origins of every record but HEATER's,
every flag but the two of a shed, the input events, and the power state but for a wake. -/
structure HandedOn (s t : State) : Prop where
  origins : ∀ ch, ch ≠ chHeater → origins t ch = origins s ch
  flags : ∀ f, f ≠ .loadShed → f ≠ .overdrawShed → flagBits t f = flagBits s f
  active : ∀ e, eventActive t e = eventActive s e
  mapped : ∀ e, eventMapped t e = eventMapped s e
  power : t.time.power = s.time.power ∨ (asleep s = true ∧ t.time.power = .leaving)

namespace HandedOn

theorem refl (s : State) : HandedOn s s := ⟨fun _ _ => rfl, fun _ _ _ => rfl, fun _ => rfl, fun _ => rfl,
  .inl rfl⟩

theorem trans {s t u : State} (h : HandedOn s t) (k : HandedOn t u) : HandedOn s u where
  origins ch hch := (k.origins ch hch).trans (h.origins ch hch)
  flags f hl ho := (k.flags f hl ho).trans (h.flags f hl ho)
  active e := (k.active e).trans (h.active e)
  mapped e := (k.mapped e).trans (h.mapped e)
  power := by
    rcases h.power with hp | ⟨hs, hp⟩ <;> rcases k.power with kp | ⟨kt, kp⟩
    · exact .inl (kp.trans hp)
    · exact .inr ⟨asleep_congr hp ▸ kt, kp⟩
    · exact .inr ⟨hs, kp.trans hp⟩
    · exact .inr ⟨hs, kp⟩

/-- An operation within the lists and the loads, which does not touch the pins or the power state. -/
theorem of_same {s t : State} (h : SameDemands s t) (hpins : t.pins = s.pins)
    (hpower : t.time.power = s.time.power) : HandedOn s t where
  origins ch _ := h.get ch
  flags f hl _ := h.flags f hl
  active := eventActive_of_pins hpins
  mapped := eventMapped_of_pins hpins
  power := .inl hpower

/-- Where the part is awake afterwards, the power state is known (R190). -/
theorem power_of_awake {s t : State} (h : HandedOn s t) (ht : asleep t = false) :
    t.time.power = if asleep s then .leaving else s.time.power := by
  rcases h.power with hp | ⟨hs, hp⟩
  · rw [asleep_congr hp] at ht
    rw [ht, hp]
    rfl
  · rw [hs, hp]
    rfl

theorem of_reevaluate (before s : State) : HandedOn s (reevaluate before s) :=
  of_same (reevaluate_same before s) (by simp) (by simp)

theorem of_reevaluateAlways (before s : State) : HandedOn s (reevaluateAlways before s) :=
  of_same (reevaluateAlways_same before s) (by simp) (by simp)

end HandedOn

theorem bandToTable_handedOn (s : State) : HandedOn s (bandToTable s) := by
  simp only [bandToTable]
  refine .trans (.of_same (.of_eq ?_ ?_) ?_ ?_) (.of_reevaluate s _) <;> simp

theorem lampsFollowCap_handedOn (s : State) : HandedOn s (lampsFollowCap s) := by
  refine .trans (.of_same (.of_eq ?_ ?_) ?_ ?_) (.of_reevaluate s (recomputeLamps s)) <;> simp

theorem wake_handedOn (s : State) : HandedOn s (wake s) where
  origins ch _ := by simp [origins]
  flags f _ _ := flagBits_of_flags (by simp) f
  active := eventActive_wake s
  mapped := eventMapped_wake s
  power := by
    rw [wake_power]
    cases h : asleep s
    · exact .inl rfl
    · exact .inr ⟨rfl, rfl⟩

/-- The sequencer's own record is the only one whose origins a change of the heater's inputs touches. -/
theorem syncHeater_handedOn (s : State) : HandedOn s (syncHeater s) where
  origins ch hch := by rw [syncHeater, origins_setOrigins, if_neg (Ne.symm hch)]
  flags f _ _ := flagBits_of_flags (by simp) f
  active := eventActive_of_pins (by simp)
  mapped := eventMapped_of_pins (by simp)
  power := .inl (by simp)

theorem heaterSettle_handedOn (before s : State) : HandedOn s (heaterSettle before s) := by
  unfold heaterSettle
  split
  · exact .trans (syncHeater_handedOn s) (.of_reevaluate _ _)
  · exact .trans (syncHeater_handedOn s) (.of_reevaluateAlways _ _)

theorem bandToHeater_handedOn (s : State) : HandedOn s (bandToHeater s) := by
  unfold bandToHeater heaterFollow
  refine .trans (.of_same (.of_eq ?_ ?_) ?_ ?_)
    (heaterSettle_handedOn s (heaterAct (heaterRecompute false s))) <;> simp

/-- A shed for overdraw raises OVERDRAW_SHED beside the walk's LOAD_SHED (R46). -/
theorem overdrawShed_handedOn (s : State) : HandedOn s (overdrawShed s) := by
  unfold overdrawShed
  split
  · exact .refl s
  · next ch _ =>
    have hshed : HandedOn s (shedRecord s ch) := .of_same (shedRecord_same s ch) (by simp) (by simp)
    generalize shedRecord s ch = t at hshed ⊢
    have hhold : HandedOn t (setRec t ch { t.table.recs[ch] with overdrawHold := true }) :=
      .of_same (setRec_same t ch _ rfl) (by simp) (by simp)
    have hraise : ∀ u, HandedOn u (raiseFlag u .overdrawShed) := fun u =>
      { origins := fun ch _ => by simp [origins]
        flags := fun f _ ho => by simp [Ne.symm ho]
        active := eventActive_of_pins (by simp)
        mapped := eventMapped_of_pins (by simp)
        power := .inl (by simp) }
    exact hshed.trans (hhold.trans ((hraise _).trans (.of_reevaluateAlways s _)))

/-- Clearing the overdraw holds leaves the origins alone (R47). -/
theorem clearHolds_same (s : State) :
    SameDemands s (s.setTable
      { s.table with recs := vmap (fun _ r => { r with overdrawHold := false }) s.table.recs }) :=
  ⟨fun ch => by simp, fun f _ => flagBits_of_flags (by simp) f⟩

theorem releaseHolds_handedOn (s : State) : HandedOn s (releaseHolds s) := by
  unfold releaseHolds
  split
  · exact .trans (.of_same (clearHolds_same s) (by simp) (by simp)) (.of_reevaluateAlways s _)
  · exact .refl s

theorem overdrawCheck_handedOn (current : Int) (s : State) : HandedOn s (overdrawCheck current s) := by
  have hset : ∀ x : LoadTable, x.recs = s.table.recs → HandedOn s (s.setTable x) := fun x hx =>
    .of_same (.of_eq (by simpa using hx) (by simp)) (by simp) (by simp)
  unfold overdrawCheck
  split
  · split
    · exact .trans (hset _ (by rfl)) (overdrawShed_handedOn _)
    · exact hset _ (by rfl)
  · split
    · exact .trans (hset _ (by rfl)) (releaseHolds_handedOn _)
    · exact hset _ (by rfl)

/-! ## The hand-offs of an interval end -/

/-- What an interval end hands on, with the receiver of each (R7, R22). -/
def meterActs (c : Closed) (changed : Bool) : List (HandOff × (State → State)) :=
  if changed then
    [(.bandOverdraw, overdrawCheck c.current), (.bandBudget, bandToTable),
      (.bandLamps, lampsFollowCap), (.bandHeater, bandToHeater), (.bandWake, wake)]
  else [(.bandOverdraw, overdrawCheck c.current)]

theorem meterHandOffs_eq (c : Closed) (changed : Bool) (order : List HandOff) (s : State) :
    meterHandOffs c changed order s = inOrder order (meterActs c changed) s := by
  unfold meterHandOffs meterActs
  cases changed <;> rfl

/-- A hand-off of an interval end is one of these five, and without a change of the band the first. -/
theorem mem_meterActs {P : (State → State) → Prop} {c : Closed} {changed : Bool}
    (hoverdraw : P (overdrawCheck c.current))
    (hchange : changed = true → P bandToTable ∧ P lampsFollowCap ∧ P bandToHeater ∧ P wake) :
    ∀ a ∈ meterActs c changed, P a.2 := by
  intro a ha
  cases changed with
  | false =>
    simp only [meterActs, Bool.false_eq_true, if_false, List.mem_singleton] at ha
    exact ha ▸ hoverdraw
  | true =>
    obtain ⟨htable, hlamps, hheater, hwake⟩ := hchange rfl
    simp only [meterActs, if_true, List.mem_cons, List.not_mem_nil, or_false] at ha
    rcases ha with rfl | rfl | rfl | rfl | rfl
    exacts [hoverdraw, htable, hlamps, hheater, hwake]

theorem meterHandOffs_handedOn (c : Closed) (changed : Bool) (order : List HandOff) (s : State) :
    HandedOn s (meterHandOffs c changed order s) := by
  rw [meterHandOffs_eq]
  refine inOrder_keeps (HandedOn s) order _ s (.refl s) ?_
  refine mem_meterActs (P := fun f => ∀ t, HandedOn s t → HandedOn s (f t))
    (fun t h => h.trans (overdrawCheck_handedOn _ t)) fun _ =>
    ⟨fun t h => h.trans (bandToTable_handedOn t), fun t h => h.trans (lampsFollowCap_handedOn t),
      fun t h => h.trans (bandToHeater_handedOn t), fun t h => h.trans (wake_handedOn t)⟩

/-- Without a change of the band the table's band and budget, the ceiling and the power state stay. -/
theorem meterHandOffs_unchanged (c : Closed) (order : List HandOff) (s : State) :
    let t := meterHandOffs c false order s
    t.table.band = s.table.band ∧ t.table.budget = s.table.budget ∧
      t.heater.ceiling = s.heater.ceiling ∧ t.time.power = s.time.power := by
  rw [meterHandOffs_eq]
  refine inOrder_keeps (fun t => t.table.band = s.table.band ∧ t.table.budget = s.table.budget ∧
    t.heater.ceiling = s.heater.ceiling ∧ t.time.power = s.time.power) order _ s
    ⟨rfl, rfl, rfl, rfl⟩ ?_
  exact mem_meterActs (P := fun f => ∀ t, (t.table.band = s.table.band ∧
      t.table.budget = s.table.budget ∧ t.heater.ceiling = s.heater.ceiling ∧
      t.time.power = s.time.power) → (f t).table.band = s.table.band ∧
      (f t).table.budget = s.table.budget ∧ (f t).heater.ceiling = s.heater.ceiling ∧
      (f t).time.power = s.time.power)
    (fun t h => by simpa using h) (fun h => absurd h Bool.false_ne_true)

/-- What the budget depends on (R34). -/
theorem budgetNow_congr {s t : State} (hb : t.table.band = s.table.band) (hp : t.params = s.params)
    (he : ∀ e, eventActive t e = eventActive s e) : budgetNow t = budgetNow s := by
  simp [budgetNow, allowance, hb, hp, he]

/-- The Budget Arbiter holds the published band with its budget (R34, R35). -/
def TableFollows (t : State) : Prop := t.table.band = t.meter.band ∧ t.table.budget = budgetNow t

theorem TableFollows.congr {s t : State} (h : TableFollows s) (hm : t.meter = s.meter)
    (hb : t.table.band = s.table.band) (hB : t.table.budget = s.table.budget)
    (hp : t.params = s.params) (he : ∀ e, eventActive t e = eventActive s e) : TableFollows t := by
  obtain ⟨hband, hbudget⟩ := h
  exact ⟨by rw [hb, hm, hband], by rw [hB, budgetNow_congr hb hp he, hbudget]⟩

theorem bandToTable_follows (s : State) : TableFollows (bandToTable s) := by
  have hband : (bandToTable s).table.band = s.meter.band := by simp [bandToTable]
  have hbudget : (bandToTable s).table.budget =
      budgetNow (s.setTable { s.table with band := s.meter.band }) := by simp [bandToTable]
  refine ⟨by simp [hband], ?_⟩
  rw [hbudget]
  exact (budgetNow_congr hband (by simp) (eventActive_of_pins (by simp))).symm

/-- A change of the band reaches the table, the heater and the power state, in whatever order (R22, R34,
R74, R190). -/
theorem meterHandOffs_changed (c : Closed) (order : List HandOff) (s : State) :
    let t := meterHandOffs c true order s
    TableFollows t ∧ t.heater.ceiling = ceilingOf t.meter.band ∧ asleep t = false := by
  have hdistinct : ((meterActs c true).map Prod.fst).Nodup := by simp [meterActs]
  rw [meterHandOffs_eq]
  refine ⟨?table, ?ceiling, ?power⟩
  case table =>
    refine inOrder_establishes TableFollows order s hdistinct (a := (.bandBudget, bandToTable))
      (by simp [meterActs]) bandToTable_follows ?_
    exact mem_meterActs (P := fun f => ∀ t, TableFollows t → TableFollows (f t))
      (fun t h => h.congr (by simp) (by simp) (by simp) (by simp) (overdrawCheck_handedOn _ t).active)
      fun _ => ⟨fun t _ => bandToTable_follows t,
        fun t h => h.congr (by simp) (by simp) (by simp) (by simp) (lampsFollowCap_handedOn t).active,
        fun t h => h.congr (by simp) (by simp) (by simp) (by simp) (bandToHeater_handedOn t).active,
        fun t h => h.congr (by simp) (by simp) (by simp) (by simp) (wake_handedOn t).active⟩
  case ceiling =>
    have hest : ∀ t, (bandToHeater t).heater.ceiling = ceilingOf (bandToHeater t).meter.band := by
      intro t
      simp [bandToHeater, heaterFollow, heaterRecompute]
    refine inOrder_establishes (fun t => t.heater.ceiling = ceilingOf t.meter.band) order s hdistinct
      (a := (.bandHeater, bandToHeater)) (by simp [meterActs]) hest ?_
    exact mem_meterActs
      (P := fun f => ∀ t : State, t.heater.ceiling = ceilingOf t.meter.band →
        (f t).heater.ceiling = ceilingOf (f t).meter.band)
      (fun t h => by simpa using h)
      fun _ => ⟨fun t h => by simpa using h, fun t h => by simpa using h, fun t _ => hest t,
        fun t h => by simpa using h⟩
  case power =>
    refine inOrder_establishes (fun t => asleep t = false) order s hdistinct (a := (.bandWake, wake))
      (by simp [meterActs]) not_asleep_wake ?_
    exact mem_meterActs (P := fun f => ∀ t, asleep t = false → asleep (f t) = false)
      (fun t h => by rwa [asleep_congr (s := t) (by simp)])
      fun _ => ⟨fun t h => by rwa [asleep_congr (s := t) (by simp)],
        fun t h => by rwa [asleep_congr (s := t) (by simp)],
        fun t h => by rwa [asleep_congr (s := t) (by simp)], fun t _ => not_asleep_wake t⟩

end Sys2Proof.Machine
end

section
/-! PROOFS. The figures that the nine steps of an interval end leave, each as one equation over the meter
before them (R7, R10 to R13, R15, R18 to R22, R26). -/

namespace Sys2Proof.Machine

/-! ## Readings -/

/-- The mean voltage of an interval, also where the sum is negative. -/
theorem floorDiv_toNat (a : Int) (n : Nat) : (floorDiv a n).toNat = a.toNat / n := by
  unfold floorDiv
  rcases Int.le_total 0 a with h | h
  · obtain ⟨k, rfl⟩ := Int.eq_ofNat_of_zero_le h
    rw [Int.fdiv_eq_ediv_of_nonneg _ (Int.natCast_nonneg n)]
    simp [← Int.natCast_ediv]
  · have hle : Int.fdiv a n ≤ 0 := by
      rw [Int.fdiv_eq_ediv_of_nonneg _ (Int.natCast_nonneg n)]
      rcases Nat.eq_zero_or_pos n with rfl | hn
      · simp
      · simpa using Int.ediv_le_ediv (Int.natCast_pos.mpr hn) h
    rw [Int.toNat_of_nonpos hle, Int.toNat_of_nonpos h, Nat.zero_div]

/-! ## The account (R10, R15, R26) -/

/-- R26: this interval is the first, and the account is still to be estimated. -/
def estimates (c : Closed) (m : Meter) : Bool := c.first && decide (m.sync = .estimating)

theorem stepAccount_account (p : Params) (c : Closed) (m : Meter) :
    let m' := stepAccount p c m
    let q := (m.q : Int) + effectiveCharge p c.current c.n
    m'.q = (if estimates c m then qNom p * estimatedSoc p c / 1000
        else (clampInt q 0 (qNom p)).toNat) ∧
      m'.sync = (if estimates c m then .unsynced else m.sync) ∧
      m'.readings = some (c.readings (!estimates c m && decide (q < 0))) := by
  intro m' q
  have hm : m' = stepAccount p c m := rfl
  unfold stepAccount at hm
  change m' = if estimates c m = true then _ else _ at hm
  cases h : estimates c m <;> simp [hm, h, q]

theorem syncNow_stepAccount (p : Params) (c : Closed) (m : Meter) :
    syncNow p c (stepAccount p c m) = syncNow p c m := by
  simp [syncNow]

theorem syncNow_iff (p : Params) (c : Closed) (m : Meter) :
    syncNow p c m = true ↔
      tailHolds p c = true ∧ m.spent = false ∧ p.syncHold * 16 ≤ m.syncTimer + c.n := by
  simp [syncNow, and_assoc]

theorem stepSync_account (p : Params) (c : Closed) (m : Meter) :
    let m' := stepSync p c m
    m'.q = (if syncNow p c m then qNom p else m.q) ∧
      m'.sync = (if syncNow p c m then .synced else m.sync) ∧
      m'.age = (if syncNow p c m then 0 else m.age) ∧
      m'.dayAcc = (if syncNow p c m then 0 else m.dayAcc) ∧
      m'.spent = (tailHolds p c && (m.spent || syncNow p c m)) ∧
      m'.syncTimer = (if tailHolds p c = false ∨ syncNow p c m = true then 0
        else if m.spent then m.syncTimer else m.syncTimer + c.n) := by
  cases htail : tailHolds p c
  · simp [stepSync, syncNow, htail]
  · cases hspent : m.spent
    · by_cases hhold : p.syncHold * 16 ≤ m.syncTimer + c.n <;>
        simp [stepSync, syncNow, htail, hspent, hhold, Meter.synchronised]
    · simp [stepSync, syncNow, htail, hspent]

/-! ## Age, floor and band (R18 to R22) -/

theorem stepAge_age (p : Params) (c : Closed) (m : Meter) :
    let m' := stepAge p c m
    let d := m.dayAcc + c.n
    m'.dayAcc = (if 1382400 ≤ d then d - 1382400 else d) ∧
      m'.age = (if 1382400 ≤ d then min 255 (m.age + 1) else m.age) ∧
      m'.unsyncedLong = decide (p.syncAgeLimit < m'.age) := by
  by_cases hday : 1382400 ≤ m.dayAcc + c.n <;> simp [stepAge, hday]

theorem stepFloor_normal (p : Params) (c : Closed) {m : Meter} (h : m.floor = .normal) :
    let m' := stepFloor p c m
    let below := if c.voltage < p.floorVoltage then m.belowTimer + c.n else 0
    if c.voltage < p.floorVoltage ∧ p.floorTime * 16 ≤ below then
      m'.floor = .forced ∧ m'.belowTimer = 0 ∧ m'.recoveryTimer = 0
    else m'.floor = .normal ∧ m'.belowTimer = below ∧ m'.recoveryTimer = m.recoveryTimer := by
  by_cases hlow : c.voltage < p.floorVoltage
  · by_cases htime : p.floorTime * 16 ≤ m.belowTimer + c.n <;> simp [stepFloor, h, hlow, htime]
  · simp [stepFloor, h, hlow]

theorem stepFloor_forced (p : Params) (c : Closed) {m : Meter} (h : m.floor = .forced) :
    let m' := stepFloor p c m
    let above := if p.releaseVoltage ≤ c.voltage then m.recoveryTimer + c.n else 0
    if p.releaseVoltage ≤ c.voltage ∧ p.releaseTime * 16 ≤ above then
      m'.floor = .normal ∧ m'.belowTimer = 0 ∧ m'.recoveryTimer = 0
    else m'.floor = .forced ∧ m'.recoveryTimer = above ∧ m'.belowTimer = m.belowTimer := by
  by_cases hhigh : p.releaseVoltage ≤ c.voltage
  · by_cases htime : p.releaseTime * 16 ≤ m.recoveryTimer + c.n <;>
      simp [stepFloor, h, hhigh, htime]
  · simp [stepFloor, h, hhigh]

theorem Band.code_injective {a b : Band} (h : a.code = b.code) : a = b := by
  cases a <;> cases b <;> simp_all [Band.code]

/-- R20: the SOC band rises by at most one step. -/
theorem nextSocBand_rise (p : Params) (m : Meter) (soc : Nat) :
    m.socBand.code ≤ (nextSocBand p m false soc).code + 1 := by
  have hup : ∀ b : Band, b.code ≤ b.up.code + 1 := fun b => by cases b <;> decide
  simp only [nextSocBand, Bool.false_eq_true, if_false]
  split
  · omega
  · split
    · split
      · exact hup _
      · omega
    · omega

/-- The SOC band where it does not rise: at the first interval, or by the thresholds (R19, R20). -/
theorem nextSocBand_fall {p : Params} {m : Meter} {first : Bool} {soc : Nat}
    (h : first = true ∨ m.socBand.code ≤ (thresholdBand p m soc).code) :
    nextSocBand p m first soc = thresholdBand p m soc := by
  simp only [nextSocBand]
  split
  · rfl
  · next hf =>
    have hle := h.resolve_left hf
    split
    · rfl
    · split
      · omega
      · exact Band.code_injective (by omega)

/-- The SOC band where the thresholds are above it: one step with the hysteresis (R20, log 16). -/
theorem nextSocBand_above {p : Params} {m : Meter} {soc : Nat}
    (h : (thresholdBand p m soc).code < m.socBand.code) :
    nextSocBand p m false soc =
      if thresholdAbove p m m.socBand + p.bandHysteresis ≤ soc then m.socBand.up else m.socBand := by
  simp only [nextSocBand, Bool.false_eq_true, if_false, if_neg (not_lt.mpr h.le), if_pos h]

/-- What the SOC band depends on: the band before and the age flag. -/
theorem nextSocBand_congr {p : Params} {m m' : Meter} (hb : m'.socBand = m.socBand)
    (hu : m'.unsyncedLong = m.unsyncedLong) (first : Bool) (soc : Nat) :
    nextSocBand p m' first soc = nextSocBand p m first soc := by
  have habove : thresholdAbove p m' = thresholdAbove p m := by
    funext b
    cases b <;> simp [thresholdAbove, margin, hu]
  have hband : thresholdBand p m' soc = thresholdBand p m soc := by
    unfold thresholdBand
    rw [habove]
  unfold nextSocBand
  rw [hband, habove, hb]

/-! ## The meter after the nine steps -/

/-- The meter after steps 1 to 8. -/
def floorMeter (p : Params) (c : Closed) (m : Meter) : Meter :=
  stepFloor p c (stepAge p c (stepFigures p c (stepSync p c (stepAccount p c m))))

theorem meterSteps_meter (c : Closed) (s : State) :
    (meterSteps c s).meter =
      stepBand s.params c.first (usableSoc (s.setMeter (floorMeter s.params c s.meter)))
        (floorMeter s.params c s.meter) := rfl

/-- What the usable SOC depends on (R12). -/
theorem usableSoc_congr {s t : State} (hp : t.params = s.params) (hq : t.meter.q = s.meter.q)
    (hd : t.meter.derating = s.meter.derating) : usableSoc t = usableSoc s := by
  simp [usableSoc, usable, qFull, hp, hq, hd]

section
variable (c : Closed) (s : State)

theorem meterSteps_charge :
    (meterSteps c s).meter.q =
      (if syncNow s.params c s.meter then qNom s.params else (stepAccount s.params c s.meter).q) := by
  rw [(meterSteps_account c s).1, (stepSync_account _ _ _).1, syncNow_stepAccount]

theorem meterSteps_readings :
    (meterSteps c s).meter.readings = (stepAccount s.params c s.meter).readings := by
  simp [meterSteps_meter, floorMeter]

theorem meterSteps_filtered :
    (meterSteps c s).meter.filtered =
      if c.first then c.current else s.meter.filtered + truncDiv (c.current - s.meter.filtered) 8 := by
  simp [meterSteps_meter, floorMeter, stepFigures]

theorem meterSteps_inhibit : (meterSteps c s).meter.chargeInhibit = c.inhibit := by
  simp [meterSteps_meter, floorMeter]

theorem meterSteps_sync :
    (meterSteps c s).meter.sync =
        (if syncNow s.params c s.meter then .synced else (stepAccount s.params c s.meter).sync) ∧
      (meterSteps c s).meter.syncTimer =
        (if tailHolds s.params c = false ∨ syncNow s.params c s.meter = true then 0
        else if s.meter.spent then s.meter.syncTimer else s.meter.syncTimer + c.n) ∧
      (meterSteps c s).meter.spent =
        (tailHolds s.params c && (s.meter.spent || syncNow s.params c s.meter)) := by
  obtain ⟨-, hsync, -, -, hspent, htimer⟩ :=
    stepSync_account s.params c (stepAccount s.params c s.meter)
  simp only [meterSteps_meter, floorMeter, stepBand_frame, stepFloor_frame, stepAge_frame,
    stepFigures_frame, hsync, hspent, htimer, syncNow_stepAccount, stepAccount_frame, and_self]

theorem meterSteps_age :
    let day := (if syncNow s.params c s.meter then 0 else s.meter.dayAcc) + c.n
    let age := if syncNow s.params c s.meter then 0 else s.meter.age
    (meterSteps c s).meter.dayAcc = (if 1382400 ≤ day then day - 1382400 else day) ∧
      (meterSteps c s).meter.age = (if 1382400 ≤ day then min 255 (age + 1) else age) ∧
      (meterSteps c s).meter.unsyncedLong =
        decide (s.params.syncAgeLimit < (meterSteps c s).meter.age) := by
  obtain ⟨-, -, hage, hday, -, -⟩ := stepSync_account s.params c (stepAccount s.params c s.meter)
  obtain ⟨hday', hage', hlong⟩ := stepAge_age s.params c
    (stepFigures s.params c (stepSync s.params c (stepAccount s.params c s.meter)))
  simp only [stepFigures_frame, hage, hday, syncNow_stepAccount, stepAccount_frame] at hday' hage'
  simp only [meterSteps_meter, floorMeter, stepBand_frame, stepFloor_frame]
  exact ⟨hday', hage', hlong⟩

/-- The meter that step 8 is given has the floor state and the timers of the meter before. -/
theorem floor_before_stepFloor (p : Params) (m : Meter) :
    let m' := stepAge p c (stepFigures p c (stepSync p c (stepAccount p c m)))
    m'.floor = m.floor ∧ m'.belowTimer = m.belowTimer ∧ m'.recoveryTimer = m.recoveryTimer := by
  simp

theorem meterSteps_floor_normal (h : s.meter.floor = .normal) :
    let m := (meterSteps c s).meter
    let below := if c.voltage < s.params.floorVoltage then s.meter.belowTimer + c.n else 0
    if c.voltage < s.params.floorVoltage ∧ s.params.floorTime * 16 ≤ below then
      m.floor = .forced ∧ m.belowTimer = 0 ∧ m.recoveryTimer = 0
    else m.floor = .normal ∧ m.belowTimer = below ∧ m.recoveryTimer = s.meter.recoveryTimer := by
  obtain ⟨hfloor, hbelow, hrecovery⟩ := floor_before_stepFloor c s.params s.meter
  have hstep := stepFloor_normal s.params c (hfloor.trans h)
  rw [hbelow, hrecovery] at hstep
  simpa only [meterSteps_meter, floorMeter, stepBand_frame] using hstep

theorem meterSteps_floor_forced (h : s.meter.floor = .forced) :
    let m := (meterSteps c s).meter
    let above := if s.params.releaseVoltage ≤ c.voltage then s.meter.recoveryTimer + c.n else 0
    if s.params.releaseVoltage ≤ c.voltage ∧ s.params.releaseTime * 16 ≤ above then
      m.floor = .normal ∧ m.belowTimer = 0 ∧ m.recoveryTimer = 0
    else m.floor = .forced ∧ m.recoveryTimer = above ∧ m.belowTimer = s.meter.belowTimer := by
  obtain ⟨hfloor, hbelow, hrecovery⟩ := floor_before_stepFloor c s.params s.meter
  have hstep := stepFloor_forced s.params c (hfloor.trans h)
  rw [hbelow, hrecovery] at hstep
  simpa only [meterSteps_meter, floorMeter, stepBand_frame] using hstep

/-- Step 9 over the meter before: its SOC band, with the age flag and the usable SOC of this interval. -/
theorem meterSteps_band :
    let m := (meterSteps c s).meter
    m.socBand = nextSocBand s.params { s.meter with unsyncedLong := m.unsyncedLong } c.first
        (usableSoc (s.setMeter m)) ∧
      m.band = if m.floor = .forced then .critical else m.socBand := by
  have hsoc : usableSoc (s.setMeter (floorMeter s.params c s.meter)) =
      usableSoc (s.setMeter (meterSteps c s).meter) :=
    (usableSoc_congr rfl (by simp) (by simp)).symm
  refine ⟨?_, rfl⟩
  rw [← hsoc]
  refine nextSocBand_congr (m' := floorMeter s.params c s.meter) ?_ ?_ _ _
  · simp [floorMeter]
  · simp [meterSteps_meter]

end

end Sys2Proof.Machine
end

section
/-! PROOFS. The end of a metering interval as a whole: what it keeps, its flags, and the figures of the
meter with the hand-offs of a band change (R2, R7, R22). -/

namespace Sys2Proof.Machine

/-! ## Frames as equations -/

/-- The end of a command changes the flags and the idle due instant alone (R187, R202). -/
theorem settle_eq_afterEvent (before s : State) :
    settle before s = afterEvent s (settle before s) := by
  have hframe : OnlyLinkFlagsTimeIdleDue (settle before s) s := by simp [OnlyLinkFlagsTimeIdleDue]
  generalize settle before s = t at hframe ⊢
  simp only [afterEvent, hframe]

/-- A flag keeps its bits over the end of a command where the command has kept them, and its condition did
not pass to holding. -/
theorem flagBits_settle_of_kept {before s : State} {f : Flag} (hs : FlagsStand before)
    (hc : conditionHolds s f = conditionHolds before f) (hb : flagBits s f = flagBits before f) :
    flagBits (settle before s) f = flagBits before f := by
  rw [flagBits_settle, hc, hb, flagSet, hb]
  split
  · next h =>
    have hset := (flagsStand_iff before).mp hs f h.1
    simp_all [flagSet]
  · rfl

/-- The frame of a metered interval end as one equation: from `s` the interval closes with `h`, and the end
of the command leaves `t`. -/
theorem eq_of_onlyInterval {s h t : State} (ht : t = afterEvent h t) (hframe : OnlyInterval h s)
    (hbraked : s.drive.braked = h.drive.braked) :
    t = { afterWalk (afterEvent s t) t with
      meter := t.meter
      table := t.table
      heater :=
        { t.heater with
          hostMode := s.heater.hostMode
          schedMode := s.heater.schedMode
          frostOrigin := s.heater.frostOrigin
          reading := s.heater.reading
          sensor := s.heater.sensor
          failed := s.heater.failed
          latch := s.heater.latch }
      tanks :=
        { s.tanks with
          senderDue := t.tanks.senderDue
          tempDue := t.tanks.tempDue
          pumpDue := t.tanks.pumpDue }
      pins := t.pins
      time := { s.time with power := t.time.power, idleDue := t.time.idleDue } } := by
  rw [ht]
  simp only [afterWalk, afterEvent, hframe, hbraked]

/-! ## The close of a due interval -/

/-- An interval whose end is reached has at least a tick (R2). -/
theorem intervalTicks_ne_zero {s : State} (h : intervalDue s = true) : intervalTicks s ≠ 0 := by
  intro h0
  have hnow : s.now = s.meter.intervalStart := by
    have hzero : ticksSince s.now s.meter.intervalStart = 0 := by
      unfold intervalTicks at h0
      omega
    unfold ticksSince at hzero
    bv_omega
  have hreach : ∀ t : Tick, reached t (t + BitVec.ofNat 32 (intervalLength s)) = false := by
    intro t
    unfold intervalLength reached ticksSince
    split <;> simp only [decide_eq_false_iff_not] <;> bv_omega
  rw [intervalDue, hnow, hreach] at h
  exact Bool.false_ne_true h

/-- INTERVAL_END with its condition closes the interval with its samples. -/
theorem exec_intervalEnd {s : State} {input : MeterInput} (hok : temperatureOk input.temperature = true)
    (hdue : intervalDue s = true) :
    exec (.intervalEnd input) s =
      .next (settle s
        (closeInterval input.temperature input.order s.now (accumulate input.samples s))) := by
  simp only [exec, execIntervalEnd, hok, if_true, perform, hdue]

/-- The meter and the flags after the nine steps, before the hand-offs: the next interval has begun. -/
def steppedInterval (c : Closed) (start : Tick) (s : State) : State :=
  meterFlags (syncNow s.params c s.meter)
    (decide ((meterSteps c s).meter.band ≠ s.meter.band)) (nextInterval start (meterSteps c s))

/-- A close with a sample is metered (R2, R7). -/
theorem closeInterval_metered (t : Int) (order : List HandOff) (start : Tick) {s : State}
    (hticks : intervalTicks s ≠ 0) (hcount : 0 < s.meter.acc.count) :
    closeInterval t order start s =
      let c := closeReadings s.meter (intervalTicks s) t
      meterHandOffs c (decide ((meterSteps c s).meter.band ≠ s.meter.band)) order
        (steppedInterval c start s) := by
  have hcond : ¬(intervalTicks s = 0 || s.meter.acc.count = 0) = true := by
    simp [hticks, hcount.ne']
  simp only [closeInterval, if_neg hcond, steppedInterval, syncNow_stepAccount]
  rfl

/-- A close without a sample is discarded (R2). -/
theorem closeInterval_discarded (t : Int) (order : List HandOff) (start : Tick) {s : State}
    (hcount : s.meter.acc.count = 0) : closeInterval t order start s = nextInterval start s := by
  simp [closeInterval, hcount]

/-! ## The flags of an interval end -/

theorem flagBits_meterFlags (synced changed : Bool) (s : State) (f : Flag) :
    flagBits (meterFlags synced changed s) f =
      if (f = .accountSynced ∧ synced = true) ∨ (f = .bandChange ∧ changed = true) then ⟨true, true⟩
      else flagBits s f := by
  cases synced <;> cases changed <;> cases f <;> simp [meterFlags]

/-- A condition that does not read the meter depends on the input events, the positions, the tanks and the
wind monitor. -/
theorem conditionHolds_of_events {s t : State} {f : Flag}
    (hf : f ∉ [Flag.sensorLost, .chargeInhibit, .unsyncedLong])
    (ha : ∀ e, eventActive t e = eventActive s e) (hm : ∀ e, eventMapped t e = eventMapped s e)
    (h : OnlyInterval s t) : conditionHolds t f = conditionHolds s f := by
  cases f <;> simp at hf <;>
    simp [conditionHolds, roadUnsafe, stepStowed, stepPosition, awningStowed, ha, hm, h]

/-! ## A discarded interval -/

theorem conditionHolds_nextInterval (s : State) (input : MeterInput) (f : Flag) :
    conditionHolds (nextInterval s.now (accumulate input.samples s)) f = conditionHolds s f :=
  conditionHolds_setMeter rfl rfl rfl f

/-- An interval without a sample leaves its samples and its start behind, and nothing else. -/
theorem intervalEnd_discarded {s : State} (input : MeterInput) (hs : Settled s) :
    let t := settle s (nextInterval s.now (accumulate input.samples s))
    t = { afterEvent s t with
        meter := { s.meter with acc := IntervalAcc.empty, intervalStart := s.now } } ∧
      FlagsKeptBut [] s t := by
  have hevent : ∀ t, afterEvent (nextInterval s.now (accumulate input.samples s)) t =
      { afterEvent s t with
        meter := { s.meter with acc := IntervalAcc.empty, intervalStart := s.now } } := fun _ => rfl
  refine ⟨(settle_eq_afterEvent s _).trans (hevent _), fun f _ => ?_⟩
  exact flagBits_settle_of_kept hs.1 (conditionHolds_nextInterval s input f)
    (flagBits_of_flags (by simp) f)

/-! ## A metered interval -/

/-- The close of the interval, with its samples and its hand-offs. -/
def closedInterval (input : MeterInput) (s : State) : State :=
  closeInterval input.temperature input.order s.now (accumulate input.samples s)

/-- The state at the end of INTERVAL_END. -/
def afterIntervalEnd (input : MeterInput) (s : State) : State := settle s (closedInterval input s)

/-- What the interval of `s` closes with, its samples in `s` already. -/
def closedNow (input : MeterInput) (s : State) : Closed :=
  closeReadings s.meter (intervalTicks s) input.temperature

/-- The interval's figures: the meter after the nine steps. -/
def intervalMeter (input : MeterInput) (s : State) : Meter :=
  (meterSteps (closedNow input (accumulate input.samples s)) (accumulate input.samples s)).meter

/-- The state before the hand-offs. -/
def steppedNow (input : MeterInput) (s : State) : State :=
  steppedInterval (closedNow input (accumulate input.samples s)) s.now (accumulate input.samples s)

@[simp] theorem closedInterval_frame (input : MeterInput) (s : State) :
    OnlyInterval s (closedInterval input s) := by
  simp [OnlyInterval, closedInterval]

/-- No hand-off of an interval end touches the ended motion that a braking stage keeps (R131). -/
theorem closedInterval_braked (input : MeterInput) (s : State) :
    (closedInterval input s).drive.braked = s.drive.braked := by
  simp only [closedInterval, closeInterval]
  split <;> simp

section
variable {s : State} {input : MeterInput} (hdue : intervalDue s = true)
  (hcount : 0 < (accumulate input.samples s).meter.acc.count)

include hdue hcount

theorem closedInterval_eq :
    closedInterval input s =
      meterHandOffs (closedNow input (accumulate input.samples s))
        (decide ((intervalMeter input s).band ≠ s.meter.band)) input.order (steppedNow input s) :=
  closeInterval_metered _ _ _ (intervalTicks_ne_zero (s := accumulate input.samples s) hdue) hcount

theorem closedInterval_meter :
    (closedInterval input s).meter =
      { intervalMeter input s with acc := .empty, intervalStart := s.now } := by
  rw [closedInterval_eq hdue hcount]
  simp [steppedNow, steppedInterval, nextInterval, intervalMeter]

theorem closedInterval_handedOn : HandedOn (steppedNow input s) (closedInterval input s) := by
  rw [closedInterval_eq hdue hcount]
  exact meterHandOffs_handedOn _ _ _ _

end

end Sys2Proof.Machine
end

section
/-! PROOFS. A metered interval end: the records and flags it keeps, what a change of the published band
brings about, and the statement of every figure (R2, R7, R10 to R13, R15, R18 to R22). -/

namespace Sys2Proof.Machine

@[simp] theorem steppedNow_frame (input : MeterInput) (s : State) :
    OnlyLinkFlagsMeter s (steppedNow input s) := by
  simp [OnlyLinkFlagsMeter, steppedNow, steppedInterval]

/-- The nine steps raise ACCOUNT_SYNCED and BAND_CHANGE and no other flag (R7). -/
theorem flagBits_steppedNow (input : MeterInput) (s : State) {f : Flag} (hf : f ≠ .accountSynced) :
    flagBits (steppedNow input s) f =
      if f = .bandChange ∧ (intervalMeter input s).band ≠ s.meter.band then ⟨true, true⟩
      else flagBits s f := by
  have hbits : flagBits (nextInterval s.now (meterSteps (closedNow input (accumulate input.samples s))
      (accumulate input.samples s))) f = flagBits s f := flagBits_of_flags (by simp) f
  simp only [steppedNow, steppedInterval, flagBits_meterFlags, decide_eq_true_eq, hbits, hf,
    false_and, false_or]
  rfl

/-! ## What a metered interval end keeps -/

section
variable {s : State} {input : MeterInput} (hdue : intervalDue s = true)
  (hcount : 0 < (accumulate input.samples s).meter.acc.count)

include hdue hcount

theorem afterIntervalEnd_meter :
    (afterIntervalEnd input s).meter =
      { intervalMeter input s with acc := .empty, intervalStart := s.now } := by
  simp [afterIntervalEnd, closedInterval_meter hdue hcount]

theorem intervalEnd_origins : OriginsKeptBut [chHeater] s (afterIntervalEnd input s) := by
  intro ch hch
  have hand := (closedInterval_handedOn hdue hcount).origins ch (by simpa using hch)
  calc origins (afterIntervalEnd input s) ch = origins (closedInterval input s) ch := by
        simp [origins, afterIntervalEnd]
    _ = origins (steppedNow input s) ch := hand
    _ = origins s ch := by simp [origins]

theorem intervalEnd_flags (hs : Settled s) :
    FlagsKeptBut [.bandChange, .accountSynced, .sensorLost, .chargeInhibit, .unsyncedLong, .loadShed,
      .overdrawShed] s (afterIntervalEnd input s) := by
  intro f hf
  simp only [List.mem_cons, List.not_mem_nil, or_false, not_or] at hf
  obtain ⟨hband, hsync, hsensor, hinhibit, hunsynced, hshed, hoverdraw⟩ := hf
  have hand := closedInterval_handedOn hdue hcount
  refine flagBits_settle_of_kept hs.1 ?_ ?_
  · exact conditionHolds_of_events (by simp [hsensor, hinhibit, hunsynced])
      (fun e => (hand.active e).trans (eventActive_of_pins (by simp) e))
      (fun e => (hand.mapped e).trans (eventMapped_of_pins (by simp) e))
      (closedInterval_frame input s)
  · rw [hand.flags f hshed hoverdraw, flagBits_steppedNow input s hsync, if_neg (by simp [hband])]

/-! ## A change of the published band (R22) -/

theorem intervalEnd_bandFlag :
    flagBits (afterIntervalEnd input s) .bandChange =
      if (intervalMeter input s).band ≠ s.meter.band then ⟨true, true⟩
      else flagBits s .bandChange := by
  have hand := (closedInterval_handedOn hdue hcount).flags .bandChange (by decide) (by decide)
  rw [afterIntervalEnd, flagBits_settle, if_neg (by simp [conditionHolds]), hand,
    flagBits_steppedNow input s (by decide)]
  simp only [true_and]

/-- The new band reaches the table, the heater and the power state. -/
theorem intervalEnd_changed (hband : (intervalMeter input s).band ≠ s.meter.band) :
    let t := afterIntervalEnd input s
    TableFollows t ∧ t.heater.ceiling = ceilingOf t.meter.band ∧
      t.time.power = if asleep s then .leaving else s.time.power := by
  have hchanged := meterHandOffs_changed (closedNow input (accumulate input.samples s)) input.order
    (steppedNow input s)
  have hclosed := closedInterval_eq hdue hcount
  rw [decide_eq_true hband] at hclosed
  rw [← hclosed] at hchanged
  obtain ⟨htable, hceiling, hawake⟩ := hchanged
  have hpower := (closedInterval_handedOn hdue hcount).power_of_awake hawake
  rw [asleep_congr (s := s) (by simp)] at hpower
  refine ⟨htable.congr ?_ ?_ ?_ ?_ (eventActive_of_pins ?_), ?_, ?_⟩
  case refine_6 => simpa [afterIntervalEnd] using hceiling
  case refine_7 => simpa [afterIntervalEnd] using hpower
  all_goals simp [afterIntervalEnd]

/-- Without a change of the band nothing of it is handed on. -/
theorem intervalEnd_unchanged (hband : (intervalMeter input s).band = s.meter.band) :
    let t := afterIntervalEnd input s
    t.table.band = s.table.band ∧ t.table.budget = s.table.budget ∧
      t.heater.ceiling = s.heater.ceiling ∧ t.time.power = s.time.power := by
  have hsame := meterHandOffs_unchanged (closedNow input (accumulate input.samples s)) input.order
    (steppedNow input s)
  have hclosed := closedInterval_eq hdue hcount
  rw [decide_eq_false (not_not.mpr hband)] at hclosed
  rw [← hclosed] at hsame
  simpa [afterIntervalEnd] using hsame

end

/-! ## The figures of the closed interval -/

section
variable (m : Meter) (n : Nat) (t : Int)

theorem closeReadings_battery :
    (closeReadings m n t).battery = if t = -400 ∨ t = 850 then 250 else t := by
  simp [closeReadings, railTemperature]

theorem closeReadings_absent : (closeReadings m n t).absent = decide (t = -400 ∨ t = 850) := by
  simp [closeReadings, railTemperature]

theorem closeReadings_inhibit :
    (closeReadings m n t).inhibit = decide (t = -400 ∨ t = 850 ∨ t < 0) := by
  simp [closeReadings, railTemperature, Bool.or_assoc]

theorem closeReadings_first : (closeReadings m n t).first = true ↔ m.readings = none := by
  simp [closeReadings]

end

/-- R11 in the integers: the loss is never negative. -/
theorem deratingOf_eq (p : Params) (b : Int) :
    (deratingOf p b : Int) =
      if b < 250 then max 500 (1000 - (p.coldCoefficient : Int) * (250 - b) / 10) else 1000 := by
  unfold deratingOf
  split
  · rw [floorDiv, Int.fdiv_eq_ediv_of_nonneg _ (by omega)]
    omega
  · rfl

/-- The published readings with their marks (R3 to R5, R10). -/
theorem intervalMeter_readings (input : MeterInput) (s : State) :
    let n := min 4096 (ticksSince s.now s.meter.intervalStart)
    let c := closeReadings (accumulate input.samples s).meter n input.temperature
    let eff := (s.meter.q : Int) + effectiveCharge s.params c.current n
    (intervalMeter input s).readings =
      some ⟨c.current, c.voltage,
        if input.temperature = -400 ∨ input.temperature = 850 then 250 else input.temperature,
        c.saturated, decide (input.temperature = -400 ∨ input.temperature = 850),
        !(s.meter.readings.isNone && decide (s.meter.sync = .estimating)) && decide (eff < 0)⟩ := by
  intro n c eff
  rw [intervalMeter, meterSteps_readings, (stepAccount_account _ _ _).2.2, Closed.readings]
  simp only [closedNow, closeReadings_battery, closeReadings_absent]
  rfl

theorem intervalMeter_inhibit (input : MeterInput) (s : State) :
    (intervalMeter input s).chargeInhibit =
      decide (input.temperature = -400 ∨ input.temperature = 850 ∨ input.temperature < 0) := by
  rw [intervalMeter, meterSteps_inhibit, closedNow, closeReadings_inhibit]

/-- The filtered current (R13). -/
theorem intervalMeter_filtered (input : MeterInput) (s : State) :
    let c := closedNow input (accumulate input.samples s)
    (intervalMeter input s).filtered =
      if s.meter.readings = none then c.current
      else s.meter.filtered + (c.current - s.meter.filtered).tdiv 8 := by
  intro c
  rw [intervalMeter, meterSteps_filtered]
  simp only [closedNow, closeReadings_first]
  rfl

/-- The published band is CRITICAL under the voltage floor (R21, R22). -/
theorem intervalMeter_band (input : MeterInput) (s : State) :
    (intervalMeter input s).band =
      if (intervalMeter input s).floor = .forced then .critical else (intervalMeter input s).socBand :=
  (meterSteps_band _ _).2

/-- The account (R10, R15, R26). -/
theorem intervalMeter_charge (input : MeterInput) (s : State) :
    let n := min 4096 (ticksSince s.now s.meter.intervalStart)
    let c := closeReadings (accumulate input.samples s).meter n input.temperature
    let eff := (s.meter.q : Int) + effectiveCharge s.params c.current n
    (intervalMeter input s).q =
      if tailHolds s.params c = true ∧ s.meter.spent = false ∧
          s.params.syncHold * 16 ≤ s.meter.syncTimer + n then qNom s.params
      else if (s.meter.readings.isNone && decide (s.meter.sync = .estimating)) = true then
        qNom s.params * estimatedSoc s.params c / 1000
      else (max 0 (min eff (qNom s.params))).toNat := by
  intro n c eff
  rw [intervalMeter, meterSteps_charge, (stepAccount_account _ _ _).1]
  simp only [syncNow_iff]
  rfl

/-- The SOC band by the thresholds of R19 and R20, written out. -/
theorem nextSocBand_eq {first : Bool} {fresh : Prop} [Decidable fresh] (hfresh : first = true ↔ fresh)
    (p : Params) (m : Meter) (soc : Nat) :
    let raised := if m.unsyncedLong then p.unsyncedMargin else 0
    let critical := p.criticalThreshold + raised
    let reserve := p.reserveThreshold + raised
    let economy := p.economyThreshold + raised
    let threshold : Band :=
      if soc < critical then .critical else if soc < reserve then .reserve
      else if soc < economy then .economy else .normal
    nextSocBand p m first soc =
      if fresh ∨ m.socBand.code ≤ threshold.code then threshold
      else
        match m.socBand with
        | .critical => if critical + p.bandHysteresis ≤ soc then .reserve else .critical
        | .reserve => if reserve + p.bandHysteresis ≤ soc then .economy else .reserve
        | .economy => if economy + p.bandHysteresis ≤ soc then .normal else .economy
        | .normal => .normal := by
  intro raised critical reserve economy threshold
  split
  · next h => exact nextSocBand_fall (h.imp_left hfresh.mpr)
  · next h =>
    obtain ⟨hfirst, habove⟩ := not_or.mp h
    rw [Bool.eq_false_iff.mpr (hfirst ∘ hfresh.mp), nextSocBand_above (not_le.mp habove)]
    cases hb : m.socBand with
    | normal => simp [hb, Band.code] at habove
    | economy => rfl
    | reserve => rfl
    | critical => rfl

/-- The usable SOC that the SOC band is taken from is that of the state at the end. -/
theorem intervalMeter_socBand (input : MeterInput) (s : State) {t : State} (hp : t.params = s.params)
    (hq : t.meter.q = (intervalMeter input s).q)
    (hd : t.meter.derating = (intervalMeter input s).derating) :
    (intervalMeter input s).socBand =
      nextSocBand s.params { s.meter with unsyncedLong := (intervalMeter input s).unsyncedLong }
        s.meter.readings.isNone (usableSoc t) := by
  have hsoc : usableSoc t = usableSoc (s.setMeter (intervalMeter input s)) := usableSoc_congr hp hq hd
  rw [hsoc, intervalMeter, (meterSteps_band _ _).1]
  exact nextSocBand_congr rfl rfl _ _

theorem intervalEnd_socBand {s : State} {input : MeterInput} (hdue : intervalDue s = true)
    (hcount : 0 < (accumulate input.samples s).meter.acc.count) :
    let t := afterIntervalEnd input s
    t.meter.socBand =
      nextSocBand s.params { s.meter with unsyncedLong := t.meter.unsyncedLong }
        s.meter.readings.isNone (usable t * 1000 / qFull t) := by
  have hmeter := afterIntervalEnd_meter hdue hcount
  have hparams : (afterIntervalEnd input s).params = s.params := by simp [afterIntervalEnd]
  have hsoc := intervalMeter_socBand input s hparams (by rw [hmeter]) (by rw [hmeter])
  simpa only [hmeter, usableSoc] using hsoc

/-- After the first interval the SOC band rises by at most one step (R20). -/
theorem intervalMeter_rise (input : MeterInput) {s : State} (h : s.meter.readings ≠ none) :
    s.meter.socBand.code ≤ (intervalMeter input s).socBand.code + 1 := by
  have hrise := nextSocBand_rise s.params
    { s.meter with unsyncedLong := (intervalMeter input s).unsyncedLong }
    (usableSoc (s.setMeter (intervalMeter input s)))
  have hfirst : s.meter.readings.isNone = false :=
    Bool.eq_false_iff.mpr fun he => h (Option.isNone_iff_eq_none.mp he)
  rw [intervalMeter_socBand input s (t := s.setMeter (intervalMeter input s)) rfl rfl rfl, hfirst]
  exact hrise

theorem intervalMeter_derating (input : MeterInput) (s : State) :
    let b : Int := if input.temperature = -400 ∨ input.temperature = 850 then 250 else input.temperature
    ((intervalMeter input s).derating : Int) =
      if b < 250 then max 500 (1000 - (s.params.coldCoefficient : Int) * (250 - b) / 10) else 1000 := by
  intro b
  rw [intervalMeter, (meterSteps_account _ _).2, deratingOf_eq, closedNow, closeReadings_battery]
  rfl

/-- The synchronisation of the account (R15, R26). -/
theorem intervalMeter_sync (input : MeterInput) (s : State) :
    let n := min 4096 (ticksSince s.now s.meter.intervalStart)
    let c := closeReadings (accumulate input.samples s).meter n input.temperature
    let synced := tailHolds s.params c = true ∧ s.meter.spent = false ∧
      s.params.syncHold * 16 ≤ s.meter.syncTimer + n
    (intervalMeter input s).sync =
        (if synced then .synced
        else if s.meter.readings = none ∧ s.meter.sync = .estimating then .unsynced
        else s.meter.sync) ∧
      (intervalMeter input s).syncTimer =
        (if tailHolds s.params c = false ∨ synced then 0
        else if s.meter.spent then s.meter.syncTimer else s.meter.syncTimer + n) ∧
      (intervalMeter input s).spent = (tailHolds s.params c && (s.meter.spent || decide synced)) := by
  intro n c synced
  obtain ⟨hsync, htimer, hspent⟩ := meterSteps_sync c (accumulate input.samples s)
  rw [(stepAccount_account _ _ _).2.1] at hsync
  have hdecide : syncNow s.params c (accumulate input.samples s).meter = decide synced :=
    Bool.eq_iff_iff.mpr ((syncNow_iff _ _ _).trans decide_eq_true_iff.symm)
  have hestimates : estimates c (accumulate input.samples s).meter = true ↔
      s.meter.readings = none ∧ s.meter.sync = .estimating := by
    rw [estimates, Bool.and_eq_true, closeReadings_first, decide_eq_true_iff]
    rfl
  simp only [accumulate_frame, hdecide, decide_eq_true_eq, hestimates] at hsync htimer hspent
  exact ⟨hsync, htimer, hspent⟩

/-- The age of the account (R18). -/
theorem intervalMeter_age (input : MeterInput) (s : State) :
    let n := min 4096 (ticksSince s.now s.meter.intervalStart)
    let c := closeReadings (accumulate input.samples s).meter n input.temperature
    let synced := tailHolds s.params c = true ∧ s.meter.spent = false ∧
      s.params.syncHold * 16 ≤ s.meter.syncTimer + n
    let day := (if synced then 0 else s.meter.dayAcc) + n
    let age := if synced then 0 else s.meter.age
    (intervalMeter input s).dayAcc = (if 1382400 ≤ day then day - 1382400 else day) ∧
      (intervalMeter input s).age = (if 1382400 ≤ day then min 255 (age + 1) else age) ∧
      (intervalMeter input s).unsyncedLong =
        decide (s.params.syncAgeLimit < (intervalMeter input s).age) := by
  intro n c synced day age
  have hage := meterSteps_age c (accumulate input.samples s)
  simp only [syncNow_iff] at hage
  exact hage

/-- The voltage floor of a meter in NORMAL (R21). -/
theorem intervalMeter_floor_normal (input : MeterInput) {s : State} (h : s.meter.floor = .normal) :
    let n := min 4096 (ticksSince s.now s.meter.intervalStart)
    let c := closeReadings (accumulate input.samples s).meter n input.temperature
    let below := if c.voltage < s.params.floorVoltage then s.meter.belowTimer + n else 0
    if c.voltage < s.params.floorVoltage ∧ s.params.floorTime * 16 ≤ below then
      (intervalMeter input s).floor = .forced ∧ (intervalMeter input s).belowTimer = 0 ∧
        (intervalMeter input s).recoveryTimer = 0
    else
      (intervalMeter input s).floor = .normal ∧ (intervalMeter input s).belowTimer = below ∧
        (intervalMeter input s).recoveryTimer = s.meter.recoveryTimer :=
  meterSteps_floor_normal (closedNow input (accumulate input.samples s)) (accumulate input.samples s) h

/-- The voltage floor of a meter in FORCED (R21). -/
theorem intervalMeter_floor_forced (input : MeterInput) {s : State} (h : s.meter.floor = .forced) :
    let n := min 4096 (ticksSince s.now s.meter.intervalStart)
    let c := closeReadings (accumulate input.samples s).meter n input.temperature
    let above := if s.params.releaseVoltage ≤ c.voltage then s.meter.recoveryTimer + n else 0
    if s.params.releaseVoltage ≤ c.voltage ∧ s.params.releaseTime * 16 ≤ above then
      (intervalMeter input s).floor = .normal ∧ (intervalMeter input s).belowTimer = 0 ∧
        (intervalMeter input s).recoveryTimer = 0
    else
      (intervalMeter input s).floor = .forced ∧ (intervalMeter input s).recoveryTimer = above ∧
        (intervalMeter input s).belowTimer = s.meter.belowTimer :=
  meterSteps_floor_forced (closedNow input (accumulate input.samples s)) (accumulate input.samples s) h

/-- Settles O42: a discarded interval keeps everything but its samples and its start; a metered one leaves the
figures of `intervalMeter`, and hands a change of the band on. -/
theorem intervalEndClosesTheInterval : Obligations.IntervalEndClosesTheInterval := by
  refine ⟨?closes, ?figures⟩
  case' closes =>
    intro s input hok hdue hs m n c eff first
    refine ⟨fun hcount => ?discarded, fun hcount => ?metered⟩
  case discarded =>
    refine ⟨_, exec_intervalEnd hok hdue, ?_⟩
    rw [closeInterval_discarded _ _ _ hcount]
    exact intervalEnd_discarded input hs
  case metered =>
    have hmeter := afterIntervalEnd_meter hdue hcount
    have hframe : OnlyInterval (closedInterval input s) s := by simp [OnlyInterval]
    refine ⟨afterIntervalEnd input s, exec_intervalEnd hok hdue, rfl, floorDiv_toNat _ _, ?readings,
      ?charge, ?filtered, ?inhibit, ?acc, ?start, ?band, ?rise, fun hband => ?changed,
      fun hband => ?unchanged, intervalEnd_origins hdue hcount, intervalEnd_flags hdue hcount hs,
      eq_of_onlyInterval (settle_eq_afterEvent _ _) hframe (closedInterval_braked input s).symm⟩
    case changed =>
      rw [hmeter] at hband
      obtain ⟨htable, hceiling, hpower⟩ := intervalEnd_changed hdue hcount hband
      refine ⟨?_, htable.1, htable.2, hceiling, hpower⟩
      rw [intervalEnd_bandFlag hdue hcount, if_pos hband]
    case unchanged =>
      rw [hmeter] at hband
      refine ⟨?_, intervalEnd_unchanged hdue hcount hband⟩
      rw [intervalEnd_bandFlag hdue hcount, if_neg (not_not.mpr hband)]
    all_goals simp only [hmeter]
    case readings => exact intervalMeter_readings input s
    case charge => exact intervalMeter_charge input s
    case filtered => exact intervalMeter_filtered input s
    case inhibit => exact intervalMeter_inhibit input s
    case band => exact intervalMeter_band input s
    case rise => exact intervalMeter_rise input
  case figures =>
    intro s input hok hdue hs m n c b synced day age hcount
    have hmeter := afterIntervalEnd_meter hdue hcount
    obtain ⟨hsync, htimer, hspent⟩ := intervalMeter_sync input s
    obtain ⟨hday, hage, hlong⟩ := intervalMeter_age input s
    refine ⟨afterIntervalEnd input s, exec_intervalEnd hok hdue, ?derating, ?sync, ?timer, ?spent,
      ?day, ?age, ?long, ?flag, ?normal, ?forced, ?band⟩
    case flag =>
      have hstand : FlagsStand (afterIntervalEnd input s) := (settle_settled s _).1
      rw [flagsStand_iff] at hstand
      exact hstand .unsyncedLong
    case band =>
      have hsoc := intervalEnd_socBand hdue hcount
      generalize afterIntervalEnd input s = t at hsoc ⊢
      exact hsoc.trans (nextSocBand_eq Option.isNone_iff_eq_none _ _ _)
    all_goals simp only [hmeter]
    case derating => exact intervalMeter_derating input s
    case sync => exact hsync
    case timer => exact htimer
    case spent => exact hspent
    case day => exact hday
    case age => exact hage
    case long => exact hlong
    case normal => exact intervalMeter_floor_normal input
    case forced => exact intervalMeter_floor_forced input

end Sys2Proof.Machine
end

section
/-! PROOFS. PARAM_WRITE of one pair: the clause of the fade rate fails where a record without origins
stands in the grant order. Such a state breaks `ListsAgree`, which the clause does not ask for: the write
steadies the lamp at the target of a granted record, and the re-evaluation that follows drops the record
from the grant order without a walk (R30, R37), so that no hand-off darkens the lamp. -/

namespace Sys2Proof.Machine

/-- What a PARAM_WRITE of one pair answers: the pair is judged and applied, then replied to (R198, R212). -/
theorem exec_paramWrite_pair {s : State} {tag : Byte} {p : List Byte} {id : Nat} {v : Int}
    (order : List HandOff) (h : RequestAt 2 tag p s) (hl : lengthAllowed 2 p.length = true)
    (hp : parsePairs p = [(id, v)]) :
    exec (.paramWrite tag p order) s =
      .next (settle s (answer 2#8 tag (writeReply [(id, (writeParam id v order s).1)])
        (writeParam id v order s).2)) := by
  simp only [exec, execParamWrite]
  rw [takeRequest_taken _ h hl]
  simp only [hp, writeParams]

/-- A change of the lists keeps of the grant order what is demanded (R30). -/
theorem relist_granted (before s : State) :
    (relist before s).table.granted = s.table.granted.filter (demanded s) := by
  simp [relist, dropIdle]

/-- A write of the fade rate steadies the lamps where it is 0 (R58, R68). -/
theorem paramFollow_fadeRate (order : List HandOff) (before s : State) :
    paramFollow 47 order before s = if s.params.fadeRate = 0 then lampsRetarget s else s := by
  simp [paramFollow]

/-- The state after reset with LIGHT0 in the grant order although no origin demands it, its applied level
50, and a PARAM_WRITE of the fade rate to 0 in the inbox. -/
def orphanGrant : State :=
  let s := State.reset.setTable { State.reset.table with granted := [0] }
  let s := s.setLamps { s.lamps with chans := vput s.lamps.chans 0 ⟨50, 0, .steady, none, 0⟩ }
  s.setLink { s.link with inbox := [⟨2#8, 7#8, 47#8 :: i32 0⟩] }

/-- `orphanGrant` with the fade rate 0, and with every lamp at its fade target. -/
def orphanWritten : State := orphanGrant.setParams (orphanGrant.params.put 47 0)

def orphanRetargeted : State := allLamps.foldl retarget orphanWritten

/-- No draw has changed, so the lists follow without a walk. -/
theorem lampsRetarget_orphanWritten :
    lampsRetarget orphanWritten = relist orphanWritten orphanRetargeted := by
  have hview : tableView orphanWritten = tableView orphanRetargeted := by decide
  unfold lampsRetarget reevaluate
  exact if_pos hview

/-- LIGHT0 ends with its output at level 50, where its fade target is 0. -/
theorem lampsRetarget_orphanWritten_output :
    (lampsRetarget orphanWritten).lamps.chans[(0 : Fin 6)].output = 12800 ∧
      isGranted (lampsRetarget orphanWritten) (chLamp 0) = false := by
  have houtput : orphanRetargeted.lamps.chans[(0 : Fin 6)].output = 12800 := by decide
  have hgranted : orphanRetargeted.table.granted.filter (demanded orphanRetargeted) = [] := by decide
  rw [lampsRetarget_orphanWritten]
  refine ⟨by simpa using houtput, ?_⟩
  rw [isGranted, relist_granted, hgranted]
  rfl

/-- Refutes O20: a fade rate of 0 leaves LIGHT0 of `orphanGrant` at an output that is not its fade target,
although the part is ACTIVE. -/
theorem not_paramWriteOfOnePair : ¬ Obligations.ParamWriteOfOnePair := by
  rintro ⟨-, -, hacts⟩
  have hrequest : RequestAt 2 7#8 (47#8 :: i32 0) orphanGrant := by decide
  have hsettled : Settled orphanGrant := by decide
  have haccepted : judgeParam orphanGrant 47 0 = .accepted := by decide
  have hpairs : parsePairs (47#8 :: i32 0) = [(47, 0)] := by decide
  obtain ⟨houtput, hgranted⟩ := lampsRetarget_orphanWritten_output
  have hwrite : (writeParam 47 0 [] orphanGrant).2 = settle orphanGrant (lampsRetarget orphanWritten) := by
    have hrate : orphanWritten.params.fadeRate = 0 := by decide
    rw [← if_pos hrate (t := lampsRetarget orphanWritten) (e := orphanWritten),
      ← paramFollow_fadeRate [] orphanGrant orphanWritten]
    simp only [writeParam, haccepted]
    rfl
  obtain ⟨t, hnext, -, -, -, -, -, -, hfade, -⟩ :=
    hacts orphanGrant 7#8 [] 47#8 0#32 hrequest hsettled haccepted
  have htarget := (hfade rfl (by decide) 0).2 rfl
  have hexec := exec_paramWrite_pair [] hrequest rfl hpairs
  have ht := Host.Outcome.next.inj (hnext.symm.trans hexec)
  rw [hwrite] at ht
  have hlamps : t.lamps = (lampsRetarget orphanWritten).lamps := by
    rw [ht]; simp
  have hdark : fadeTarget t 0 = 0 := by
    have hnot : isGranted t (chLamp 0) = false := by
      rw [← hgranted, ht]; simp [isGranted]
    simp [fadeTarget, hnot]
  rw [hdark, hlamps, houtput] at htarget
  cases htarget

end Sys2Proof.Machine
end

section
/-! PROOFS. The waiting list and the grant order under the operations of the Load Table (R30, R38 to R42):
no channel stands in them twice, and no operation lists a channel without a demand. -/

namespace Sys2Proof.Machine

/-! ## Lists without repeats -/

/-- No channel stands twice in a waiting list and a grant order. -/
def Distinct (waiting granted : List Channel) : Prop := (waiting ++ granted).Nodup

/-- The lists of a table are without repeats, and hold channels of `P` alone. -/
structure ListsWithin (P : Channel → Prop) (x : LoadTable) : Prop where
  distinct : Distinct x.waiting x.granted
  within : ∀ ch ∈ x.waiting ++ x.granted, P ch

section
variable {P : Channel → Prop} {s : State} {ch : Channel}

theorem ListsWithin.mono {Q : Channel → Prop} {x : LoadTable} (h : ListsWithin P x)
    (hpq : ∀ ch, P ch → Q ch) : ListsWithin Q x :=
  ⟨h.distinct, fun ch hch => hpq ch (h.within ch hch)⟩

theorem ListsWithin.of_perm {y : LoadTable} {l : List Channel} (hl : l.Nodup) (hp : ∀ ch ∈ l, P ch)
    (h : (y.waiting ++ y.granted).Perm l) : ListsWithin P y :=
  ⟨h.nodup_iff.mpr hl, fun ch hch => hp ch (h.mem_iff.mp hch)⟩

/-- A change that keeps both lists. -/
theorem ListsWithin.congr {x y : LoadTable} (h : ListsWithin P x) (hw : y.waiting = x.waiting)
    (hg : y.granted = x.granted) : ListsWithin P y := by
  obtain ⟨hd, hp⟩ := h
  exact ⟨by rwa [hw, hg], by rwa [hw, hg]⟩

theorem ListsWithin.granted_nodup {x : LoadTable} (h : ListsWithin P x) : x.granted.Nodup :=
  (List.nodup_append.mp h.distinct).2.1

theorem ListsWithin.waiting_nodup {x : LoadTable} (h : ListsWithin P x) : x.waiting.Nodup :=
  (List.nodup_append.mp h.distinct).1

theorem ListsWithin.not_granted {x : LoadTable} (h : ListsWithin P x) (hw : ch ∈ x.waiting) :
    ch ∉ x.granted := fun hg => (List.nodup_append.mp h.distinct).2.2 ch hw ch hg rfl

theorem isGranted_iff (s : State) (ch : Channel) : isGranted s ch = true ↔ ch ∈ s.table.granted := by
  simp [isGranted]

/-! ## Into the waiting list (R42) -/

/-- A place for a channel, wherever a test divides the list. -/
theorem insert_perm (p : Channel → Bool) (ch : Channel) (l : List Channel) :
    (l.takeWhile p ++ ch :: l.dropWhile p).Perm (ch :: l) := by
  have h := List.perm_middle (a := ch) (l₁ := l.takeWhile p) (l₂ := l.dropWhile p)
  rwa [List.takeWhile_append_dropWhile] at h

theorem putInOrder_waiting (s : State) (ch : Channel) :
    (putInOrder s ch).table.waiting.Perm (ch :: s.table.waiting) := by
  unfold putInOrder
  split
  · exact insert_perm _ ch _
  · exact insert_perm _ ch _

theorem putInOrder_within (h : ListsWithin P s.table) (hP : P ch) (hw : ch ∉ s.table.waiting)
    (hg : ch ∉ s.table.granted) : ListsWithin P (putInOrder s ch).table := by
  refine .of_perm (l := ch :: (s.table.waiting ++ s.table.granted)) ?_ ?_ ?_
  · exact List.nodup_cons.mpr ⟨by simp [hw, hg], h.distinct⟩
  · simpa [hP] using h.within
  · simpa using (putInOrder_waiting s ch).append_right s.table.granted

theorem startWaiting_within (h : ListsWithin P s.table) (hP : P ch) (hw : ch ∉ s.table.waiting)
    (hg : ch ∉ s.table.granted) : ListsWithin P (startWaiting s ch).table :=
  putInOrder_within (s := setRec s ch { s.table.recs[ch] with waitStart := some s.now })
    (h.congr rfl rfl) hP hw hg

theorem foldPutInOrder_within {l : List Channel} (h : ListsWithin P s.table) (hl : l.Nodup)
    (hP : ∀ ch ∈ l, P ch) (hnew : ∀ ch ∈ l, ch ∉ s.table.waiting ∧ ch ∉ s.table.granted) :
    ListsWithin P (l.foldl putInOrder s).table := by
  induction l generalizing s with
  | nil => exact h
  | cons a l ih =>
    obtain ⟨ha, hl⟩ := List.nodup_cons.mp hl
    obtain ⟨haw, hag⟩ := hnew a (by simp)
    refine ih (putInOrder_within h (hP a (by simp)) haw hag) hl (fun ch hch => hP ch (by simp [hch])) ?_
    intro ch hch
    obtain ⟨hw, hg⟩ := hnew ch (by simp [hch])
    have hne : ch ≠ a := fun e => ha (e ▸ hch)
    exact ⟨by simp [(putInOrder_waiting s a).mem_iff, hne, hw], by simpa using hg⟩

/-! ## Grants and sheds (R38 to R40) -/

theorem grant_within (h : ListsWithin P s.table) (hP : P ch) (hg : ch ∉ s.table.granted) :
    ListsWithin P (grant s ch).table := by
  have herase : (s.table.waiting.erase ch ++ s.table.granted).Nodup :=
    h.distinct.sublist (List.erase_sublist.append_right _)
  have hnot : ch ∉ s.table.waiting.erase ch := fun hm =>
    (h.waiting_nodup.mem_erase_iff.mp hm).1 rfl
  refine .of_perm (l := ch :: (s.table.waiting.erase ch ++ s.table.granted)) ?_ ?_ ?_
  · exact List.nodup_cons.mpr ⟨by simp [hnot, hg], herase⟩
  · intro c hc
    rcases List.mem_cons.mp hc with rfl | hc
    · exact hP
    · exact h.within c ((List.erase_sublist.append_right _).subset hc)
  · change (s.table.waiting.erase ch ++ (s.table.granted ++ [ch])).Perm _
    rw [← List.append_assoc]
    exact List.perm_append_singleton ch _

theorem grantIfZero_within (h : ListsWithin P s.table) (hP : demanded s ch = true → P ch) :
    ListsWithin P (grantIfZero s ch).table := by
  unfold grantIfZero
  split
  · next hc =>
    simp only [Bool.and_eq_true, Bool.not_eq_true'] at hc
    obtain ⟨⟨hd, hng⟩, -⟩ := hc
    exact grant_within h (hP hd) (by simpa [isGranted] using hng)
  · exact h

/-- A record of the grant order that is shed keeps its grant, or enters the waiting list (R40). -/
theorem shedRecord_within (h : ListsWithin P s.table) (hg : ch ∈ s.table.granted) :
    ListsWithin P (shedRecord s ch).table := by
  unfold shedRecord
  split
  · exact h.congr rfl rfl
  · have hsub : (s.table.waiting ++ s.table.granted.erase ch).Sublist (s.table.waiting ++ s.table.granted) :=
      List.erase_sublist.append_left _
    have hleft : ListsWithin P (setGranted s (s.table.granted.erase ch)).table :=
      ⟨h.distinct.sublist hsub, fun c hc => h.within c (hsub.subset hc)⟩
    refine startWaiting_within (hleft.congr rfl rfl) (h.within ch (by simp [hg])) ?_ ?_
    · exact fun hw => h.not_granted hw hg
    · exact fun hm => (h.granted_nodup.mem_erase_iff.mp hm).1 rfl

end

/-! ## The walk -/

theorem demanded_of_same {s t : State} (h : SameDemands s t) (ch : Channel) :
    demanded t ch = demanded s ch := by
  unfold demanded
  rw [h.get]

/-- The record that a shed takes is one of those offered. -/
theorem pickShed_mem {s : State} {l : List Channel} {ch : Channel} (h : pickShed s l = some ch) :
    ch ∈ l := by
  suffices key : ∀ (l : List Channel) (best : Option Channel), l.foldl
      (fun best c => match best with
        | none => some c
        | some b => if classOf s b ≤ classOf s c then some c else some b) best = some ch →
      ch ∈ l ∨ best = some ch by simpa using key l none h
  intro l
  induction l with
  | nil => exact fun best hb => .inr hb
  | cons a l ih =>
    intro best hb
    rcases ih _ hb with hm | hm
    · exact .inl (by simp [hm])
    · cases best with
      | none => exact .inl (by simp_all)
      | some b =>
        simp only at hm
        split at hm
        · exact .inl (by simp_all)
        · exact .inr hm

theorem pickShed_eq_none {s : State} {l : List Channel} (h : pickShed s l = none) : l = [] := by
  suffices key : ∀ (l : List Channel) (b : Channel), (l.foldl
      (fun best c => match best with
        | none => some c
        | some b => if classOf s b ≤ classOf s c then some c else some b) (some b)) ≠ none by
    cases l with
    | nil => rfl
    | cons a l => exact absurd h (key l a)
  intro l
  induction l with
  | nil => exact fun b => by simp
  | cons a l ih =>
    intro b
    simp only [List.foldl_cons]
    split <;> exact ih _

theorem mem_candidates {s : State} {ch : Channel} :
    ch ∈ candidates s ↔ ch ∈ s.table.granted ∧ countsAsZero s ch = false := by
  simp [candidates]

theorem pickUnserved_candidate {s : State} {ch : Channel} (h : pickUnserved s = some ch) :
    ch ∈ candidates s ∧ served s ch = false := by
  simpa using List.mem_filter.mp (pickShed_mem h)

theorem pickOver_candidate {s : State} {ch : Channel} (h : pickOver s = some ch) :
    ch ∈ candidates s := by
  unfold pickOver at h
  split at h
  · exact pickShed_mem h
  · cases h

section
variable {P : Channel → Prop} {s : State}

theorem walkStep1_within (h : ListsWithin P s.table) (hP : ∀ ch, demanded s ch = true → P ch) :
    ListsWithin P (walkStep1 s).table := by
  have key := foldl_keeps (fun t => SameDemands s t ∧ ListsWithin P t.table) grantIfZero channels s
    ⟨.refl s, h⟩ fun t ch ⟨hs, ht⟩ => ⟨hs.trans (grantIfZero_same t ch),
      grantIfZero_within ht fun hd => hP ch ((demanded_of_same hs ch).symm.trans hd)⟩
  exact key.2

theorem shedWhile_within {pick : State → Option Channel}
    (hpick : ∀ t ch, pick t = some ch → ch ∈ t.table.granted) (n : Nat) (h : ListsWithin P s.table) :
    ListsWithin P (shedWhile pick n s).table := by
  induction n generalizing s with
  | zero => exact h
  | succ n ih =>
    unfold shedWhile
    split
    · exact h
    · next ch hch => exact ih (shedRecord_within h (hpick s ch hch))

theorem walkStep2_within (h : ListsWithin P s.table) : ListsWithin P (walkStep2 s).table := by
  have hshed : ListsWithin P (shedWhile pickOver 13 (shedWhile pickUnserved 13 s)).table :=
    shedWhile_within (fun t ch hch => (mem_candidates.mp (pickOver_candidate hch)).1) _
      (shedWhile_within (fun t ch hch => (mem_candidates.mp (pickUnserved_candidate hch).1).1) _ h)
  unfold walkStep2
  simp only
  split
  · exact hshed
  · exact hshed

/-- Step 3 grants waiting records, each of them once. -/
theorem walkStep3_within {l : List Channel} (h : ListsWithin P s.table) (hl : l.Nodup)
    (hw : ∀ ch ∈ l, ch ∈ s.table.waiting) : ListsWithin P (walkStep3 l s).table := by
  induction l generalizing s with
  | nil => exact h
  | cons ch rest ih =>
    obtain ⟨hch, hl⟩ := List.nodup_cons.mp hl
    have hrest : ∀ c ∈ rest, c ∈ s.table.waiting := fun c hc => hw c (by simp [hc])
    have hwait := hw ch (by simp)
    unfold walkStep3
    split
    · exact ih h hl hrest
    · split
      · refine ih (grant_within h (h.within ch (by simp [hwait])) (h.not_granted hwait)) hl ?_
        intro c hc
        have hne : c ≠ ch := fun e => hch (e ▸ hc)
        exact (List.mem_erase_of_ne hne).mpr (hrest c hc)
      · split
        · exact h
        · exact ih h hl hrest

theorem walk_within (h : ListsWithin P s.table) (hP : ∀ ch, demanded s ch = true → P ch) :
    ListsWithin P (walk s).table := by
  have h2 := walkStep2_within (walkStep1_within h hP)
  exact walkStep3_within h2 h2.waiting_nodup fun _ hch => hch

end

/-! ## Re-evaluation (R30, R32, R37) -/

/-- The lists of a table are without repeats, and every channel in them has an origin. -/
def LoadTable.Agrees (x : LoadTable) : Prop :=
  ListsWithin (fun ch => x.recs[ch].origins.isEmpty = false) x

theorem agrees_iff_within {s : State} :
    s.table.Agrees ↔ ListsWithin (fun ch => demanded s ch = true) s.table := by
  simp [LoadTable.Agrees, demanded, origins]

theorem listsAgree_iff {s : State} : ListsAgree s ↔ s.table.Agrees := by
  rw [agrees_iff_within]
  exact ⟨fun h => ⟨h.1, fun ch hch => List.all_eq_true.mp h.2 ch hch⟩,
    fun h => ⟨h.distinct, List.all_eq_true.mpr h.within⟩⟩

theorem LoadTable.Agrees.distinct {x : LoadTable} (h : x.Agrees) : Distinct x.waiting x.granted :=
  ListsWithin.distinct h

/-- What keeps the lists within the demanded records of `s`, and the demands, keeps them in agreement. -/
theorem agrees_of_same {s t : State} (hs : SameDemands s t)
    (h : ListsWithin (fun ch => demanded s ch = true) t.table) : t.table.Agrees :=
  agrees_iff_within.mpr (h.mono fun ch hch => (demanded_of_same hs ch).trans hch)

/-- A record without origins leaves the lists (R30). -/
theorem dropIdle_agrees {s : State} (h : Distinct s.table.waiting s.table.granted) :
    (dropIdle s).table.Agrees := by
  refine agrees_of_same (dropIdle_same s) ⟨?_, ?_⟩
  · exact h.sublist (List.filter_sublist.append List.filter_sublist)
  · intro ch hch
    rcases List.mem_append.mp hch with hch | hch
    · exact (List.mem_filter.mp hch).2
    · exact (List.mem_filter.mp hch).2

/-- The records that change their class group are taken out and put back in (R32). -/
theorem moveReclassed_agrees (before : State) {s : State} (h : s.table.Agrees) :
    (moveReclassed before s).table.Agrees := by
  refine agrees_of_same (moveReclassed_same before s) ?_
  have hlists := agrees_iff_within.mp h
  unfold moveReclassed
  simp only
  generalize hm : s.table.waiting.filter (fun ch => decide (classOf before ch ≠ classOf s ch)) = movers
  have hmovers : ∀ ch ∈ movers, ch ∈ s.table.waiting := fun ch hch =>
    List.mem_of_mem_filter (hm ▸ hch)
  have hmnd : movers.Nodup := hm ▸ hlists.waiting_nodup.filter _
  have hsub : (s.table.waiting.filter (fun ch => !movers.contains ch) ++ s.table.granted).Sublist
      (s.table.waiting ++ s.table.granted) := List.filter_sublist.append_right _
  have hstart : ListsWithin (fun ch => demanded s ch = true)
      (setWaiting s (s.table.waiting.filter (fun ch => !movers.contains ch))).table :=
    ⟨hlists.distinct.sublist hsub, fun c hc => hlists.within c (hsub.subset hc)⟩
  have hdem : ∀ ch ∈ movers, demanded s ch = true := fun ch hch =>
    hlists.within ch (by simp [hmovers ch hch])
  have hshed := foldPutInOrder_within (l := (movers.filter (fun ch => s.table.recs[ch].shedMark)).reverse)
    hstart (List.nodup_reverse.mpr (hmnd.filter _)) (fun ch hch => hdem ch (by simp_all))
    fun ch hch => by
      have hch : ch ∈ movers := by simp_all
      exact ⟨by simp [setWaiting, hch], hlists.not_granted (hmovers ch hch)⟩
  refine foldPutInOrder_within hshed (hmnd.filter _) (fun ch hch => hdem ch (by simp_all)) ?_
  intro ch hch
  obtain ⟨hch, hunshed⟩ := List.mem_filter.mp hch
  refine ⟨?_, by simpa [-List.foldl_reverse] using hlists.not_granted (hmovers ch hch)⟩
  have hperm : ∀ (l : List Channel) (t : State), ch ∉ l → ch ∉ t.table.waiting →
      ch ∉ (l.foldl putInOrder t).table.waiting := by
    intro l
    induction l with
    | nil => exact fun t _ ht => ht
    | cons a l ih =>
      intro t hl ht
      obtain ⟨hne, hl⟩ := List.ne_and_not_mem_of_not_mem_cons hl
      exact ih _ hl (by simp [(putInOrder_waiting t a).mem_iff, hne, ht])
  refine hperm _ _ ?_ ?_
  · intro hc
    have hmark := (List.mem_filter.mp (List.mem_reverse.mp hc)).2
    simp_all
  · simp [setWaiting, hch]

theorem enterIfNew_agrees {s : State} (ch : Channel) (h : s.table.Agrees) :
    (enterIfNew s ch).table.Agrees := by
  refine agrees_of_same (enterIfNew_same s ch) ?_
  have hlists := agrees_iff_within.mp h
  unfold enterIfNew
  split
  · next hc =>
    simp only [Bool.and_eq_true, Bool.not_eq_true', isWaiting, isGranted, List.contains_eq_mem,
      decide_eq_false_iff_not] at hc
    obtain ⟨⟨⟨hd, hw⟩, hg⟩, -⟩ := hc
    exact startWaiting_within hlists hd hw hg
  · exact hlists

/-- Whatever the change, the lists that follow it agree with the demands. -/
theorem relist_agrees (before : State) {s : State} (h : Distinct s.table.waiting s.table.granted) :
    (relist before s).table.Agrees :=
  foldl_keeps (fun t => t.table.Agrees) enterIfNew channels _
    (moveReclassed_agrees before (dropIdle_agrees h)) fun _ ch ht => enterIfNew_agrees ch ht

theorem walk_agrees {s : State} (h : s.table.Agrees) : (walk s).table.Agrees :=
  agrees_of_same (walk_same s) (walk_within (agrees_iff_within.mp h) fun _ hd => hd)

@[simp] theorem handOff_table (before again : List Channel) (s : State) :
    (handOff before again s).table = s.table := by simp

theorem runWalk_agrees (n : Nat) (before : List Channel) {s : State} (h : s.table.Agrees) :
    (runWalk n before s).table.Agrees := by
  induction n generalizing before s with
  | zero => exact h
  | succ n ih =>
    have hhand : (handOff before (regranted s) (walk s)).table.Agrees := by
      rw [handOff_table]
      exact walk_agrees h
    unfold runWalk
    simp only
    split
    · exact hhand
    · exact ih _ (relist_agrees _ hhand.distinct)

@[simp] theorem reevaluate_agrees (before : State) {s : State}
    (h : Distinct s.table.waiting s.table.granted) : (reevaluate before s).table.Agrees := by
  have hlists := relist_agrees before h
  unfold reevaluate
  simp only
  split
  · exact hlists
  · exact runWalk_agrees _ _ hlists

@[simp] theorem reevaluateAlways_agrees (before : State) {s : State}
    (h : Distinct s.table.waiting s.table.granted) : (reevaluateAlways before s).table.Agrees :=
  runWalk_agrees _ _ (relist_agrees before h)

@[simp] theorem originEvent_agrees (before : State) {s : State}
    (h : Distinct s.table.waiting s.table.granted) : (originEvent before s).table.Agrees := by
  simp [originEvent, h]

end Sys2Proof.Machine
end

section
/-! PROOFS. Every operation keeps the lists in agreement with the demands (R30): what changes an origin or
a list ends in a re-evaluation, and nothing else touches the Load Table. One lemma for each operation that
can change the table. -/

namespace Sys2Proof.Machine

section
variable {s : State} (h : s.table.Agrees)

/-! ## Load Table -/

/-- A change that keeps the records and the lists. -/
theorem LoadTable.Agrees.congr {x y : LoadTable} (h : x.Agrees) (hr : y.recs = x.recs)
    (hw : y.waiting = x.waiting) (hg : y.granted = x.granted) : y.Agrees := by
  unfold LoadTable.Agrees at h ⊢
  rw [hr]
  exact ListsWithin.congr h hw hg

include h

@[simp] theorem recomputeBudget_agrees : (recomputeBudget s).table.Agrees :=
  reevaluate_agrees s h.distinct

@[simp] theorem bandToTable_agrees : (bandToTable s).table.Agrees :=
  reevaluate_agrees s h.distinct

/-- A shed of a granted record with its hold (R46). -/
@[simp] theorem overdrawShed_agrees : (overdrawShed s).table.Agrees := by
  unfold overdrawShed
  split
  · exact h
  · next ch hch =>
    have hgranted := (mem_candidates.mp (pickShed_mem hch)).1
    have hshed := (shedRecord_within h hgranted).distinct
    simp [hshed]

@[simp] theorem releaseHolds_agrees : (releaseHolds s).table.Agrees := by
  unfold releaseHolds
  split
  · exact reevaluateAlways_agrees s h.distinct
  · exact h

@[simp] theorem overdrawCheck_agrees (current : Int) : (overdrawCheck current s).table.Agrees := by
  have hset : ∀ x : LoadTable, x.recs = s.table.recs → x.waiting = s.table.waiting →
      x.granted = s.table.granted → (s.setTable x).table.Agrees := fun x hr hw hg => h.congr hr hw hg
  unfold overdrawCheck
  repeat' split
  · exact overdrawShed_agrees (hset _ rfl rfl rfl)
  · exact hset _ rfl rfl rfl
  · exact releaseHolds_agrees (hset _ rfl rfl rfl)
  · exact hset _ rfl rfl rfl

@[simp] theorem enforcePumpGuard_agrees : (enforcePumpGuard s).table.Agrees := by
  unfold enforcePumpGuard
  split <;> simp [h, h.distinct]

@[simp] theorem loadDemandOp_agrees (k : Origin) (channel level : Byte) :
    (loadDemandOp k channel level s).2.table.Agrees := by
  simp only [loadDemandOp]
  repeat' split
  all_goals simp [h, h.distinct]

@[simp] theorem withdrawSilentHost_agrees : (withdrawSilentHost s).table.Agrees := by
  simp [withdrawSilentHost, h.distinct]

/-! ## Lamps -/

@[simp] theorem lampsFollowCap_agrees : (lampsFollowCap s).table.Agrees := by
  simp [lampsFollowCap, h.distinct]

@[simp] theorem lampsFollowDraw_agrees : (lampsFollowDraw s).table.Agrees :=
  reevaluate_agrees s h.distinct

@[simp] theorem lampsRetarget_agrees : (lampsRetarget s).table.Agrees := by
  simp [lampsRetarget, h.distinct]

@[simp] theorem lampsDark_agrees : (lampsDark s).table.Agrees := by
  simp [lampsDark, h.distinct]

@[simp] theorem fadeEndOp_agrees (i : Fin 6) : (fadeEndOp i s).table.Agrees := by
  simp [fadeEndOp, h.distinct]

@[simp] theorem wallPress_agrees (i : Fin 6) : (wallPress i s).table.Agrees := by
  simp only [wallPress]
  split <;> simp [h.distinct]

@[simp] theorem entryDoor_agrees (rising : Bool) : (entryDoor rising s).table.Agrees := by
  unfold entryDoor
  repeat' split
  all_goals simp [h, h.distinct]

@[simp] theorem entryWithdraw_agrees : (entryWithdraw s).table.Agrees := by
  unfold entryWithdraw
  split <;> simp [h, h.distinct]

@[simp] theorem sceneRecallOp_agrees (number : Byte) :
    (sceneRecallOp number s).2.table.Agrees := by
  unfold sceneRecallOp
  split <;> simp [h, h.distinct]

@[simp] theorem sceneSelectEdge_agrees (rising : Bool) :
    (sceneSelectEdge rising s).table.Agrees := by
  simp only [sceneSelectEdge]
  repeat' split
  all_goals simp [h]

/-! ## Heater -/

omit h in
@[simp] theorem heaterSettle_agrees (before : State) (h : Distinct s.table.waiting s.table.granted) :
    (heaterSettle before s).table.Agrees := by
  unfold heaterSettle
  split <;> simp [h]

omit h in
@[simp] theorem heaterFollow_agrees (before : State) (h : Distinct s.table.waiting s.table.granted) :
    (heaterFollow before s).table.Agrees := by
  simp [heaterFollow, h]

@[simp] theorem setHostMode_agrees (m : HeatMode) : (setHostMode m s).table.Agrees :=
  heaterFollow_agrees s h.distinct

@[simp] theorem setSchedMode_agrees (m : HeatMode) : (setSchedMode m s).table.Agrees :=
  heaterFollow_agrees s h.distinct

@[simp] theorem setFrostOrigin_agrees (b : Bool) : (setFrostOrigin b s).table.Agrees := by
  unfold setFrostOrigin
  split
  · exact h
  · exact heaterFollow_agrees s h.distinct

@[simp] theorem bandToHeater_agrees : (bandToHeater s).table.Agrees := by
  simp [bandToHeater, h.distinct]

@[simp] theorem heatOp_agrees {set : HeatMode → State → State}
    (hset : ∀ m, (set m s).table.Agrees) (code : Byte) : (heatOp set code s).2.table.Agrees := by
  unfold heatOp
  repeat' split
  all_goals simp [h, hset]

@[simp] theorem cabinConvert_agrees (t : Int) : (cabinConvert t s).table.Agrees := by
  simp only [cabinConvert]
  split
  · exact heaterFollow_agrees s h.distinct
  · simp [h.distinct]

@[simp] theorem glowEndOp_agrees : (glowEndOp s).table.Agrees := by
  unfold glowEndOp
  split
  · simp [h.distinct]
  · exact heaterSettle_agrees s h.distinct

@[simp] theorem flameLoss_agrees : (flameLoss s).table.Agrees := by
  unfold flameLoss
  split <;> simp [h, h.distinct]

/-- A heater still demanded leaves the grant order before the lists follow (R82). -/
@[simp] theorem purgeEndOp_agrees : (purgeEndOp s).table.Agrees := by
  have hleft : Distinct s.table.waiting (s.table.granted.erase chHeater) :=
    h.distinct.sublist (List.erase_sublist.append_left _)
  simp only [purgeEndOp]
  repeat' split
  · exact heaterSettle_agrees s h.distinct
  · exact heaterSettle_agrees s hleft
  · exact heaterSettle_agrees s h.distinct

@[simp] theorem lockoutClear_agrees : (lockoutClear s).table.Agrees := by
  simp only [lockoutClear]
  repeat' split
  all_goals simp [h, h.distinct]

@[simp] theorem heaterRestart_agrees : (heaterRestart s).table.Agrees := by
  simp only [heaterRestart]
  split <;> simp [h.distinct]

/-! ## Motions -/

@[simp] theorem releaseStage_agrees : (releaseStage s).table.Agrees := by
  simp [releaseStage, h.distinct]

@[simp] theorem endMotion_agrees : (endMotion s).table.Agrees := by
  unfold endMotion
  repeat' split
  all_goals simp [h]

@[simp] theorem completeOwner_agrees (r : MotionResult) : (completeOwner r s).table.Agrees := by
  unfold completeOwner
  repeat' split
  all_goals simp [h]

@[simp] theorem claim_agrees (o : Owner) (k : Origin) : (claim o k s).table.Agrees := by
  simp [claim, h.distinct]

@[simp] theorem takeSlot_agrees (a : Actuator) (i : Fin 16) : (takeSlot a i s).table.Agrees := by
  simp only [takeSlot]
  split <;> simp [h]

@[simp] theorem takeOverride_agrees (a : Actuator) : (takeOverride a s).table.Agrees := by
  unfold takeOverride
  split <;> simp [h]

@[simp] theorem takeClaimant_agrees (o : Owner) : (takeClaimant o s).table.Agrees := by
  unfold takeClaimant
  repeat' split
  all_goals simp [h]

@[simp] theorem arbitrateN_agrees (n : Nat) : (arbitrateN n s).table.Agrees := by
  induction n generalizing s with
  | zero => exact h
  | succ n ih =>
    unfold arbitrateN
    repeat' split
    · exact h
    · exact ih (takeClaimant_agrees h _)
    · exact h

@[simp] theorem arbitrate_agrees : (arbitrate s).table.Agrees := arbitrateN_agrees h _

@[simp] theorem postMotion_agrees (a : Actuator) (act : MoveAction) (target : Nat) (notify : Bool)
    (origin : MoveOrigin) : (postMotion a act target notify origin s).2.2.table.Agrees := by
  simp only [postMotion]
  repeat' split
  all_goals simp [h]

@[simp] theorem postCodes_agrees (ring action : Byte) (target : Nat) (notify : Option Bool)
    (origin : MoveOrigin) : (postCodes ring action target notify origin s).2.2.table.Agrees := by
  unfold postCodes
  split <;> simp [h]

@[simp] theorem switchPost_agrees (a : Actuator) (act : MoveAction) :
    (switchPost a act s).table.Agrees := by
  simp [switchPost, h]

@[simp] theorem cancelSlot_agrees (i : Fin 16) : (cancelSlot i s).table.Agrees := by
  unfold cancelSlot
  split <;> simp [h]

@[simp] theorem cancelOne_agrees (i : Fin 16) : (cancelOne i s).2.table.Agrees := by
  unfold cancelOne
  split <;> simp [h]

@[simp] theorem cancelAll_agrees (a : Actuator) : (cancelAll a s).table.Agrees :=
  arbitrate_agrees (foldl_keeps (fun t : State => t.table.Agrees) _ _ _ h fun _ i ht => cancelSlot_agrees ht i)

@[simp] theorem raiseOverride_agrees (a : Actuator) (c : OverrideCause) :
    (raiseOverride a c s).table.Agrees := by
  simp only [raiseOverride]
  repeat' split
  all_goals simp [h]

@[simp] theorem raiseIfOut_agrees (a : Actuator) : (raiseIfOut s a).table.Agrees := by
  unfold raiseIfOut
  split <;> simp [h]

@[simp] theorem raiseAllOut_agrees : (raiseAllOut s).table.Agrees := by
  simp [raiseAllOut, h]

@[simp] theorem raiseIfLeft_agrees (before : State) (a : Actuator) :
    (raiseIfLeft before s a).table.Agrees := by
  unfold raiseIfLeft
  split <;> simp [h]

@[simp] theorem stowWatch_agrees (before : State) : (stowWatch before s).table.Agrees := by
  simp [stowWatch, h]

@[simp] theorem testDestination_agrees : (testDestination s).table.Agrees := by
  unfold testDestination
  repeat' split
  all_goals simp [h]

@[simp] theorem positionFollow_agrees (before : State) : (positionFollow before s).table.Agrees :=
  arbitrate_agrees (stowWatch_agrees (testDestination_agrees h) before)

@[simp] theorem awningEdgeFollow_agrees (rising : Bool) (before : State) :
    (awningEdgeFollow rising before s).table.Agrees := by
  unfold awningEdgeFollow
  split <;> simp [h]

@[simp] theorem brakeEndOp_agrees : (brakeEndOp s).table.Agrees := by
  unfold brakeEndOp
  split
  · simp [h]
  · exact arbitrate_agrees (releaseStage_agrees h)

@[simp] theorem gapEndOp_agrees : (gapEndOp s).table.Agrees := by
  simp only [gapEndOp]
  split
  · exact arbitrate_agrees h
  · exact h

@[simp] theorem driveMs_agrees (x : MotorSample) : (driveMs x s).table.Agrees := by
  simp [driveMs, h]

@[simp] theorem stallOp_agrees : (stallOp s).table.Agrees := by
  unfold stallOp
  repeat' split
  all_goals simp [h]

@[simp] theorem emergencyStop_agrees : (emergencyStop s).table.Agrees := by
  simp [emergencyStop, h]

@[simp] theorem ignitionAbort_agrees : (ignitionAbort s).table.Agrees := by
  unfold ignitionAbort
  repeat' split
  all_goals simp [h]

@[simp] theorem stepPress_agrees : (stepPress s).table.Agrees := by
  unfold stepPress
  split <;> simp [h]

@[simp] theorem doorStep_agrees (rising : Bool) : (doorStep rising s).table.Agrees := by
  unfold doorStep
  split <;> simp [h]

@[simp] theorem windJudge_agrees (speed : Nat) : (windJudge speed s).table.Agrees := by
  simp only [windJudge]
  repeat' split
  all_goals try exact h
  exact raiseOverride_agrees (by exact h) _ _

@[simp] theorem windowEndOp_agrees : (windowEndOp s).table.Agrees := by
  unfold windowEndOp
  split <;> simp [h]

@[simp] theorem presentBraking_agrees : (presentBraking s).table.Agrees := by
  unfold presentBraking
  split <;> simp [h, h.distinct]

/-! ## Tanks -/

@[simp] theorem senderConvert_agrees (raw : Fin 3 → Nat) : (senderConvert raw s).table.Agrees := by
  simp [senderConvert, h]

@[simp] theorem tankParamsFollow_agrees : (tankParamsFollow s).table.Agrees := by
  simp [tankParamsFollow, h]

@[simp] theorem pumpEdge_agrees (rising : Bool) : (pumpEdge rising s).table.Agrees := by
  unfold pumpEdge
  repeat' split
  all_goals simp [h, h.distinct]

@[simp] theorem pumpExpire_agrees : (pumpExpire s).table.Agrees := by
  simp [pumpExpire, h.distinct]

@[simp] theorem syncPad_agrees (k : FrostTank) : (syncPad k s).table.Agrees := by
  simp [syncPad, h.distinct]

@[simp] theorem syncHeaterFrost_agrees : (syncHeaterFrost s).table.Agrees := by
  simp [syncHeaterFrost, h]

@[simp] theorem frostDemands_agrees (order : List HandOff) : (frostDemands order s).table.Agrees := by
  unfold frostDemands
  refine inOrder_keeps (fun t => t.table.Agrees) _ _ _ h fun a ha t ht => ?_
  simp only [List.mem_cons, List.not_mem_nil, or_false] at ha
  rcases ha with rfl | rfl | rfl <;> simp [ht]

@[simp] theorem frostFollow_agrees (before : State) (order : List HandOff) :
    (frostFollow before order s).table.Agrees := by
  simp only [frostFollow]
  split <;> simp [h]

@[simp] theorem temperatureConvert_agrees (fresh grey : Int) (order : List HandOff) :
    (temperatureConvert fresh grey order s).table.Agrees := by
  unfold temperatureConvert
  exact frostFollow_agrees (by exact h) s order

@[simp] theorem drainOpenOp_agrees (order : List HandOff) : (drainOpenOp order s).table.Agrees := by
  unfold drainOpenOp
  split <;> simp [h]

@[simp] theorem drainCloseOp_agrees (order : List HandOff) : (drainCloseOp order s).table.Agrees := by
  unfold drainCloseOp
  split
  · exact frostFollow_agrees (by exact h) s order
  · exact h

@[simp] theorem dangerOp_agrees (k : FrostTank) (order : List HandOff) :
    (dangerOp k order s).table.Agrees := by
  unfold dangerOp
  split <;> simp [h]

@[simp] theorem autoDrainFollow_agrees (order : List HandOff) :
    (autoDrainFollow order s).table.Agrees := by
  unfold autoDrainFollow
  split <;> simp [h]

/-! ## Meter and power states -/

@[simp] theorem meterHandOffs_agrees (c : Closed) (changed : Bool) (order : List HandOff) :
    (meterHandOffs c changed order s).table.Agrees := by
  rw [meterHandOffs_eq]
  refine inOrder_keeps (fun t => t.table.Agrees) order _ s h ?_
  exact mem_meterActs (P := fun f => ∀ t, t.table.Agrees → (f t).table.Agrees)
    (fun t ht => overdrawCheck_agrees ht _) fun _ => ⟨fun t ht => bandToTable_agrees ht,
      fun t ht => lampsFollowCap_agrees ht, fun t ht => bandToHeater_agrees ht, fun t ht => by simp [ht]⟩

@[simp] theorem closeInterval_agrees (t : Int) (order : List HandOff) (start : Tick) :
    (closeInterval t order start s).table.Agrees := by
  simp only [closeInterval]
  split <;> simp [h]

@[simp] theorem becomeDormant_agrees (input : MeterInput) : (becomeDormant input s).table.Agrees := by
  simp only [becomeDormant]
  exact closeInterval_agrees (by simp [h]) _ _ _

@[simp] theorem becomeActive_agrees (input : MeterInput) : (becomeActive input s).table.Agrees := by
  unfold becomeActive
  refine inOrder_keeps (fun t => t.table.Agrees) _ _ _ h fun a ha t ht => ?_
  simp only [List.mem_cons, List.not_mem_nil, or_false] at ha
  rcases ha with rfl | rfl | rfl <;> simp [ht]

@[simp] theorem enterEntering_agrees : (enterEntering s).table.Agrees :=
  lampsDark_agrees h

@[simp] theorem slowStep_agrees (fastTime : Nat) (input : MeterInput) :
    (slowStep fastTime input s).table.Agrees := by
  unfold slowStep
  repeat' split
  all_goals simp [h]

/-- The instants of the records move, their origins stay (R43). -/
@[simp] theorem moveInstants_agrees (delta : Tick) : (moveInstants delta s).table.Agrees := by
  refine ⟨h.distinct, fun ch hch => ?_⟩
  simpa [moveInstants] using ListsWithin.within h ch hch

@[simp] theorem setTimeOp_agrees (new : Tick) (input : MeterInput) :
    (setTimeOp new input s).table.Agrees := by
  have hclose : (closeInterval input.temperature input.order new (accumulate input.samples s)).table.Agrees := by
    simp [h]
  simp only [setTimeOp]
  generalize closeInterval input.temperature input.order new (accumulate input.samples s) = u at hclose ⊢
  exact moveInstants_agrees (s := u.setTime _) hclose _

/-! ## Schedule -/

@[simp] theorem runAction_agrees (a : SchedAction) : (runAction a s).2.table.Agrees := by
  cases a with
  | load | scene | move | note => simp [runAction, h]
  | heat mode => exact heatOp_agrees h (setSchedMode_agrees h) mode

@[simp] theorem fireEntry_agrees (i : Fin 16) : (fireEntry i s).table.Agrees := by
  simp only [fireEntry]
  repeat' split
  all_goals simp [h]

@[simp] theorem fireAll_agrees : (fireAll s).table.Agrees :=
  foldl_keeps (fun t => t.table.Agrees) fireIfReached _ _ h fun t i ht => by
    unfold fireIfReached
    split <;> simp [ht]

@[simp] theorem timeSetOp_agrees (new : Tick) (input : MeterInput) :
    (timeSetOp new input s).table.Agrees := by
  simp [timeSetOp, h]

@[simp] theorem schedWriteOp_agrees (i : Fin 16) (due : Tick) (period : Nat) (a : SchedAction)
    (notify : Bool) : (schedWriteOp i due period a notify s).table.Agrees := by
  simp only [schedWriteOp]
  split <;> simp [h]

/-! ## Pins -/

@[simp] theorem ignitionEdge_agrees (rising : Bool) (order : List HandOff) :
    (ignitionEdge rising order s).table.Agrees := by
  unfold ignitionEdge
  split
  · refine arbitrate_agrees (inOrder_keeps (fun t => t.table.Agrees) _ _ _ h fun a ha t ht => ?_)
    simp only [List.mem_cons, List.not_mem_nil, or_false] at ha
    rcases ha with rfl | rfl | rfl <;> simp [ht]
  · simp [h]

@[simp] theorem doorEdge_agrees (rising : Bool) (order : List HandOff) :
    (doorEdge rising order s).table.Agrees := by
  unfold doorEdge
  refine inOrder_keeps (fun t => t.table.Agrees) _ _ _ h fun a ha t ht => ?_
  simp only [List.mem_cons, List.not_mem_nil, or_false] at ha
  rcases ha with rfl | rfl <;> simp [ht]

@[simp] theorem edgeAct_agrees (before : State) (e : InputEvent) (rising : Bool)
    (order : List HandOff) : (edgeAct before e rising order s).table.Agrees := by
  cases e <;> simp only [edgeAct] <;> (try split) <;> simp [h]

@[simp] theorem limitMapping_agrees (before : State) (e : InputEvent) :
    (limitMapping before e s).table.Agrees := by
  unfold limitMapping
  split <;> simp [h]

@[simp] theorem mappingAct_agrees (before : State) (e : InputEvent) :
    (mappingAct before e s).table.Agrees := by
  cases e <;> simp only [mappingAct] <;> (try split) <;> simp [h]

@[simp] theorem formEvent_agrees (i : Fin 16) (e : InputEvent) (order : List HandOff)
    (before : State) : (formEvent i e order before s).table.Agrees := by
  simp only [formEvent]
  repeat' split
  all_goals simp [h]

@[simp] theorem changeBinding_agrees (i : Fin 16) (b : PinBinding) (order : List HandOff) :
    (changeBinding i b order s).table.Agrees := by
  unfold changeBinding
  split <;> simp [h]

@[simp] theorem joinOp_agrees (i : Fin 16) (samples : List Bool) (order : List HandOff) :
    (joinOp i samples order s).table.Agrees := by
  unfold joinOp
  split <;> simp [h]

@[simp] theorem debounceOp_agrees (i : Fin 16) (samples : List Bool) (order : List HandOff) :
    (debounceOp i samples order s).table.Agrees := by
  unfold debounceOp
  split <;> simp [h]

@[simp] theorem pulseOp_agrees (i : Fin 16) (level : Bool) : (pulseOp i level s).table.Agrees := by
  simp [pulseOp, h]

@[simp] theorem releaseForm_agrees (i : Fin 16) (old : Pin) (order : List HandOff) (before : State) :
    (releaseForm i old order before s).table.Agrees := by
  unfold releaseForm
  split <;> simp [h]

@[simp] theorem pinMapOp_agrees (i : Fin 16) (new : Pin) (level : Bool) (order : List HandOff) :
    (pinMapOp i new level order s).table.Agrees := by
  simp only [pinMapOp]
  repeat' split
  all_goals simp [h]

/-! ## Parameters, flags and the restart -/

@[simp] theorem entryChannelWrite_agrees : (entryChannelWrite s).table.Agrees := by
  unfold entryChannelWrite
  split <;> simp [h]

@[simp] theorem paramFollow_agrees (id : Nat) (order : List HandOff) (before : State) :
    (paramFollow id order before s).table.Agrees := by
  refine paramFollow_cases (fun t => t.table.Agrees) id order before s ?_ ?_ ?_ ?_ ?_ ?_ ?_ ?_ ?_ ?_ ?_
      ?_ ?_ ?_ ?_ <;> (try intro i) <;> simp [h, h.distinct]

@[simp] theorem writeParam_agrees (id : Nat) (v : Int) (order : List HandOff) :
    (writeParam id v order s).2.table.Agrees := by
  simp only [writeParam]
  split
  · have hold : (if id = 54 then entryChannelWrite s else s).table.Agrees := by
      split <;> simp [h]
    generalize (if id = 54 then entryChannelWrite s else s) = u at hold ⊢
    simpa using paramFollow_agrees (s := u.setParams (u.params.put id v)) hold id order u
  · exact h

@[simp] theorem writeParams_agrees (order : List HandOff) (ps : List (Nat × Int)) :
    (writeParams order ps s).2.table.Agrees := by
  induction ps generalizing s with
  | nil => exact h
  | cons a ps ih => exact ih (writeParam_agrees h _ _ _)

@[simp] theorem ownerClear_agrees (f : Flag) : (ownerClear f s).table.Agrees := by
  unfold ownerClear
  split <;> simp [h]

@[simp] theorem clearNamed_agrees (f : Flag) : (clearNamed s f).table.Agrees := by
  unfold clearNamed
  repeat' split
  all_goals simp [h]

@[simp] theorem flagClearOp_agrees (numbers : List Byte) :
    (flagClearOp numbers s).2.table.Agrees := by
  unfold flagClearOp
  split
  · exact foldl_keeps (fun t => t.table.Agrees) clearNamed _ _ h fun _ f ht => clearNamed_agrees ht f
  · exact h

/-- Only the records with a FROST origin keep their place in the grant order (R54). -/
@[simp] theorem tableRestart_agrees : (tableRestart s).table.Agrees := by
  refine ⟨?_, fun ch hch => ?_⟩
  · exact List.Nodup.filter _ (ListsWithin.granted_nodup h)
  · have hfrost : (origins s ch).frost.isSome = true := by simpa [tableRestart] using (List.mem_filter.mp hch).2
    have hkept : (tableRestart s).table.recs[ch].origins =
        { OriginSet.empty with frost := (origins s ch).frost } := by simp [tableRestart, origins]
    obtain ⟨v, hv⟩ := Option.isSome_iff_exists.mp hfrost
    rw [hkept, hv]
    rfl

@[simp] theorem presentAll_agrees (order : List HandOff) : (presentAll order s).table.Agrees := by
  unfold presentAll
  refine inOrder_keeps (fun t => t.table.Agrees) _ _ _ h fun a ha t ht => ?_
  simp only [List.mem_cons, List.not_mem_nil, or_false] at ha
  rcases ha with rfl | rfl | rfl <;> simp [tanksRestart, ht]

@[simp] theorem restartOverrides_agrees : (restartOverrides s).table.Agrees := by
  unfold restartOverrides
  split <;> simp [h]

@[simp] theorem restartOp_agrees (order : List HandOff) : (restartOp order s).table.Agrees := by
  have htable : (tableRestart (linkRestart s)).table.Agrees := tableRestart_agrees (s := linkRestart s) h
  unfold restartOp
  generalize tableRestart (linkRestart s) = u at htable ⊢
  have hkept : (timeRestart (pumpRestart (driveRestart (lampsRestart u)))).table = u.table := by simp
  generalize timeRestart (pumpRestart (driveRestart (lampsRestart u))) = v at hkept ⊢
  have hpresent : (presentAll order v).table.Agrees := presentAll_agrees (hkept ▸ htable) order
  simp [hpresent]

end

/-! ## Every command (R30) -/

section
variable {s t : State}

theorem perform_agrees {e : Bool} {u : State} (h : perform s e u = .next t) (hs : s.table.Agrees)
    (hu : u.table.Agrees) : t.table.Agrees := by
  have hsettle : (settle s u).table = u.table := by simp
  rcases perform_cases h with h | h
  · rw [h]; exact hs
  · rw [h, hsettle]; exact hu

theorem takeRequest_agrees {kind : Nat} {tag : Byte} {p : List Byte} {act : State → List Byte × State}
    (h : takeRequest kind tag p act s = .next t) (hs : s.table.Agrees)
    (hact : (act s).2.table.Agrees) : t.table.Agrees := by
  have hanswer : ∀ reply u, (answer (BitVec.ofNat 8 kind) tag reply u).table = u.table := by simp
  refine perform_agrees h hs ?_
  split
  · rw [hanswer]; exact hact
  · rw [hanswer]; exact hs

/-- A frame that arrives, or is discarded, does not touch the table. -/
theorem receiveFrame_table (bytes : List Byte) (s : State) :
    ((receiveFrame bytes s).getD s).table = s.table := by
  unfold receiveFrame
  split <;> simp

theorem discardFrame_table (bytes : List Byte) (framing : Bool) (s : State) :
    ((discardFrame bytes framing s).getD s).table = s.table := by
  unfold discardFrame
  repeat' split
  all_goals simp

theorem exec_agrees {c : Instr} (h : exec c s = .next t) (hs : s.table.Agrees) : t.table.Agrees := by
  cases c with
  | powerOnReset =>
    simp only [exec, execPowerOnReset, Host.Outcome.next.injEq] at h
    have hreset : State.reset.table.Agrees := listsAgree_iff.mp (by decide)
    exact h ▸ hreset
  | summary | paramWrite | paramRead | loadDemand | loadQuery | moveQuery | movePost | schedRead
  | pinRead | tankQuery | meterQuery | timeQuery | sceneRecall | sceneStore | flagClear | drainOpen
  | accountFull | restart | hold =>
    simp only [exec, execSummary, execParamWrite, execParamRead, execLoadDemand, execLoadQuery,
      execMoveQuery, execMovePost, execSchedRead, execPinRead, execTankQuery, execMeterQuery,
      execTimeQuery, execSceneRecall, execSceneStore, execFlagClear, execDrainOpen, execAccountFull,
      execRestart, execHold] at h
    exact takeRequest_agrees h hs (by simp [hs])
  | heatMode tag p =>
    simp only [exec, execHeatMode] at h
    exact takeRequest_agrees h hs (heatOp_agrees hs (setHostMode_agrees hs) _)
  | moveCancel | schedWrite | schedFree | pinMap | drainClose | recalibrate | dormant | accountSet =>
    simp only [exec, execMoveCancel, execSchedWrite, execSchedFree, execPinMap, execDrainClose,
      execRecalibrate, execDormant, execAccountSet] at h
    refine takeRequest_agrees h hs ?_
    repeat' split
    all_goals simp [hs]
  | noticeMask tag p =>
    simp only [exec, execNoticeMask] at h
    refine takeRequest_agrees h hs ?_
    split
    · next u hu =>
      simp only [noticeMaskOp] at hu
      split at hu
      · cases hu; simp [hs]
      · cases hu
    · exact hs
  | timeSet tag p input =>
    simp only [exec, execTimeSet] at h
    split at h
    · exact takeRequest_agrees h hs (by simp [hs])
    · cases h
  | noticeBegin =>
    simp only [exec, execNoticeBegin] at h
    split at h
    · exact perform_agrees h hs hs
    · exact perform_agrees h hs (by simp [hs])
  | validFrame bytes =>
    exact perform_agrees h hs (receiveFrame_table bytes s ▸ hs)
  | frameDiscard bytes framing =>
    exact perform_agrees h hs (discardFrame_table bytes framing s ▸ hs)
  | deviceTimeAdvance edge input =>
    simp only [exec, execDeviceTimeAdvance] at h
    split at h
    · split at h
      · exact perform_agrees h hs (by simp [hs])
      · exact perform_agrees h hs (slowStep_agrees hs _ input)
    · cases h
  | intervalEnd | cabinConversion | senderConversion | temperatureConversion | dormantEntry
  | leavingToActive =>
    simp only [exec, execIntervalEnd, execCabinConversion, execSenderConversion,
      execTemperatureConversion, execDormantEntry, execLeavingToActive] at h
    split at h
    · exact perform_agrees h hs (by simp [hs])
    · cases h
  | motorStall =>
    exact perform_agrees h hs (arbitrate_agrees (stowWatch_agrees (stallOp_agrees hs) s))
  | idleDue =>
    exact perform_agrees h hs (enterEntering_agrees hs)
  | grantWaitExpiry | destinationReached | startByte | receiveTimeout | transmitEnd
  | restartPerform | holdEnd | fadeEnd | entryHoldEnd | glowEnd | purgeEnd | dangerDue | pumpRunExpiry
  | settleEnd | backoffEnd | retryWaitEnd | motionTimeout | brakeHoldEnd | gapTimerEnd
  | driveMillisecond | windWindowEnd | windPulse | pinJoin | debounceComplete | scheduleFire
  | calibrationEnd | calibrationNoSteps | unknownKindRequest =>
    exact perform_agrees h hs (by simp [hs])
  | hostSilence =>
    exact perform_agrees h hs (withdrawSilentHost_agrees (by exact hs))

/-- Settles O8: every command keeps the lists in agreement, and so does the line's bit clock. -/
theorem stepKeepsListsAgree : Obligations.StepKeepsListsAgree := by
  intro s t hs h
  rw [listsAgree_iff] at hs ⊢
  unfold step at h
  split at h
  · cases h
    simpa using hs
  · exact exec_agrees h hs

end
end Sys2Proof.Machine
end

section
/-! PROOFS. The state after a power-on reset, block by block (R53, R70, R88, R111, R135, R155, R169, R185,
R192, R211). -/

namespace Sys2Proof.Machine

/-- The lists of like things after reset: every record, lamp, scene, tank, slot, pin and entry (R53, R70,
R111, R135, R169, R185). -/
theorem reset_elements :
    (∀ ch, origins State.reset ch = OriginSet.empty ∧ recordState State.reset ch = .idle) ∧
      (∀ i : Fin 6, State.reset.lamps.chans[i] = ⟨0, 0, .steady, none, 0⟩) ∧
      (∀ (n : Fin 4) (i : Fin 6), State.reset.lamps.scenes[n][i] = none) ∧
      (∀ i, tankRec State.reset i = ⟨0, .unread, [], .parked, false⟩) ∧
      (∀ i, (slotAt State.reset i).state = .free) ∧
      (∀ i, pinAt State.reset i = ⟨.off, .activeHigh, none, false, .unbound⟩) ∧
      ∀ i, (entryAt State.reset i).state = .free := by
  decide

/-- Of the flag set CHARGE_INHIBIT alone is set after reset, and with it ATTENTION is active (R211, log 39). -/
theorem reset_flags :
    (∀ f, flagBits State.reset f = if f = .chargeInhibit then ⟨true, true⟩ else ⟨false, false⟩) ∧
      attention State.reset = true := by
  refine ⟨fun f => ?_, by decide⟩
  cases f <;> rfl

/-- Settles O2: a power-on reset keeps the queue alone, and every other field is that of the state after
reset. -/
theorem powerOnResetOfTheBlocks : Obligations.PowerOnResetOfTheBlocks := by
  intro s
  obtain ⟨hrecs, hlamps, hscenes, htanks, hslots, hpins, hentries⟩ := reset_elements
  obtain ⟨hflags, hattention⟩ := reset_flags
  exact ⟨State.reset.setPending s.pending, rfl, rfl, rfl, hrecs, rfl, rfl, rfl, rfl, rfl, rfl, hlamps, rfl,
    hscenes, htanks, rfl, rfl, rfl, rfl, rfl, rfl, rfl, rfl, rfl, rfl, rfl, rfl, rfl, rfl, rfl,
    rfl, rfl, rfl, rfl, rfl, rfl, rfl, rfl, rfl, rfl, rfl, rfl, rfl, hslots, rfl, rfl, rfl,
    rfl, rfl, rfl, rfl, rfl, hpins, rfl, rfl, rfl, rfl, rfl, rfl, rfl, hentries, rfl, rfl, rfl,
    rfl, rfl, rfl, rfl, rfl, rfl, rfl, rfl, hflags, hattention⟩

end Sys2Proof.Machine
end

section
/-! PROOFS. One walk fits the granted draws to the budget and the band (R37 to R41): the sheds of step 2
end with a fit, the grants of step 3 keep it, and a grant of class 0 or of a purge is never shed. -/

namespace Sys2Proof.Machine

/-! ## What class and draw depend on (R32, R33, R36) -/

theorem classParam_congr {s t : State} (hp : t.params = s.params) (ch : Channel) :
    classParam t ch = classParam s ch := by
  unfold classParam
  rw [hp]

section
variable {s t : State} (hs : SameDemands s t) (hp : t.params = s.params)
include hs hp

theorem demandClass_of_same (ch : Channel) : demandClass t ch = demandClass s ch := by
  have hclass : originClass t ch = originClass s ch := by
    funext k
    unfold originClass
    rw [classParam_congr hp]
  unfold demandClass
  rw [hs.get, hclass]

theorem classOf_of_same (ch : Channel) : classOf t ch = classOf s ch := by
  unfold classOf
  rw [demandClass_of_same hs hp]

theorem served_of_same (hb : t.table.band = s.table.band) (ch : Channel) :
    served t ch = served s ch := by
  unfold served
  rw [classOf_of_same hs hp, hb]

theorem countsAsZero_of_same (hh : t.heater.state = s.heater.state) (ch : Channel) :
    countsAsZero t ch = countsAsZero s ch := by
  unfold countsAsZero commits heaterPhase
  rw [classOf_of_same hs hp, hh]

theorem demandDraw_of_same (hl : t.lamps = s.lamps) (hh : t.heater.state = s.heater.state)
    (hd : t.drive.owner = s.drive.owner) (ch : Channel) : demandDraw t ch = demandDraw s ch := by
  unfold demandDraw heaterDraw heaterPhase driveDraw
  rw [hs.get, hp, hl, hh, hd]

end

/-! ## The grants of step 3 keep the fit (R41) -/

/-- The granted draws of classes 1 to 3 fit the allowed sum, and the band serves every such grant. -/
structure Fits (s : State) : Prop where
  draws : s13 s ≤ allowed s
  band : ∀ ch ∈ candidates s, served s ch = true

section
variable {s : State} {ch : Channel}

theorem grant_countsAsZero (s : State) (ch : Channel) : countsAsZero (grant s ch) = countsAsZero s :=
  funext (countsAsZero_of_same (grant_same s ch) (by simp) (by simp))

theorem grant_demandDraw (s : State) (ch : Channel) : demandDraw (grant s ch) = demandDraw s :=
  funext (demandDraw_of_same (grant_same s ch) (by simp) (by simp) (by simp) (by simp))

@[simp] theorem grant_granted (s : State) (ch : Channel) :
    (grant s ch).table.granted = s.table.granted ++ [ch] := rfl

/-- A grant adds its draw to C0 or to S. -/
theorem grant_sums (s : State) (ch : Channel) :
    c0 (grant s ch) = c0 s + (if countsAsZero s ch then demandDraw s ch else 0) ∧
      s13 (grant s ch) = s13 s + (if countsAsZero s ch then 0 else demandDraw s ch) := by
  unfold c0 s13
  rw [grant_countsAsZero, grant_demandDraw, grant_granted]
  cases h : countsAsZero s ch <;> simp [h]

theorem grant_fits (h : Fits s) (hserved : served s ch = true)
    (hroom : demandDraw s ch ≤ remainder s) : Fits (grant s ch) := by
  obtain ⟨hdraws, hband⟩ := h
  obtain ⟨hc0, hs13⟩ := grant_sums s ch
  have hbudget : (grant s ch).table.budget = s.table.budget := by simp
  have hserves : ∀ c, served (grant s ch) c = served s c :=
    served_of_same (grant_same s ch) (by simp) (by simp)
  refine ⟨?_, fun c hc => ?_⟩
  · unfold remainder allowed at hroom
    unfold allowed at hdraws ⊢
    rw [hs13, hc0, hbudget]
    split <;> omega
  · obtain ⟨hgranted, hzero⟩ := mem_candidates.mp hc
    rw [grant_countsAsZero] at hzero
    rw [hserves]
    rcases List.mem_append.mp hgranted with hgranted | hgranted
    · exact hband c (mem_candidates.mpr ⟨hgranted, hzero⟩)
    · rwa [List.mem_singleton.mp hgranted]

theorem walkStep3_fits (l : List Channel) (h : Fits s) : Fits (walkStep3 l s) := by
  induction l generalizing s with
  | nil => exact h
  | cons ch rest ih =>
    unfold walkStep3
    split
    · exact ih h
    · next hpass =>
      simp only [Bool.or_eq_true, Bool.not_eq_true', not_or, Bool.not_eq_false] at hpass
      split
      · next hroom => exact ih (grant_fits h hpass.2 hroom)
      · split
        · exact h
        · exact ih h

/-! ## The sheds of step 2 end with a fit (R39, R40) -/

/-- The two outcomes of a shed: a burning HEATER keeps its grant and enters its purge; any other record
leaves the grant order. -/
theorem shedRecord_cases (s : State) (ch : Channel) :
    (ch = chHeater ∧ (shedRecord s ch).table.granted = s.table.granted ∧
        (shedRecord s ch).heater.state = .purging) ∨
      ((shedRecord s ch).table.granted = s.table.granted.erase ch ∧
        (shedRecord s ch).heater = s.heater ∧
        ¬(ch = chHeater ∧ (heaterPhase s = .glow ∨ heaterPhase s = .run))) := by
  by_cases hc : (decide (ch = chHeater) &&
      (decide (heaterPhase s = .glow) || decide (heaterPhase s = .run))) = true
  · have hburning := hc
    simp only [Bool.and_eq_true, Bool.or_eq_true, decide_eq_true_eq] at hburning
    refine .inl ⟨hburning.1, ?_⟩
    simp only [shedRecord, if_pos hc]
    exact ⟨rfl, rfl⟩
  · have hkept := hc
    simp only [Bool.and_eq_true, Bool.or_eq_true, decide_eq_true_eq] at hkept
    refine .inr ⟨?_, ?_, hkept⟩
    · simp only [shedRecord, if_neg hc]
      simp [setGranted]
    · simp only [shedRecord, if_neg hc]
      simp

theorem heaterPhase_eq_purge (s : State) : heaterPhase s = .purge ↔ s.heater.state = .purging := by
  unfold heaterPhase
  split <;> simp_all

theorem countsAsZero_iff (s : State) (ch : Channel) :
    countsAsZero s ch = true ↔
      classOf s ch = 0 ∨ (ch = chHeater ∧ s.heater.state = .purging) ∨ ch = chDrive := by
  simp [countsAsZero, commits, heaterPhase_eq_purge]

theorem shedRecord_classOf (s : State) (ch c : Channel) :
    classOf (shedRecord s ch) c = classOf s c :=
  classOf_of_same (shedRecord_same s ch) (by simp) c

/-- A record that counts as class 0 still does after a shed. -/
theorem countsAsZero_shedRecord {c : Channel} (h : countsAsZero s c = true) :
    countsAsZero (shedRecord s ch) c = true := by
  rw [countsAsZero_iff] at h ⊢
  rw [shedRecord_classOf]
  rcases shedRecord_cases s ch with ⟨-, -, hstate⟩ | ⟨-, hheater, -⟩
  · exact h.imp_right (Or.imp_left fun hc => ⟨hc.1, hstate⟩)
  · rwa [hheater]

/-- A shed takes its record from the candidates, and no other. -/
theorem candidates_shedRecord (h : ch ∈ candidates s) (hg : s.table.granted.Nodup) :
    candidates (shedRecord s ch) = (candidates s).erase ch := by
  have hzero := (mem_candidates.mp h).2
  have hcand : (candidates s).Nodup := hg.filter _
  rw [hcand.erase_eq_filter]
  unfold candidates
  rw [List.filter_filter]
  rcases shedRecord_cases s ch with ⟨rfl, hgranted, hstate⟩ | ⟨hgranted, hheater, -⟩
  · rw [hgranted]
    refine List.filter_congr fun c _ => Bool.eq_iff_iff.mpr ?_
    have hs := countsAsZero_iff s c
    have ht := countsAsZero_iff (shedRecord s chHeater) c
    rw [shedRecord_classOf, hstate] at ht
    have hdrive : chHeater ≠ chDrive := by decide
    have hclass := (countsAsZero_iff s chHeater).not.mp (by simp [hzero])
    by_cases hc : c = chHeater
    · subst hc
      simpa using ht
    · simp [Bool.eq_false_iff, ne_eq, ht, hs, hc]
  · have hsame : countsAsZero (shedRecord s ch) = countsAsZero s :=
      funext (countsAsZero_of_same (shedRecord_same s ch) (by simp) (by rw [hheater]))
    rw [hgranted, hsame, hg.erase_eq_filter, List.filter_filter]
    exact List.filter_congr fun c _ => Bool.and_comm _ _

theorem shedRecord_granted_nodup (hg : s.table.granted.Nodup) :
    (shedRecord s ch).table.granted.Nodup := by
  rcases shedRecord_cases s ch with ⟨-, hgranted, -⟩ | ⟨hgranted, -, -⟩
  · rwa [hgranted]
  · rw [hgranted]
    exact hg.erase ch

/-- Shedding candidates one at a time leaves fewer of them, and ends when none is to be shed. -/
theorem shedWhile_candidates {pick : State → Option Channel}
    (hpick : ∀ t ch, pick t = some ch → ch ∈ candidates t) {n : Nat} (hg : s.table.granted.Nodup)
    (hn : (candidates s).length ≤ n) :
    pick (shedWhile pick n s) = none ∧ (shedWhile pick n s).table.granted.Nodup ∧
      candidates (shedWhile pick n s) ⊆ candidates s := by
  induction n generalizing s with
  | zero =>
    have hnone : candidates s = [] := List.length_eq_zero_iff.mp (by omega)
    refine ⟨?_, hg, List.Subset.refl _⟩
    cases hp : pick s with
    | none => exact hp
    | some ch => exact absurd (hpick s ch hp) (by simp [hnone])
  | succ n ih =>
    unfold shedWhile
    split
    · next hp => exact ⟨hp, hg, List.Subset.refl _⟩
    · next ch hp =>
      have hch := hpick s ch hp
      have hfewer := candidates_shedRecord hch hg
      have hlen := List.length_erase_of_mem hch
      obtain ⟨hdone, hnodup, hsub⟩ := ih (s := shedRecord s ch) (shedRecord_granted_nodup hg)
        (by rw [hfewer]; omega)
      exact ⟨hdone, hnodup, List.Subset.trans hsub (hfewer ▸ List.erase_subset)⟩

theorem candidates_length_le (hg : s.table.granted.Nodup) : (candidates s).length ≤ 13 := by
  have hcard := (hg.filter (fun ch => !countsAsZero s ch)).length_le_card
  simpa [candidates] using hcard

theorem shedWhile_served (pick : State → Option Channel) (n : Nat) (s : State) (ch : Channel) :
    served (shedWhile pick n s) ch = served s ch :=
  served_of_same (shedWhile_same pick n s) (by simp) (by simp) ch

theorem pickUnserved_eq_none (h : pickUnserved s = none) :
    ∀ ch ∈ candidates s, served s ch = true := by
  intro ch hch
  have hempty := List.filter_eq_nil_iff.mp (pickShed_eq_none h) ch hch
  simpa using hempty

theorem pickOver_eq_none (h : pickOver s = none) : s13 s ≤ allowed s := by
  unfold pickOver at h
  split at h
  · have hempty : candidates s = [] := pickShed_eq_none h
    have hsum : s13 s = ((candidates s).map (demandDraw s)).sum := rfl
    rw [hsum, hempty]
    exact Nat.zero_le _
  · omega

theorem Fits.raiseFlag (h : Fits s) (f : Flag) : Fits (raiseFlag s f) := ⟨h.draws, h.band⟩

theorem walkStep2_fits (hg : s.table.granted.Nodup) : Fits (walkStep2 s) := by
  obtain ⟨hserved, hnodup, -⟩ := shedWhile_candidates (pick := pickUnserved)
    (fun t ch h => (pickUnserved_candidate h).1) hg (candidates_length_le hg)
  generalize hu : shedWhile pickUnserved 13 s = u at hserved hnodup
  obtain ⟨hover, -, hsub⟩ := shedWhile_candidates (pick := pickOver)
    (fun t ch h => pickOver_candidate h) hnodup (candidates_length_le hnodup)
  have hfits : Fits (shedWhile pickOver 13 u) := by
    refine ⟨pickOver_eq_none hover, fun ch hch => ?_⟩
    rw [shedWhile_served]
    exact pickUnserved_eq_none hserved ch (hsub hch)
  unfold walkStep2
  rw [hu]
  exact ite_keeps Fits _ _ _ (hfits.raiseFlag _) hfits

/-! ## Class 0 and the purge (R36, R38) -/

theorem walkStep1_granted_nodup (hg : s.table.granted.Nodup) :
    (walkStep1 s).table.granted.Nodup := by
  unfold walkStep1
  refine foldl_keeps (fun t : State => t.table.granted.Nodup) grantIfZero channels s hg fun t ch ht => ?_
  unfold grantIfZero
  split
  · next hc =>
    simp only [Bool.and_eq_true, Bool.not_eq_true', isGranted, List.contains_eq_mem,
      decide_eq_false_iff_not] at hc
    rw [grant_granted]
    exact List.Nodup.append ht (List.nodup_singleton ch) (by simpa using hc.1.2)
  · exact ht

theorem mem_granted_grantIfZero {c : Channel} (h : c ∈ s.table.granted) :
    c ∈ (grantIfZero s ch).table.granted := by
  unfold grantIfZero
  split
  · simp [h]
  · exact h

theorem mem_channels (ch : Channel) : ch ∈ channels := List.mem_finRange ch

/-- Step 1 grants every demanded record of class 0 and a presented purge. -/
theorem walkStep1_grants {c : Channel} (hd : demanded s c = true)
    (hzero : classOf s c = 0 ∨ (c = chHeater ∧ heaterPhase s = .purge)) :
    c ∈ (walkStep1 s).table.granted := by
  have hgrants : ∀ t, SameDemands s t → t.params = s.params → t.heater = s.heater →
      c ∈ (grantIfZero t c).table.granted := by
    intro t hs hp hh
    by_cases hin : c ∈ t.table.granted
    · exact mem_granted_grantIfZero hin
    · have hcond : (demanded t c && !isGranted t c && (decide (classOf t c = 0) ||
          (decide (c = chHeater) && commits t c))) = true := by
        have hphase : heaterPhase t = heaterPhase s := by unfold heaterPhase; rw [hh]
        rw [demanded_of_same hs, classOf_of_same hs hp, commits, hphase]
        rcases hzero with hzero | ⟨hc, hpurge⟩
        · simp [hd, hzero, isGranted, hin]
        · subst hc
          simp [hd, hpurge, isGranted, hin]
      rw [grantIfZero, if_pos hcond, grant_granted]
      simp
  have key : ∀ (l : List Channel) (t : State), SameDemands s t → t.params = s.params →
      t.heater = s.heater → c ∈ l ∨ c ∈ t.table.granted →
      c ∈ (l.foldl grantIfZero t).table.granted := by
    intro l
    induction l with
    | nil => exact fun t _ _ _ h => by simpa using h
    | cons a l ih =>
      intro t hs hp hh h
      refine ih _ (hs.trans (grantIfZero_same t a)) (by simpa using hp) (by simpa using hh) ?_
      rcases h with h | h
      · rcases List.mem_cons.mp h with rfl | h
        · exact .inr (hgrants t hs hp hh)
        · exact .inl h
      · exact .inr (mem_granted_grantIfZero h)
  unfold walkStep1
  exact key channels s (.refl s) rfl rfl (.inl (mem_channels c))

/-- No shed takes a grant that counts as class 0. -/
theorem shedWhile_keeps {pick : State → Option Channel}
    (hpick : ∀ t ch, pick t = some ch → ch ∈ candidates t) (n : Nat) {c : Channel}
    (hc : c ∈ s.table.granted) (hzero : countsAsZero s c = true) :
    c ∈ (shedWhile pick n s).table.granted ∧ countsAsZero (shedWhile pick n s) c = true := by
  induction n generalizing s with
  | zero => exact ⟨hc, hzero⟩
  | succ n ih =>
    unfold shedWhile
    split
    · exact ⟨hc, hzero⟩
    · next ch hp =>
      refine ih ?_ (countsAsZero_shedRecord hzero)
      have hne : c ≠ ch := by
        rintro rfl
        simp [(mem_candidates.mp (hpick s c hp)).2] at hzero
      rcases shedRecord_cases s ch with ⟨-, hgranted, -⟩ | ⟨hgranted, -, -⟩
      · rwa [hgranted]
      · rw [hgranted]
        exact (List.mem_erase_of_ne hne).mpr hc

theorem walkStep2_keeps {c : Channel} (hc : c ∈ s.table.granted) (hzero : countsAsZero s c = true) :
    c ∈ (walkStep2 s).table.granted := by
  obtain ⟨hc, hzero⟩ := shedWhile_keeps (pick := pickUnserved)
    (fun t ch h => (pickUnserved_candidate h).1) 13 hc hzero
  obtain ⟨hc, -⟩ := shedWhile_keeps (pick := pickOver) (fun t ch h => pickOver_candidate h) 13 hc hzero
  unfold walkStep2
  exact ite_keeps (fun t : State => c ∈ t.table.granted) _ _ _ hc hc

theorem walkStep3_keeps (l : List Channel) {c : Channel} (hc : c ∈ s.table.granted) :
    c ∈ (walkStep3 l s).table.granted := by
  induction l generalizing s with
  | nil => exact hc
  | cons ch rest ih =>
    unfold walkStep3
    repeat' split
    · exact ih hc
    · exact ih (by simp [hc])
    · exact hc
    · exact ih hc

theorem walk_grants {c : Channel} (hd : demanded s c = true)
    (hzero : classOf s c = 0 ∨ (c = chHeater ∧ heaterPhase s = .purge)) :
    isGranted (walk s) c = true := by
  have hcounts : countsAsZero (walkStep1 s) c = true := by
    rw [countsAsZero_of_same (walkStep1_same s) (by simp) (by simp), countsAsZero_iff]
    exact hzero.imp_right fun h => .inl ⟨h.1, (heaterPhase_eq_purge s).mp h.2⟩
  rw [isGranted_iff, walk]
  exact walkStep3_keeps _ (walkStep2_keeps (walkStep1_grants hd hzero) hcounts)

end

/-- Settles O13: the sheds of step 2 end with a fit, which the grants of step 3 keep. -/
theorem aWalkFitsBudgetAndBand : Obligations.AWalkFitsBudgetAndBand := by
  intro s hg
  obtain ⟨hdraws, hband⟩ : Fits (walk s) := by
    unfold walk
    exact walkStep3_fits _ (walkStep2_fits (walkStep1_granted_nodup hg))
  refine ⟨hdraws, hband, fun ch hd hzero => walk_grants hd hzero, fun hdistinct => ?_,
    fun ch _ => (walk_same s).get ch, by simp, by simp⟩
  exact (walk_within (P := fun _ => True) ⟨hdistinct, fun _ _ => trivial⟩ fun _ _ => trivial).distinct

end Sys2Proof.Machine
end

section
/-! PROOFS. The overdraw check (R46, R47): the holds of the records through a re-evaluation, a record under
a hold stays ungranted, and a purge that has begun goes on. -/

namespace Sys2Proof.Machine

/-! ## The overdraw holds through a re-evaluation (R46, R47) -/

def overdrawHeld (s : State) (ch : Channel) : Bool := s.table.recs[ch].overdrawHold

/-- From `s` to `t` a record keeps its hold, or has none because it has no demand. -/
def HoldsFollow (s t : State) : Prop :=
  ∀ ch, overdrawHeld t ch = overdrawHeld s ch ∨ (demanded s ch = false ∧ overdrawHeld t ch = false)

namespace HoldsFollow

theorem refl (s : State) : HoldsFollow s s := fun _ => .inl rfl

theorem trans {s t u : State} (hd : SameDemands s t) (h : HoldsFollow s t) (k : HoldsFollow t u) :
    HoldsFollow s u := fun ch => by
  rcases k ch with kc | ⟨kd, kc⟩
  · rw [kc]; exact h ch
  · exact .inr ⟨(demanded_of_same hd ch).symm.trans kd, kc⟩

theorem of_recs {s t : State} (h : t.table.recs = s.table.recs) : HoldsFollow s t := fun ch =>
  .inl (by rw [overdrawHeld, overdrawHeld, h])

/-- A record without a hold has none afterwards. -/
theorem clear {s t : State} (h : HoldsFollow s t) {ch : Channel} (hc : overdrawHeld s ch = false) :
    overdrawHeld t ch = false := by
  rcases h ch with h | ⟨-, h⟩
  · rw [h, hc]
  · exact h

/-- A demanded record keeps its hold. -/
theorem held {s t : State} (h : HoldsFollow s t) {ch : Channel} (hd : demanded s ch = true) :
    overdrawHeld t ch = overdrawHeld s ch := by
  rcases h ch with h | ⟨hn, -⟩
  · exact h
  · simp [hd] at hn

end HoldsFollow

theorem setRec_rec (s : State) (ch c : Channel) (r : LoadRec) :
    (setRec s ch r).table.recs[c] = if ch = c then r else s.table.recs[c] := by
  simp only [setRec, State.setTable_table]
  exact vput_get _ _ _ _

theorem setRec_holds (s : State) (ch : Channel) (r : LoadRec)
    (h : r.overdrawHold = overdrawHeld s ch) : HoldsFollow s (setRec s ch r) := fun c => by
  refine .inl ?_
  unfold overdrawHeld
  rw [setRec_rec]
  split
  · next hc => exact hc ▸ h
  · rfl

theorem putInOrder_holds (s : State) (ch : Channel) : HoldsFollow s (putInOrder s ch) :=
  .of_recs (by simp)

theorem startWaiting_holds (s : State) (ch : Channel) : HoldsFollow s (startWaiting s ch) :=
  .trans (setRec_same s ch { s.table.recs[ch] with waitStart := some s.now } rfl)
    (setRec_holds s ch _ rfl) (putInOrder_holds _ ch)

theorem grant_holds (s : State) (ch : Channel) : HoldsFollow s (grant s ch) :=
  .trans (setRec_same s ch { s.table.recs[ch] with waitStart := none, shedMark := false } rfl)
    (setRec_holds s ch _ rfl) (.of_recs rfl)

theorem shedRecord_holds (s : State) (ch : Channel) : HoldsFollow s (shedRecord s ch) := by
  unfold shedRecord
  split
  · exact setRec_holds (enterPurging s) ch
      { (enterPurging s).table.recs[ch] with shedMark := true } rfl
  · have hleft : HoldsFollow s (setGranted s (s.table.granted.erase ch)) := .of_recs (by simp)
    have hsame := setGranted_same s (s.table.granted.erase ch)
    generalize setGranted s (s.table.granted.erase ch) = t at hleft hsame ⊢
    exact .trans hsame hleft (.trans (setRec_same t ch { t.table.recs[ch] with shedMark := true } rfl)
      (setRec_holds t ch _ rfl) (startWaiting_holds _ ch))

/-- A fold keeps the holds where each of its steps does. -/
theorem foldl_holds {α : Type} (f : State → α → State) (hs : ∀ t a, SameDemands t (f t a))
    (hh : ∀ t a, HoldsFollow t (f t a)) (l : List α) (s : State) : HoldsFollow s (l.foldl f s) := by
  induction l generalizing s with
  | nil => exact .refl s
  | cons a l ih => exact .trans (hs s a) (hh s a) (ih _)

theorem grantIfZero_holds (s : State) (ch : Channel) : HoldsFollow s (grantIfZero s ch) := by
  unfold grantIfZero
  exact ite_keeps (HoldsFollow s) _ _ _ (grant_holds s ch) (.refl s)

theorem shedWhile_holds (pick : State → Option Channel) (n : Nat) (s : State) :
    HoldsFollow s (shedWhile pick n s) := by
  induction n generalizing s with
  | zero => exact .refl s
  | succ n ih =>
    unfold shedWhile
    split
    · exact .refl s
    · exact .trans (shedRecord_same s _) (shedRecord_holds s _) (ih _)

theorem walkStep2_holds (s : State) : HoldsFollow s (walkStep2 s) := by
  have h : HoldsFollow s (shedWhile pickOver 13 (shedWhile pickUnserved 13 s)) :=
    .trans (shedWhile_same _ _ s) (shedWhile_holds _ _ s) (shedWhile_holds _ _ _)
  unfold walkStep2
  exact ite_keeps (HoldsFollow s) _ _ _ h h

theorem walkStep3_holds (l : List Channel) (s : State) : HoldsFollow s (walkStep3 l s) := by
  induction l generalizing s with
  | nil => exact .refl s
  | cons ch rest ih =>
    unfold walkStep3
    repeat' split
    · exact ih s
    · exact .trans (grant_same s ch) (grant_holds s ch) (ih _)
    · exact .refl s
    · exact ih s

theorem walk_holds (s : State) : HoldsFollow s (walk s) := by
  unfold walk
  exact .trans (.trans (walkStep1_same s) (walkStep2_same _))
    (.trans (walkStep1_same s) (foldl_holds _ grantIfZero_same grantIfZero_holds _ s)
      (walkStep2_holds _)) (walkStep3_holds _ _)

theorem dropIdle_holds (s : State) : HoldsFollow s (dropIdle s) := fun ch => by
  by_cases hd : (s.table.recs[ch]).origins.isEmpty = true
  · exact .inr ⟨by simpa [demanded, origins] using hd, by
      simp only [Fin.getElem_fin] at hd
      simp [overdrawHeld, dropIdle, hd]⟩
  · refine .inl ?_
    simp only [Fin.getElem_fin, Bool.not_eq_true] at hd
    simp [overdrawHeld, dropIdle, hd]

theorem enterIfNew_holds (s : State) (ch : Channel) : HoldsFollow s (enterIfNew s ch) := by
  unfold enterIfNew
  exact ite_keeps (HoldsFollow s) _ _ _ (startWaiting_holds s ch) (.refl s)

theorem relist_holds (before s : State) : HoldsFollow s (relist before s) :=
  .trans (.trans (dropIdle_same s) (moveReclassed_same before _))
    (.trans (dropIdle_same s) (dropIdle_holds s) (.of_recs (by simp)))
    (foldl_holds _ enterIfNew_same enterIfNew_holds _ _)

theorem runWalk_holds (n : Nat) (before : List Channel) (s : State) :
    HoldsFollow s (runWalk n before s) := by
  induction n generalizing before s with
  | zero => exact .refl s
  | succ n ih =>
    have hs : SameDemands s (handOff before (regranted s) (walk s)) :=
      .trans (walk_same s) (handOff_same before _ _)
    have h : HoldsFollow s (handOff before (regranted s) (walk s)) :=
      .trans (walk_same s) (walk_holds s) (.of_recs (by rw [handOff_table]))
    unfold runWalk
    simp only
    split
    · exact h
    · exact .trans hs h (.trans (relist_same _ _) (relist_holds _ _) (ih _ _))

theorem reevaluateAlways_holds (before s : State) : HoldsFollow s (reevaluateAlways before s) :=
  .trans (relist_same before s) (relist_holds before s) (runWalk_holds _ _ _)

theorem reevaluate_holds (before s : State) : HoldsFollow s (reevaluate before s) := by
  unfold reevaluate
  simp only
  split
  · exact relist_holds before s
  · exact reevaluateAlways_holds before s

/-! ## A record under a hold is not granted (R41, R47) -/

/-- A record that no walk grants: under an overdraw hold, of a class above 0 and not HEATER's, and not
granted. -/
structure Withheld (ch : Channel) (s : State) : Prop where
  held : overdrawHeld s ch = true
  demanded : demanded s ch = true
  class_ne : classOf s ch ≠ 0
  not_heater : ch ≠ chHeater
  not_granted : ch ∉ s.table.granted

section
variable {ch : Channel} {s : State}

theorem Withheld.follow {t : State} (h : Withheld ch s) (hs : SameDemands s t)
    (hh : HoldsFollow s t) (hp : t.params = s.params)
    (hg : ch ∉ t.table.granted) : Withheld ch t where
  held := (hh.held h.demanded).trans h.held
  demanded := (demanded_of_same hs ch).trans h.demanded
  class_ne := by rw [classOf_of_same hs hp]; exact h.class_ne
  not_heater := h.not_heater
  not_granted := hg

theorem grantIfZero_withheld (c : Channel) (h : Withheld ch s) : Withheld ch (grantIfZero s c) := by
  refine h.follow (grantIfZero_same s c) (grantIfZero_holds s c) (by simp) ?_
  unfold grantIfZero
  split
  · next hc =>
    have hne : ch ≠ c := by
      rintro rfl
      simp [h.class_ne, h.not_heater] at hc
    simp [h.not_granted, hne]
  · exact h.not_granted

theorem shedRecord_withheld (c : Channel) (h : Withheld ch s) : Withheld ch (shedRecord s c) := by
  refine h.follow (shedRecord_same s c) (shedRecord_holds s c) (by simp) ?_
  rcases shedRecord_cases s c with ⟨-, hg, -⟩ | ⟨hg, -, -⟩ <;> rw [hg]
  · exact h.not_granted
  · exact fun hm => h.not_granted (List.mem_of_mem_erase hm)

theorem shedWhile_withheld (pick : State → Option Channel) (n : Nat) (h : Withheld ch s) :
    Withheld ch (shedWhile pick n s) := by
  induction n generalizing s with
  | zero => exact h
  | succ n ih =>
    unfold shedWhile
    split
    · exact h
    · exact ih (shedRecord_withheld _ h)

theorem walkStep2_withheld (h : Withheld ch s) : Withheld ch (walkStep2 s) := by
  have hshed := shedWhile_withheld pickOver 13 (shedWhile_withheld pickUnserved 13 h)
  refine h.follow (walkStep2_same s) (walkStep2_holds s) (by simp) ?_
  unfold walkStep2
  exact ite_keeps (fun t : State => ch ∉ t.table.granted) _ _ _ hshed.not_granted hshed.not_granted

/-- Step 3 passes over a record under a hold (R41). -/
theorem walkStep3_withheld (l : List Channel) (h : Withheld ch s) : Withheld ch (walkStep3 l s) := by
  induction l generalizing s with
  | nil => exact h
  | cons c rest ih =>
    unfold walkStep3
    split
    · exact ih h
    · next hpass =>
      split
      · refine ih (h.follow (grant_same s c) (grant_holds s c) (by simp) ?_)
        have hne : ch ≠ c := by
          rintro rfl
          have hheld := h.held
          unfold overdrawHeld at hheld
          simp_all
        simp [h.not_granted, hne]
      · split
        · exact h
        · exact ih h

theorem walk_withheld (h : Withheld ch s) : Withheld ch (walk s) := by
  have h1 : Withheld ch (walkStep1 s) :=
    foldl_keeps (Withheld ch) grantIfZero channels s h fun _ c ht => grantIfZero_withheld c ht
  unfold walk
  exact walkStep3_withheld _ (walkStep2_withheld h1)

/-- The lists follow a change without a grant. -/
theorem relist_withheld (before : State) (h : Withheld ch s) : Withheld ch (relist before s) := by
  refine h.follow (relist_same before s) (relist_holds before s) (by simp) ?_
  rw [relist_granted]
  exact fun hm => h.not_granted (List.mem_of_mem_filter hm)

theorem runWalk_withheld (n : Nat) (before : List Channel) (h : Withheld ch s) :
    Withheld ch (runWalk n before s) := by
  induction n generalizing before s with
  | zero => exact h
  | succ n ih =>
    have hw := walk_withheld h
    have hhand : Withheld ch (handOff before (regranted s) (walk s)) :=
      hw.follow (handOff_same _ _ _) (.of_recs (by rw [handOff_table])) (by simp)
        (by rw [handOff_table]; exact hw.not_granted)
    unfold runWalk
    simp only
    split
    · exact hhand
    · exact ih _ (relist_withheld _ hhand)

theorem reevaluateAlways_withheld (before : State) (h : Withheld ch s) :
    Withheld ch (reevaluateAlways before s) :=
  runWalk_withheld _ _ (relist_withheld before h)

end

/-! ## A purge that has begun goes on (R40, R82) -/

section
variable {s : State} (h : s.heater.state = .purging)
include h

theorem shedRecord_heater_of_purging (ch : Channel) : (shedRecord s ch).heater = s.heater := by
  have hphase := (heaterPhase_eq_purge s).mpr h
  unfold shedRecord
  rw [if_neg (by simp [hphase])]
  simp

theorem shedWhile_heater_of_purging (pick : State → Option Channel) (n : Nat) :
    (shedWhile pick n s).heater = s.heater := by
  induction n generalizing s with
  | zero => rfl
  | succ n ih =>
    unfold shedWhile
    split
    · rfl
    · have hkept := shedRecord_heater_of_purging h
      rw [ih (by rw [hkept, h]), hkept]

theorem walk_heater_of_purging : (walk s).heater = s.heater := by
  have h1 : (walkStep1 s).heater = s.heater := by simp
  have hu := shedWhile_heater_of_purging (s := walkStep1 s) (by rw [h1, h]) pickUnserved 13
  have ho := shedWhile_heater_of_purging (s := shedWhile pickUnserved 13 (walkStep1 s))
    (by rw [hu, h1, h]) pickOver 13
  have h2 : (walkStep2 (walkStep1 s)).heater = s.heater := by
    rw [hu, h1] at ho
    unfold walkStep2
    exact ite_keeps (fun t : State => t.heater = s.heater) _ _ _ (by simpa using ho) ho
  simp [walk, h2]

theorem handOff_heater_of_purging (before again : List Channel) :
    (handOff before again s).heater = s.heater := by
  have hlamps : (allLamps.foldl (lampHandOff before again) s).heater = s.heater := by simp
  unfold handOff
  generalize allLamps.foldl (lampHandOff before again) s = u at hlamps ⊢
  have hheater : (heaterHandOff u).heater = u.heater := by
    unfold heaterHandOff
    rw [if_neg (by simp [hlamps, h])]
  simp [hheater, hlamps]

theorem runWalk_heater_of_purging (n : Nat) (before : List Channel) :
    (runWalk n before s).heater = s.heater := by
  induction n generalizing before s with
  | zero => rfl
  | succ n ih =>
    have hw := walk_heater_of_purging h
    have hh := handOff_heater_of_purging (s := walk s) (by rw [hw, h]) before (regranted s)
    unfold runWalk
    simp only
    split
    · rw [hh, hw]
    · rw [ih (by simp [hh, hw, h])]
      simp [hh, hw]

theorem reevaluateAlways_heater_of_purging (before : State) :
    (reevaluateAlways before s).heater = s.heater := by
  unfold reevaluateAlways
  rw [runWalk_heater_of_purging (by simp [h])]
  simp

end

/-! ## The check (R46, R47) -/

/-- The origins of every record through the check of an interval's current. -/
theorem overdrawShed_origins (s : State) (ch : Channel) :
    origins (overdrawShed s) ch = origins s ch := by
  unfold overdrawShed
  split
  · rfl
  · next c _ =>
    have hshed := shedRecord_same s c
    generalize shedRecord s c = t at hshed ⊢
    have hhold := setRec_same t c { t.table.recs[c] with overdrawHold := true } rfl
    rw [(reevaluateAlways_same s _).get]
    exact (hhold.get ch).trans (hshed.get ch)

theorem overdrawCheck_origins (current : Int) (s : State) (ch : Channel) :
    origins (overdrawCheck current s) ch = origins s ch := by
  unfold overdrawCheck
  repeat' split
  · exact overdrawShed_origins _ ch
  · rfl
  · unfold releaseHolds
    split
    · rw [(reevaluateAlways_same _ _).get, (clearHolds_same _).get]
      rfl
    · rfl
  · rfl

/-- A shed for overdraw before the re-evaluation: the record with its hold, and the flag (R46). -/
def overdrawMarked (s : State) (ch : Channel) : State :=
  let t := shedRecord s ch
  raiseFlag (setRec t ch { t.table.recs[ch] with overdrawHold := true }) .overdrawShed

theorem overdrawShed_eq {s : State} {ch : Channel} (h : pickShed s (candidates s) = some ch) :
    overdrawShed s = reevaluateAlways s (overdrawMarked s ch) := by
  unfold overdrawShed
  rw [h]
  rfl

section
variable (s : State) (ch : Channel)

theorem overdrawMarked_origins (c : Channel) : origins (overdrawMarked s ch) c = origins s c := by
  have hhold := setRec_same (shedRecord s ch) ch
    { (shedRecord s ch).table.recs[ch] with overdrawHold := true } rfl
  exact (hhold.get c).trans ((shedRecord_same s ch).get c)

theorem overdrawMarked_held : overdrawHeld (overdrawMarked s ch) ch = true := by
  have hrec := setRec_rec (shedRecord s ch) ch ch
    { (shedRecord s ch).table.recs[ch] with overdrawHold := true }
  rw [if_pos rfl] at hrec
  exact congrArg LoadRec.overdrawHold hrec

theorem overdrawMarked_granted :
    (overdrawMarked s ch).table.granted = (shedRecord s ch).table.granted := rfl

theorem overdrawMarked_heater : (overdrawMarked s ch).heater = (shedRecord s ch).heater := rfl

theorem overdrawMarked_flag : flagBits (overdrawMarked s ch) .overdrawShed = ⟨true, true⟩ := by
  simp [overdrawMarked]

theorem overdrawMarked_params : (overdrawMarked s ch).params = s.params := by
  simp [overdrawMarked]

end

/-- The fifth high check sheds the candidate that R46 names, with its hold and its flag. -/
theorem overdrawShed_shed {s : State} {ch : Channel} (hl : s.table.Agrees)
    (hch : pickShed s (candidates s) = some ch) :
    flagBits (overdrawShed s) .overdrawShed = ⟨true, true⟩ ∧ overdrawHeld (overdrawShed s) ch = true ∧
      (ch ≠ chHeater → ch ∉ (overdrawShed s).table.granted) ∧
      (ch = chHeater → heaterPhase s = .glow ∨ heaterPhase s = .run →
        (overdrawShed s).heater.state = .purging) := by
  obtain ⟨hgranted, hzero⟩ := mem_candidates.mp (pickShed_mem hch)
  have hlists := agrees_iff_within.mp hl
  have hdemanded : demanded (overdrawMarked s ch) ch = true := by
    unfold demanded
    rw [overdrawMarked_origins]
    exact hlists.within ch (by simp [hgranted])
  have hheld := overdrawMarked_held s ch
  rw [overdrawShed_eq hch]
  refine ⟨?flag, ?held, fun hne => ?ungranted, fun heq hphase => ?purge⟩
  case flag =>
    rw [(reevaluateAlways_same _ _).flags _ (by decide)]
    exact overdrawMarked_flag s ch
  case held => rw [(reevaluateAlways_holds _ _).held hdemanded, hheld]
  case ungranted =>
    refine (reevaluateAlways_withheld s ⟨hheld, hdemanded, ?_, hne, ?_⟩).not_granted
    · have hclass : classOf (overdrawMarked s ch) ch = classOf s ch := by
        unfold classOf demandClass originClass
        simp only [overdrawMarked_origins, classParam_congr (overdrawMarked_params s ch)]
      rw [hclass]
      intro hclass
      simp [(countsAsZero_iff s ch).mpr (.inl hclass)] at hzero
    · rw [overdrawMarked_granted]
      rcases shedRecord_cases s ch with ⟨heq, -, -⟩ | ⟨herase, -, -⟩
      · exact absurd heq hne
      · rw [herase]
        exact fun hm => (hlists.granted_nodup.mem_erase_iff.mp hm).1 rfl
  case purge =>
    have hstate : (overdrawMarked s ch).heater.state = .purging := by
      rw [overdrawMarked_heater]
      rcases shedRecord_cases s ch with ⟨-, -, hstate⟩ | ⟨-, -, hnot⟩
      · exact hstate
      · exact absurd ⟨heq, hphase⟩ hnot
    rw [reevaluateAlways_heater_of_purging hstate, hstate]

/-- The fifth clear check releases every hold. -/
theorem releaseHolds_clear (s : State) (ch : Channel) : overdrawHeld (releaseHolds s) ch = false := by
  unfold releaseHolds
  split
  · exact (reevaluateAlways_holds _ _).clear (by simp [overdrawHeld])
  · next h =>
    simp only [List.any_eq_true, mem_vlist, not_exists, not_and, Bool.not_eq_true] at h
    exact h _ ⟨ch, rfl⟩

section
variable (current : Int) (s : State)

/-- The high intervals counted: the fifth one, and every other interval, starts the count again (R46). -/
theorem overdrawCheck_overdraw :
    (overdrawCheck current s).table.overdraw =
      if current ≤ -((s.table.budget : Int) + s.params.overdrawMargin) then
        if s.table.overdraw < 4 then s.table.overdraw + 1 else 0
      else 0 := by
  unfold overdrawCheck
  split
  · split
    · rw [if_neg (by omega)]; simp
    · rw [if_pos (by omega)]; rfl
  · split
    · simp
    · rfl

/-- The clear intervals counted, likewise (R47). -/
theorem overdrawCheck_clear :
    (overdrawCheck current s).table.clear =
      if current ≤ -((s.table.budget : Int) + s.params.overdrawMargin) then 0
      else if s.table.clear < 4 then s.table.clear + 1 else 0 := by
  unfold overdrawCheck
  split
  · split
    · simp
    · rfl
  · split
    · rw [if_neg (by omega)]; simp
    · rw [if_pos (by omega)]; rfl

theorem overdrawCheck_fifth_high
    (hhigh : current ≤ -((s.table.budget : Int) + s.params.overdrawMargin))
    (hfour : 4 ≤ s.table.overdraw) :
    overdrawCheck current s = overdrawShed (s.setTable { s.table with overdraw := 0, clear := 0 }) := by
  unfold overdrawCheck
  rw [if_pos hhigh, if_pos (by omega)]

theorem overdrawCheck_fifth_clear
    (hlow : ¬ current ≤ -((s.table.budget : Int) + s.params.overdrawMargin))
    (hfour : 4 ≤ s.table.clear) :
    overdrawCheck current s = releaseHolds (s.setTable { s.table with overdraw := 0, clear := 0 }) := by
  unfold overdrawCheck
  rw [if_neg hlow, if_pos (by omega)]

/-- The frame of the check as one equation. -/
theorem overdrawCheck_eq :
    overdrawCheck current s =
      { afterWalk (afterEvent s (overdrawCheck current s)) (overdrawCheck current s) with
        table := (overdrawCheck current s).table } := by
  have hframe : OnlyOverdraw (overdrawCheck current s) s := by simp [OnlyOverdraw]
  generalize overdrawCheck current s = t at hframe ⊢
  simp only [afterWalk, afterEvent, hframe]

end

/-- Settles O14: the counters from the check's branches, the shed record through the re-evaluation that
follows it, the released holds, and the frame. -/
theorem overdrawCheckCountsAndSheds : Obligations.OverdrawCheckCountsAndSheds := by
  intro s current high t
  refine ⟨?overdraw, ?clear, fun hlow hfour ch => ?release, fun hhigh hfour hl ch hch => ?shed,
    fun ch _ => overdrawCheck_origins current s ch, fun f hf => ?flags, overdrawCheck_eq current s⟩
  case overdraw => simpa [high] using overdrawCheck_overdraw current s
  case clear => simpa [high] using overdrawCheck_clear current s
  case release =>
    have ht : t = _ := overdrawCheck_fifth_clear current s (of_decide_eq_false hlow) hfour
    rw [ht]
    exact releaseHolds_clear _ ch
  case shed =>
    have ht : t = _ := overdrawCheck_fifth_high current s (of_decide_eq_true hhigh) hfour
    obtain ⟨hflag, hheld, hungranted, hpurge⟩ := overdrawShed_shed
      (s := s.setTable { s.table with overdraw := 0, clear := 0 }) (listsAgree_iff.mp hl) hch
    rw [ht]
    exact ⟨hflag, hheld, fun hne => by simpa [isGranted] using hungranted hne, hpurge⟩
  case flags =>
    simp only [List.mem_cons, List.not_mem_nil, or_false, not_or] at hf
    exact (overdrawCheck_handedOn current s).flags f hf.2 hf.1

end Sys2Proof.Machine
end

section
/-! PROOFS. Demands of loads (R31, R48, R50): what an event of the loads leaves of the conditions and the
flags at the end of its command, and the frame of such a command as one equation. -/

namespace Sys2Proof.Machine

/-! ## The conditions, the flags and the end of a command -/

/-- What the conditions read of the units, where the pins enter by the input events alone. -/
theorem conditionHolds_of_units {s t : State} (hm : t.meter = s.meter)
    (ha : ∀ e, eventActive t e = eventActive s e) (he : ∀ e, eventMapped t e = eventMapped s e)
    (hk : t.tanks.recs = s.tanks.recs) (hf : t.tanks.fresh = s.tanks.fresh)
    (hg : t.tanks.grey = s.tanks.grey) (hh : t.heater.sensor = s.heater.sensor)
    (hp : t.act.posMs = s.act.posMs) (hs : t.act.stepMs = s.act.stepMs) (hw : t.wind = s.wind)
    (hq : t.params = s.params) (f : Flag) : conditionHolds t f = conditionHolds s f := by
  cases f <;>
    simp [conditionHolds, roadUnsafe, stepStowed, stepPosition, awningStowed, sensorLost,
      meterSensorLost, tankSensorLost, stepSensorLost, ha, he, hm, hk, hf, hg, hh, hp, hs, hw, hq]

/-- No condition reads what a walk and its hand-offs change. -/
theorem conditionHolds_of_loads {s t : State} (h : OnlyLoads s t) (f : Flag) :
    conditionHolds t f = conditionHolds s f := by
  have ha := eventActive_of_pins (s := s) (t := t) (by simp only [h])
  have hm := eventMapped_of_pins (s := s) (t := t) (by simp only [h])
  refine conditionHolds_of_units ?_ ha hm ?_ ?_ ?_ ?_ ?_ ?_ ?_ ?_ f <;> simp only [h]

section
variable {s u : State} {l : List Flag}

/-- A command that leaves the conditions alone keeps at its end every flag that it kept itself. -/
theorem settle_flagsKept (hs : Settled s) (hc : ∀ f, conditionHolds u f = conditionHolds s f)
    (hb : FlagsKeptBut l s u) : FlagsKeptBut l s (settle s u) := fun f hf =>
  flagBits_settle_of_kept hs.1 (hc f) (hb f hf)

/-- A flag that stands with its mark does so after the end of the command. -/
theorem flagBits_settle_of_raised {f : Flag} (h : flagBits u f = ⟨true, true⟩) :
    flagBits (settle s u) f = ⟨true, true⟩ := by
  rw [flagBits_settle, h, ite_self]

end

theorem settle_origins (before s : State) (ch : Channel) :
    origins (settle before s) ch = origins s ch := by
  simp [origins]

theorem recordState_congr {s t : State} (h : t.table = s.table) (ch : Channel) :
    recordState t ch = recordState s ch := by
  simp [recordState, isGranted, isWaiting, h]

theorem putOrigin_flags (s : State) (ch : Channel) (k : Origin) (v : Option Nat) (f : Flag) :
    flagBits (putOrigin s ch k v) f = flagBits s f :=
  flagBits_of_flags (by simp) f

/-! ## A request that changes the loads alone (R48) -/

section
variable {kind : Nat} {tag : Byte} {p reply : List Byte} {s v t : State}

/-- The frame of a request whose effect lies within the loads, as one equation. -/
theorem eq_of_onlyLoads_answered (ht : t = afterEvent (answered kind tag reply v) t)
    (h : OnlyLoads v s) : t = afterWalk (afterRequest s t) t := by
  rw [ht]
  simp only [afterWalk, afterRequest, afterEvent, answered, State.setLink, h]

/-- A request that is taken, from what its rule answers. -/
theorem takeRequest_eq {act : State → List Byte × State} (hr : RequestAt kind tag p s)
    (hl : lengthAllowed kind p.length = true) (hact : act s = (reply, v)) :
    takeRequest kind tag p act s =
      .next (settle s (answer (BitVec.ofNat 8 kind) tag reply v)) := by
  rw [takeRequest_taken _ hr hl, hact]

/-- A request whose rule answers and leaves the state alone. -/
theorem takeRequest_refused {act : State → List Byte × State} (hs : Settled s)
    (hr : RequestAt kind tag p s) (hl : lengthAllowed kind p.length = true)
    (hact : act s = (reply, s)) :
    takeRequest kind tag p act s = .next (answered kind tag reply s) := by
  rw [takeRequest_eq hr hl hact, ← takeRequest_reports (fun _ => reply) hs hr hl,
    takeRequest_taken _ hr hl]

/-- The frame of a command whose effect lies within the loads, as one equation. -/
theorem eq_of_onlyLoads (ht : t = afterEvent v t) (h : OnlyLoads v s) :
    t = afterWalk (afterEvent s t) t := by
  rw [ht]
  simp only [afterWalk, afterEvent, h]

/-- A request whose effect lies within the loads: what is taken and answered leaves the effect, its reply
and the flags. -/
theorem settled_loads (hs : Settled s) (hr : RequestAt kind tag p s) (h : OnlyLoads v s)
    (hb : FlagsKeptBut [.loadShed] s v)
    (ht : t = settle s (answer (BitVec.ofNat 8 kind) tag reply v)) :
    Replied kind tag reply s t ∧ t.table = v.table ∧ FlagsKeptBut [.loadShed] s t ∧
      t = afterWalk (afterRequest s t) t := by
  have hv : OnlyLoads s v := by simp only [OnlyLoads, h, and_self]
  have hawake : v.time.power ≠ .dormant := by
    simpa only [h] using not_dormant_of_requestAt hr
  rw [answer_eq_answered _ _ _ _ hawake] at ht
  refine ⟨?replied, by simp [ht, answered], ht ▸ settle_flagsKept hs (fun f => ?conditions) hb,
    eq_of_onlyLoads_answered (ht ▸ settle_eq_afterEvent s _) h⟩
  case replied =>
    have hlink : v.link.inbox = s.link.inbox ∧ v.link.replies = s.link.replies ∧
        v.link.tx = s.link.tx := by simp only [h, and_self]
    refine ⟨?_, ?_, ?_⟩ <;> simp [ht, answered, hlink]
  case conditions => rw [conditionHolds_answered, conditionHolds_of_loads hv]

end

/-- One origin given or withdrawn as one event of the loads: the origins and the flags (R31, R48). -/
theorem originEvent_putOrigin (s : State) (ch : Channel) (k : Origin) (v : Option Nat) :
    let t := originEvent s (putOrigin s ch k v)
    OnlyLoads t s ∧ origins t ch = (origins s ch).put k v ∧ OriginsKeptBut [ch] s t ∧
      FlagsKeptBut [.loadShed] s t := by
  have hsame := originEvent_same s (putOrigin s ch k v)
  refine ⟨by simp [OnlyLoads], ?own, fun c hc => ?others, fun f hf => ?flags⟩
  case own => rw [hsame.get, origins_putOrigin, if_pos rfl]
  case others =>
    rw [hsame.get, origins_putOrigin, if_neg (fun heq => hc (by simp [heq]))]
  case flags => rw [hsame.flags f (by simpa using hf), putOrigin_flags]

/-! ## LOAD_DEMAND (R48) -/

section
variable (k : Origin) {channel level : Byte} {s : State}

/-- The level that a channel with levels takes: none for 0, and 100 above 100. -/
theorem loadDemandOp_level {ch : Channel} (hch : ch.val < 6 ∨ ch.val = 10 ∨ ch.val = 11)
    (hc : channel.toNat = ch.val) :
    loadDemandOp k channel level s =
      (if level.toNat ≤ 100 then .accepted else .clamped,
        originEvent s (putOrigin s ch k
          (if level.toNat = 0 then none else some (min level.toNat 100)))) := by
  have hlt : channel.toNat < 13 := hc ▸ ch.isLt
  have hfin : (⟨channel.toNat, hlt⟩ : Channel) = ch := Fin.ext hc
  unfold loadDemandOp
  simp only [hlt, dif_pos, hfin]
  rw [if_pos (by simpa only [Bool.or_eq_true, decide_eq_true_eq, or_assoc, hc] using hch)]
  by_cases h0 : level.toNat = 0
  · simp [h0]
  · simp [h0]

theorem loadDemandOp_pump (hc : channel.toNat = 7) (h : level.toNat = 0 ∨ pumpGuard s = false) :
    loadDemandOp k channel level s =
      (if level.toNat ≤ 100 then .accepted else .clamped,
        originEvent s (putOrigin s chPump k (if level.toNat = 0 then none else some 0))) := by
  have hlt : channel.toNat < 13 := by omega
  have hfin : (⟨channel.toNat, hlt⟩ : Channel) = chPump := Fin.ext hc
  unfold loadDemandOp
  simp only [hlt, dif_pos, hfin]
  rw [if_neg (by simp [hc]), if_pos trivial]
  by_cases h0 : level.toNat = 0
  · simp [h0]
  · simp [h0, h.resolve_left h0]

theorem loadDemandOp_guarded (hc : channel.toNat = 7) (h0 : level.toNat ≠ 0)
    (h : pumpGuard s = true) : loadDemandOp k channel level s = (.condition, s) := by
  have hlt : channel.toNat < 13 := by omega
  have hfin : (⟨channel.toNat, hlt⟩ : Channel) = chPump := Fin.ext hc
  unfold loadDemandOp
  simp only [hlt, dif_pos, hfin]
  rw [if_neg (by simp [hc]), if_pos trivial, if_neg h0, if_pos h]

theorem loadDemandOp_range
    (hc : channel.toNat = 6 ∨ channel.toNat = 8 ∨ channel.toNat = 9 ∨ 12 ≤ channel.toNat) :
    loadDemandOp k channel level s = (.range, s) := by
  unfold loadDemandOp
  simp only
  split
  · rw [if_neg (by simp; omega), if_neg (by simp [chPump, Fin.ext_iff]; omega)]
  · rfl

end

/-- The reply of an accepted or clamped demand, or of a refused one of the pump: the result and the
record's state. -/
theorem loadDemandReply_state {channel : Byte} {ch : Channel} {r : Result} (s : State)
    (hc : channel.toNat = ch.val) (hr : r ≠ .range) :
    loadDemandReply channel r s =
      [BitVec.ofNat 8 r.code, BitVec.ofNat 8 (recordState s ch).code] := by
  have hlt : channel.toNat < 13 := hc ▸ ch.isLt
  have hfin : (⟨channel.toNat, hlt⟩ : Channel) = ch := Fin.ext hc
  simp [loadDemandReply, hlt, hr, hfin, packReply, packParts, fitParts, u8]

theorem code_accepted_or_clamped (n : Nat) :
    BitVec.ofNat 8 (if n ≤ 100 then Result.accepted else .clamped).code =
      if n ≤ 100 then 0#8 else 1#8 := by
  split <;> rfl

theorem accepted_or_clamped_ne_range (n : Nat) :
    (if n ≤ 100 then Result.accepted else .clamped) ≠ .range := by
  split <;> simp

/-- A LOAD_DEMAND that gives or withdraws HOST of a channel: the reply, the origins, the flags and the
frame. -/
theorem exec_loadDemand {s : State} {tag channel level : Byte} {ch : Channel} {v : Option Nat}
    (hc : channel.toNat = ch.val) (hr : RequestAt 4 tag [channel, level] s) (hs : Settled s)
    (hop : loadDemandOp .host channel level s =
      (if level.toNat ≤ 100 then .accepted else .clamped, originEvent s (putOrigin s ch .host v))) :
    ∃ t, exec (.loadDemand tag [channel, level]) s = .next t ∧
      Replied 4 tag
        [if level.toNat ≤ 100 then 0#8 else 1#8, BitVec.ofNat 8 (recordState t ch).code] s t ∧
      origins t ch = { origins s ch with host := v } ∧ OriginsKeptBut [ch] s t ∧
      FlagsKeptBut [.loadShed] s t ∧ t = afterWalk (afterRequest s t) t := by
  obtain ⟨hloads, hown, hothers, hflags⟩ := originEvent_putOrigin s ch .host v
  generalize originEvent s (putOrigin s ch .host v) = u at hop hloads hown hothers hflags
  have hexec : exec (.loadDemand tag [channel, level]) s =
      .next (settle s (answer 4#8 tag [if level.toNat ≤ 100 then 0#8 else 1#8,
        BitVec.ofNat 8 (recordState u ch).code] u)) := by
    simp only [exec, execLoadDemand]
    refine takeRequest_eq hr rfl ?_
    rw [show loadDemandOp .host (byteAt [channel, level] 0) (byteAt [channel, level] 1) s = _ from hop,
      show byteAt [channel, level] 0 = channel from rfl,
      loadDemandReply_state _ hc (accepted_or_clamped_ne_range _), code_accepted_or_clamped]
  generalize ht : settle s (answer 4#8 tag _ u) = t at hexec
  obtain ⟨hreply, htable, hkept, hframe⟩ := settled_loads hs hr hloads hflags ht.symm
  refine ⟨t, hexec, ?reply, ?own, fun c hc => ?others, hkept, hframe⟩
  case reply => rw [recordState_congr htable]; exact hreply
  case own =>
    rw [origins, htable]
    exact hown
  case others =>
    rw [origins, htable]
    exact hothers c hc

/-- A refused LOAD_DEMAND answers, and changes nothing else. -/
theorem exec_loadDemand_refused {s : State} {tag channel level : Byte} {r : Result}
    (hr : RequestAt 4 tag [channel, level] s) (hs : Settled s)
    (hop : loadDemandOp .host channel level s = (r, s)) :
    exec (.loadDemand tag [channel, level]) s =
      .next (answered 4 tag (loadDemandReply channel r s) s) := by
  simp only [exec, execLoadDemand]
  refine takeRequest_refused hs hr rfl ?_
  rw [show loadDemandOp .host (byteAt [channel, level] 0) (byteAt [channel, level] 1) s = _ from hop]
  rfl

/-- Settles O28, by the level that `loadDemandOp` gives HOST. -/
theorem loadDemandOfALevelChannel : Obligations.LoadDemandOfALevelChannel := by
  intro s tag level ch p hch hr hs
  have hc : (BitVec.ofNat 8 ch.val).toNat = ch.val := by
    simp only [BitVec.toNat_ofNat]
    omega
  exact exec_loadDemand hc hr hs (loadDemandOp_level .host hch hc)

/-- Settles O29: the pump's demand as a level channel's, and the two refusals, which only report. -/
theorem loadDemandOfThePumpAndTheRest : Obligations.LoadDemandOfThePumpAndTheRest := by
  intro s tag channel level p hr hs
  refine ⟨fun hc hguard => ?pump, fun hc h0 hguard => ?guarded, fun hc => ?range⟩
  case pump => exact exec_loadDemand (ch := chPump) hc hr hs (loadDemandOp_pump .host hc hguard)
  case guarded =>
    rw [exec_loadDemand_refused hr hs (loadDemandOp_guarded .host hc h0 hguard),
      loadDemandReply_state (ch := chPump) s hc (by simp)]
    rfl
  case range =>
    rw [exec_loadDemand_refused hr hs (loadDemandOp_range .host hc)]
    unfold loadDemandReply
    split <;> rfl

/-! ## Host silence (R50, R208) -/

/-- HOST withdrawn from the channels of a list that meet a condition. -/
theorem origins_foldWithdraw (c : Channel → Bool) (l : List Channel) (s : State) (ch : Channel) :
    origins (l.foldl (fun t ch => if c ch then putOrigin t ch .host none else t) s) ch =
      if ch ∈ l ∧ c ch = true then { origins s ch with host := none } else origins s ch := by
  induction l generalizing s with
  | nil => simp
  | cons a l ih =>
    rw [List.foldl_cons, ih]
    by_cases ha : a = ch
    · subst ha
      by_cases hc : c a = true <;> simp [hc, origins_putOrigin, OriginSet.put]
    · by_cases hc : c a = true <;> simp [hc, origins_putOrigin, ha, Ne.symm ha]

theorem withdrawSilentHost_origins (s : State) (ch : Channel) :
    origins (withdrawSilentHost s) ch =
      if demandClass s ch = some 3 then { origins s ch with host := none } else origins s ch := by
  have h := origins_foldWithdraw (fun c => decide (demandClass s c = some 3)) channels s ch
  simp only [decide_eq_true_eq, mem_channels, true_and] at h
  rw [withdrawSilentHost, (originEvent_same _ _).get, h]

theorem withdrawSilentHost_flags (s : State) : FlagsKeptBut [.loadShed] s (withdrawSilentHost s) := by
  intro f hf
  rw [withdrawSilentHost, (originEvent_same _ _).flags f (by simpa using hf)]
  exact flagBits_of_flags (foldl_keeps (fun t : State => t.link.flags = s.link.flags) _ _ _ rfl
    fun t a ht => ite_keeps (fun u : State => u.link.flags = s.link.flags) _ _ _ (by simp [ht]) ht) f

/-- The effect of HOST_SILENCE before the withdrawal. -/
def hostSilent (s : State) : State :=
  raiseFlag (s.setLink { s.link with silence := none, attended := .unattended }) .hostSilence

theorem flagBits_hostSilent (s : State) (f : Flag) :
    flagBits (hostSilent s) f = if f = .hostSilence then ⟨true, true⟩ else flagBits s f := by
  rw [hostSilent, flagBits_raiseFlag]
  simp only [eq_comm]
  rfl

/-- Settles O26, by the withdrawal's origins and frame. -/
theorem hostSilenceWithdrawsClassThree : Obligations.HostSilenceWithdrawsClassThree := by
  intro s hsilent hs
  have hexec : exec .hostSilence s = .next (settle s (withdrawSilentHost (hostSilent s))) := by
    simp [exec, execHostSilence, perform_eq, hsilent, hostSilent]
  have hkept : ∀ f, f ∉ [Flag.loadShed] → flagBits (withdrawSilentHost (hostSilent s)) f =
      if f = .hostSilence then ⟨true, true⟩ else flagBits s f := fun f hf => by
    rw [withdrawSilentHost_flags (hostSilent s) f hf, flagBits_hostSilent]
  have hloads : OnlyLoads (withdrawSilentHost (hostSilent s)) (hostSilent s) := by simp [OnlyLoads]
  have hconditions : ∀ f, conditionHolds (withdrawSilentHost (hostSilent s)) f = conditionHolds s f :=
    fun f => by
      rw [conditionHolds_of_loads (s := hostSilent s) (withdrawSilentHost_frame _)]
      simp [hostSilent]
  refine ⟨_, hexec, ?attended, ?silence, ?flag, fun ch => ?origins, ?flags, ?frame⟩
  case attended => simp [hostSilent]
  case silence => simp [hostSilent]
  case flag => exact flagBits_settle_of_raised (by rw [hkept _ (by decide), if_pos rfl])
  case origins =>
    rw [settle_origins, withdrawSilentHost_origins]
    rfl
  case flags =>
    refine settle_flagsKept hs hconditions fun f hf => ?_
    simp only [List.mem_cons, List.not_mem_nil, or_false, not_or] at hf
    rw [hkept f (by simp [hf]), if_neg hf.1]
  case frame =>
    have ht := settle_eq_afterEvent s (withdrawSilentHost (hostSilent s))
    have hwalk := eq_of_onlyLoads ht hloads
    generalize settle s (withdrawSilentHost (hostSilent s)) = t at hwalk ⊢
    exact hwalk

end Sys2Proof.Machine
end

section
/-! PROOFS. The restart (R210): the state in which every block has been cleared, and what the owners'
presents, the latch flags, the overrides and the arbiter leave of it. -/

namespace Sys2Proof.Machine

/-! ## The stage through a re-evaluation (R44, R114) -/

section
variable {s : State} (h : s.drive.stage ≠ .claimed)
include h

/-- Only a stage in CLAIMED takes a grant (R114). -/
theorem handOff_drive_of_not_claimed (before again : List Channel) :
    (handOff before again s).drive = s.drive := by
  have hkept : (pumpHandOff again (heaterHandOff (allLamps.foldl (lampHandOff before again) s))).drive =
      s.drive := by simp
  unfold handOff driveHandOff
  rw [if_neg (by simp [h]), hkept]

theorem runWalk_drive_of_not_claimed (n : Nat) (before : List Channel) :
    (runWalk n before s).drive = s.drive := by
  induction n generalizing before s with
  | zero => rfl
  | succ n ih =>
    have hwalk : (walk s).drive = s.drive := by simp
    have hhand := handOff_drive_of_not_claimed (s := walk s) (by rw [hwalk]; exact h) before (regranted s)
    rw [hwalk] at hhand
    unfold runWalk
    simp only
    split
    · exact hhand
    · rw [ih (by simpa [hhand] using h)]
      simp [hhand]

theorem reevaluateAlways_drive_of_not_claimed (before : State) :
    (reevaluateAlways before s).drive = s.drive := by
  unfold reevaluateAlways
  rw [runWalk_drive_of_not_claimed (by simpa using h)]
  simp

theorem reevaluate_drive_of_not_claimed (before : State) :
    (reevaluate before s).drive = s.drive := by
  unfold reevaluate
  simp only
  split
  · simp
  · exact reevaluateAlways_drive_of_not_claimed h before

end

/-- A wake changes nothing in an awake part (R190). -/
theorem wake_of_awake {s : State} (h : asleep s = false) : wake s = s := by
  unfold wake
  unfold asleep at h
  split <;> simp_all

/-! ## What a restart keeps from its clearing on (R210) -/

/-- No slot holds a motion, no slot's motion holds the stage, and the part is awake. -/
structure Rested (s : State) : Prop where
  slots : ∀ i, (slotAt s i).state = .free
  stage : ∀ a j, s.drive.owner = some ⟨a, .slot j⟩ → holdsStage s.drive.stage = false
  awake : asleep s = false

/-- The records whose origins their owners present as the restart completes (R54). -/
def presented : List Channel := [chHeater, chFreshPad, chGreyPad, chDrive]

/-- What the steps of a restart after the clearing leave as it was, from a rested state to a rested one. -/
structure RestartKeeps (s t : State) : Prop where
  rested : Rested t
  origins : OriginsKeptBut presented s t
  flags : ∀ f, f.kind ≠ .occurrence →
    flagBits t f = flagBits s f ∨ (f.kind = .latch ∧ flagBits t f = ⟨true, true⟩)
  holds : ∀ ch, overdrawHeld s ch = false → overdrawHeld t ch = false
  pins : t.pins = s.pins
  time : t.time = s.time

namespace RestartKeeps
variable {s t u : State}

theorem refl (h : Rested s) : RestartKeeps s s :=
  ⟨h, fun _ _ => rfl, fun _ _ => .inl rfl, fun _ hc => hc, rfl, rfl⟩

theorem trans (h : RestartKeeps s t) (k : RestartKeeps t u) : RestartKeeps s u where
  rested := k.rested
  origins ch hch := (k.origins ch hch).trans (h.origins ch hch)
  flags f hf := by
    rcases k.flags f hf with kf | kf
    · rw [kf]; exact h.flags f hf
    · exact .inr kf
  holds ch hch := k.holds ch (h.holds ch hch)
  pins := k.pins.trans h.pins
  time := k.time.trans h.time

/-- A step that changes neither the records nor the flags. -/
theorem of_eq (h : Rested t) (hrecs : t.table.recs = s.table.recs)
    (hflags : t.link.flags = s.link.flags) (hpins : t.pins = s.pins) (htime : t.time = s.time) :
    RestartKeeps s t where
  rested := h
  origins _ _ := by simp [Machine.origins, hrecs]
  flags f _ := .inl (flagBits_of_flags hflags f)
  holds _ hc := by simpa [overdrawHeld, hrecs] using hc
  pins := hpins
  time := htime

/-- A walk or a change of the lists. -/
theorem of_same (h : Rested t) (hsame : SameDemands s t) (hholds : HoldsFollow s t)
    (hpins : t.pins = s.pins) (htime : t.time = s.time) : RestartKeeps s t where
  rested := h
  origins ch _ := hsame.get ch
  flags f hf := .inl (hsame.flags f (by rintro rfl; exact hf rfl))
  holds _ hc := hholds.clear hc
  pins := hpins
  time := htime

end RestartKeeps

section
variable {s : State} (h : Rested s)
include h

/-- A state with the slots, the stage and the power state of a rested one is rested. -/
theorem Rested.congr {t : State} (hslots : t.motion.slots = s.motion.slots)
    (howner : t.drive.owner = s.drive.owner) (hstage : t.drive.stage = s.drive.stage)
    (hpower : t.time.power = s.time.power) : Rested t where
  slots i := by unfold slotAt; rw [hslots]; exact h.slots i
  stage a j ho := by rw [hstage]; exact h.stage a j (howner ▸ ho)
  awake := asleep_congr hpower ▸ h.awake

/-- A re-evaluation hands a grant to an override's motion alone, since no slot's motion is CLAIMED. -/
theorem reevaluate_rested (before : State) : Rested (reevaluate before s) where
  slots i := by
    have hslots : (reevaluate before s).motion = s.motion := by simp
    unfold slotAt
    rw [hslots]
    exact h.slots i
  stage a j ho := by
    have howner : (reevaluate before s).drive.owner = s.drive.owner := by simp
    have hstage := h.stage a j (howner ▸ ho)
    have hclaimed : s.drive.stage ≠ .claimed := fun hc => by simp [hc, holdsStage] at hstage
    rw [reevaluate_drive_of_not_claimed hclaimed]
    exact hstage
  awake := (asleep_congr (by simp)).trans h.awake

theorem reevaluateAlways_rested (before : State) : Rested (reevaluateAlways before s) where
  slots i := by
    have hslots : (reevaluateAlways before s).motion = s.motion := by simp
    unfold slotAt
    rw [hslots]
    exact h.slots i
  stage a j ho := by
    have howner : (reevaluateAlways before s).drive.owner = s.drive.owner := by simp
    have hstage := h.stage a j (howner ▸ ho)
    have hclaimed : s.drive.stage ≠ .claimed := fun hc => by simp [hc, holdsStage] at hstage
    rw [reevaluateAlways_drive_of_not_claimed hclaimed]
    exact hstage
  awake := (asleep_congr (by simp)).trans h.awake

theorem reevaluate_restartKeeps (before : State) : RestartKeeps s (reevaluate before s) :=
  .of_same (reevaluate_rested h before) (reevaluate_same before s) (reevaluate_holds before s)
    (by simp) (by simp)

theorem reevaluateAlways_restartKeeps (before : State) :
    RestartKeeps s (reevaluateAlways before s) :=
  .of_same (reevaluateAlways_rested h before) (reevaluateAlways_same before s)
    (reevaluateAlways_holds before s) (by simp) (by simp)

theorem setOrigins_restartKeeps {ch : Channel} (hch : ch ∈ presented) (o : OriginSet) :
    RestartKeeps s (setOrigins s ch o) where
  rested := h.congr (by simp) (by simp) (by simp) (by simp)
  origins c hc := by
    rw [origins_setOrigins, if_neg (by rintro rfl; exact hc hch)]
  flags f _ := .inl (flagBits_of_flags (by simp) f)
  holds c hc := (setRec_holds s ch { s.table.recs[ch] with origins := o } rfl).clear hc
  pins := by simp
  time := by simp

theorem heaterSettle_restartKeeps (before : State) : RestartKeeps s (heaterSettle before s) := by
  have hsync : RestartKeeps s (syncHeater s) := setOrigins_restartKeeps h (by simp [presented]) _
  unfold heaterSettle
  split
  · exact hsync.trans (reevaluate_restartKeeps hsync.rested _)
  · exact hsync.trans (reevaluateAlways_restartKeeps hsync.rested _)

/-- The heater's own part of a restart or of a change of its inputs, before its record follows. -/
theorem heater_restartKeeps {t : State} (hrecs : t.table = s.table) (hlink : t.link = s.link)
    (hmotion : t.motion = s.motion) (hdrive : t.drive = s.drive) (hpins : t.pins = s.pins)
    (htime : t.time = s.time) (before : State) : RestartKeeps s (heaterSettle before t) := by
  have hkeeps : RestartKeeps s t :=
    .of_eq (h.congr (by rw [hmotion]) (by rw [hdrive]) (by rw [hdrive]) (by rw [htime]))
      (by rw [hrecs]) (by rw [hlink]) hpins htime
  exact hkeeps.trans (heaterSettle_restartKeeps hkeeps.rested before)

theorem heaterRestart_restartKeeps : RestartKeeps s (heaterRestart s) := by
  simp only [heaterRestart]
  split <;>
    exact heater_restartKeeps h (by simp) (by simp) (by simp) (by simp) (by simp) (by simp) s

theorem syncPad_restartKeeps (k : FrostTank) : RestartKeeps s (syncPad k s) := by
  have hpad : padChannel k ∈ presented := by cases k <;> decide
  have hset := setOrigins_restartKeeps h hpad (padOrigins (frostCtl s k).state)
  exact hset.trans (reevaluate_restartKeeps hset.rested s)

theorem syncHeaterFrost_restartKeeps : RestartKeeps s (syncHeaterFrost s) := by
  unfold syncHeaterFrost setFrostOrigin
  split
  · exact .refl h
  · exact heater_restartKeeps h (by simp) (by simp) (by simp) (by simp) (by simp) (by simp) s

theorem tanksRestart_restartKeeps (order : List HandOff) : RestartKeeps s (tanksRestart order s) := by
  unfold tanksRestart frostDemands
  refine inOrder_keeps (RestartKeeps s) _ _ _ (.refl h) fun a ha t ht => ?_
  simp only [List.mem_cons, List.not_mem_nil, or_false] at ha
  rcases ha with rfl | rfl | rfl
  · exact ht.trans (syncPad_restartKeeps ht.rested _)
  · exact ht.trans (syncPad_restartKeeps ht.rested _)
  · exact ht.trans (syncHeaterFrost_restartKeeps ht.rested)

theorem presentBraking_restartKeeps : RestartKeeps s (presentBraking s) := by
  have hset := setOrigins_restartKeeps h (ch := chDrive) (by simp [presented])
    { OriginSet.empty with override := some 0 }
  unfold presentBraking
  split
  · exact hset.trans (reevaluate_restartKeeps hset.rested s)
  · exact .refl h

theorem presentAll_restartKeeps (order : List HandOff) : RestartKeeps s (presentAll order s) := by
  unfold presentAll
  refine inOrder_keeps (RestartKeeps s) _ _ _ (.refl h) fun a ha t ht => ?_
  simp only [List.mem_cons, List.not_mem_nil, or_false] at ha
  rcases ha with rfl | rfl | rfl
  · exact ht.trans (tanksRestart_restartKeeps ht.rested order)
  · exact ht.trans (heaterRestart_restartKeeps ht.rested)
  · exact ht.trans (presentBraking_restartKeeps ht.rested)

theorem raiseFlag_restartKeeps {g : Flag} (hg : g.kind ≠ .condition) :
    RestartKeeps s (raiseFlag s g) where
  rested := h.congr (by simp) (by simp) (by simp) (by simp)
  origins _ _ := by simp [origins]
  flags f hf := by
    rw [flagBits_raiseFlag]
    split
    · next heq => exact .inr ⟨by subst heq; revert hg hf; cases g <;> simp [Flag.kind], rfl⟩
    · exact .inl rfl
  holds _ hc := by simpa [overdrawHeld] using hc
  pins := by simp
  time := by simp

theorem reflagLatches_restartKeeps : RestartKeeps s (reflagLatches s) := by
  simp only [reflagLatches]
  split <;> split
  · have hheater := raiseFlag_restartKeeps h (g := .heaterLockout) (by decide)
    exact hheater.trans (raiseFlag_restartKeeps hheater.rested (by decide))
  · exact raiseFlag_restartKeeps h (by decide)
  · exact raiseFlag_restartKeeps h (by decide)
  · exact .refl h

/-! ## The overrides and the arbiter of a restart (R118, R136, R143) -/

theorem setOverride_restartKeeps (a : Actuator) (o : OverrideSlot) :
    RestartKeeps s (setOverride s a o) :=
  .of_eq (h.congr (by simp) (by simp) (by simp) (by simp)) (by simp) (by simp) (by simp) (by simp)

/-- No motion of a slot holds the stage, so none is preempted. -/
theorem raiseOverride_restartKeeps (a : Actuator) (c : OverrideCause) :
    RestartKeeps s (raiseOverride a c s) := by
  have hset := setOverride_restartKeeps h a
    { overrideOf s a with state := .raised, cause := some c, retries := 0, runTime := 0 }
  simp only [raiseOverride]
  split
  · exact .refl h
  · rw [wake_of_awake hset.rested.awake]
    split
    · next k i howner =>
      unfold completeOwner
      rw [howner]
      simp only
      rw [if_neg (by rw [hset.rested.stage _ _ howner]; exact Bool.false_ne_true)]
      exact hset
    · exact hset
    · exact hset

theorem raiseIfOut_restartKeeps (a : Actuator) : RestartKeeps s (raiseIfOut s a) := by
  unfold raiseIfOut
  split
  · exact .refl h
  · exact raiseOverride_restartKeeps h a _

theorem restartOverrides_restartKeeps : RestartKeeps s (restartOverrides s) := by
  have hstep := raiseIfOut_restartKeeps h .step
  unfold restartOverrides raiseAllOut
  split
  · exact hstep.trans (raiseIfOut_restartKeeps hstep.rested .awning)
  · exact .refl h

theorem finishOverride_restartKeeps (a : Actuator) (r : MotionResult) :
    RestartKeeps s (finishMotion ⟨a, .override⟩ r s) := by
  have hset := setOverride_restartKeeps h a
    { overrideOf s a with state := .none, cause := none, lastResult := some r }
  unfold finishMotion flagResult
  refine hset.trans (raiseFlag_restartKeeps hset.rested ?_)
  split <;> decide

theorem claimOverride_restartKeeps (a : Actuator) :
    RestartKeeps s (claim ⟨a, .override⟩ .override s) := by
  have hclaimed : RestartKeeps s (s.setDrive
      { s.drive with stage := .claimed, owner := some ⟨a, .override⟩, phaseTimer := s.params.grantWait }) :=
    .of_eq ⟨h.slots, fun _ _ ho => by simp at ho, h.awake⟩ rfl rfl rfl rfl
  have hset := setOrigins_restartKeeps hclaimed.rested (ch := chDrive) (by simp [presented])
    ((s.table.recs[chDrive]).origins.put .override (some 0))
  exact hclaimed.trans (hset.trans (reevaluate_restartKeeps hset.rested s))

theorem takeOverride_restartKeeps (a : Actuator) : RestartKeeps s (takeOverride a s) := by
  have hactive := setOverride_restartKeeps h a { overrideOf s a with state := .active }
  unfold takeOverride
  split
  · exact finishOverride_restartKeeps h a _
  · exact hactive.trans (claimOverride_restartKeeps hactive.rested a)

/-- With every slot FREE the overrides are the only claimants (R118, R121). -/
theorem readyHead_of_rested (a : Actuator) : readyHead s a = none := by
  simp [readyHead, h.slots]

theorem chosen_of_rested {o : Owner} (ho : chosen s = some o) : o.motion = .override := by
  unfold chosen at ho
  simp only [readyHead_of_rested h] at ho
  split at ho
  · cases ho; rfl
  · split at ho
    · cases ho; rfl
    · cases ho

theorem takeClaimant_restartKeeps {o : Owner} (ho : o.motion = .override) :
    RestartKeeps s (takeClaimant o s) := by
  unfold takeClaimant
  rw [ho]
  split
  · exact .of_eq ⟨h.slots, fun _ _ _ => rfl, h.awake⟩ rfl rfl rfl rfl
  · exact takeOverride_restartKeeps h _

omit h in
theorem arbitrateN_restartKeeps (n : Nat) (h : Rested s) : RestartKeeps s (arbitrateN n s) := by
  induction n generalizing s with
  | zero => exact .refl h
  | succ n ih =>
    unfold arbitrateN
    split
    · split
      · exact .refl h
      · next o ho =>
        have htake := takeClaimant_restartKeeps h (chosen_of_rested h ho)
        exact htake.trans (ih htake.rested)
    · exact .refl h

end

/-! ## The clearing -/

/-- The restart before its owners present anything: every block cleared. -/
def restartCleared (s : State) : State :=
  timeRestart (pumpRestart (driveRestart (lampsRestart (tableRestart (linkRestart s)))))

theorem driveRestart_slots (s : State) : (driveRestart s).motion.slots = Vector.replicate 16 .free := by
  simp only [driveRestart, brakeAfter]
  repeat' split
  all_goals rfl

theorem driveRestart_tails (s : State) :
    (driveRestart s).motion.awningTail = 15 ∧
      (driveRestart s).motion.stepTail = Fin.ofNat 16 (s.params.ringSplit - 1) := by
  simp only [driveRestart, brakeAfter]
  repeat' split
  all_goals exact ⟨rfl, rfl⟩

/-- R136: a motion in CLAIMED is left, one after WAKING brakes. -/
theorem driveRestart_stage (s : State) :
    (driveRestart s).drive.owner = none ∨ holdsStage (driveRestart s).drive.stage = false := by
  simp only [driveRestart, brakeAfter]
  split
  · exact .inl rfl
  · next hclaimed =>
    split
    · refine .inr ?_
      split <;> rfl
    · next hwaking =>
      refine .inr (?_ : holdsStage s.drive.stage = false)
      cases hs : s.drive.stage <;> simp_all [holdsStage, afterWaking]

theorem tableRestart_origins (s : State) (ch : Channel) :
    origins (tableRestart s) ch = { OriginSet.empty with frost := (origins s ch).frost } := by
  simp [origins, tableRestart]

theorem tableRestart_holds (s : State) (ch : Channel) : overdrawHeld (tableRestart s) ch = false := by
  simp [overdrawHeld, tableRestart, LoadRec.reset]

theorem linkRestart_flags (s : State) (f : Flag) : flagBits (linkRestart s) f = ⟨false, false⟩ := by
  simp [flagBits, linkRestart, attend]

theorem tableRestart_counts (s : State) :
    (tableRestart s).table.overdraw = 0 ∧ (tableRestart s).table.clear = 0 ∧
      (tableRestart s).table.budget = budgetNow (tableRestart s) :=
  ⟨rfl, rfl, (budgetNow_congr rfl rfl (eventActive_of_pins rfl)).symm⟩

section
variable {s : State}

theorem restartCleared_table : (restartCleared s).table = (tableRestart (linkRestart s)).table := by
  simp [restartCleared]

theorem restartCleared_link : (restartCleared s).link = (linkRestart s).link := by
  simp [restartCleared]

theorem restartCleared_origins (ch : Channel) :
    origins (restartCleared s) ch = { OriginSet.empty with frost := (origins s ch).frost } := by
  unfold origins
  rw [restartCleared_table]
  have h := tableRestart_origins (linkRestart s) ch
  simpa [origins] using h

theorem restartCleared_power :
    (restartCleared s).time.power =
      if s.time.power = .entering then .leaving else s.time.power := by
  simp [restartCleared, timeRestart, touchIdle]

theorem restartCleared_drive :
    (restartCleared s).drive = (driveRestart (lampsRestart (tableRestart (linkRestart s)))).drive ∧
      (restartCleared s).motion =
        (driveRestart (lampsRestart (tableRestart (linkRestart s)))).motion := by
  simp [restartCleared]

theorem restartCleared_tails :
    (restartCleared s).motion.awningTail = 15 ∧
      (restartCleared s).motion.stepTail = Fin.ofNat 16 (s.params.ringSplit - 1) := by
  have hparams : (lampsRestart (tableRestart (linkRestart s))).params = s.params := by simp
  rw [restartCleared_drive.2, ← hparams]
  exact driveRestart_tails _

theorem restartCleared_entryDue : (restartCleared s).lamps.entryDue = none := by
  have h : (restartCleared s).lamps = (lampsRestart (tableRestart (linkRestart s))).lamps := by
    simp [restartCleared]
  rw [h]
  rfl

theorem restartCleared_schedule : (restartCleared s).time.schedule = Vector.replicate 16 .free := by
  simp [restartCleared, timeRestart, touchIdle]

theorem restartCleared_rested (hp : s.time.power ≠ .dormant) : Rested (restartCleared s) where
  slots i := by
    unfold slotAt
    rw [restartCleared_drive.2, driveRestart_slots]
    simp [Slot.free]
  stage a j ho := by
    rw [restartCleared_drive.1] at ho ⊢
    rcases driveRestart_stage (lampsRestart (tableRestart (linkRestart s))) with h | h
    · rw [h] at ho; cases ho
    · exact h
  awake := by
    unfold asleep
    rw [restartCleared_power]
    cases h : s.time.power <;> simp_all

end

theorem restartOp_eq (order : List HandOff) (s : State) :
    restartOp order s =
      arbitrate (restartOverrides (reflagLatches (presentAll order (restartCleared s)))) := rfl

@[simp] theorem restartCleared_frame (s : State) : OnlyRestart s (restartCleared s) := by
  simp [OnlyRestart, restartCleared]

/-- What the restart leaves of its clearing (R54, R89, R112, R136). -/
theorem restartOp_restartKeeps (order : List HandOff) {s : State} (hp : s.time.power ≠ .dormant) :
    RestartKeeps (restartCleared s) (restartOp order s) := by
  have hpresent := presentAll_restartKeeps (restartCleared_rested hp) order
  have hreflag := hpresent.trans (reflagLatches_restartKeeps hpresent.rested)
  have hraise := hreflag.trans (restartOverrides_restartKeeps hreflag.rested)
  exact hraise.trans (arbitrateN_restartKeeps _ hraise.rested)

/-! ## The heater's modes and the latch flags (R89, R112) -/

theorem heaterRestart_modes (s : State) :
    (heaterRestart s).heater.hostMode = .off ∧ (heaterRestart s).heater.schedMode = .off := by
  simp only [heaterRestart]
  split <;> simp

theorem presentAll_modes (order : List HandOff) (s : State) :
    (presentAll order s).heater.hostMode = .off ∧ (presentAll order s).heater.schedMode = .off := by
  unfold presentAll
  refine inOrder_establishes (fun t => t.heater.hostMode = .off ∧ t.heater.schedMode = .off) order
    (a := (.restartHeater, heaterRestart)) s (by simp) (by simp) heaterRestart_modes fun b hb t ht => ?_
  simp only [List.mem_cons, List.not_mem_nil, or_false] at hb
  rcases hb with rfl | rfl | rfl
  · simpa using ht
  · exact heaterRestart_modes t
  · simpa using ht

theorem reflagLatches_heater {s : State} (h : s.heater.latch = true) :
    flagBits (reflagLatches s) .heaterLockout = ⟨true, true⟩ := by
  simp only [reflagLatches, if_pos h]
  split <;> simp

theorem reflagLatches_pump {s : State} (h : s.tanks.pumpFault = true) :
    flagBits (reflagLatches s) .pumpFault = ⟨true, true⟩ := by
  have hfault : (if s.heater.latch then raiseFlag s .heaterLockout else s).tanks.pumpFault = true :=
    ite_keeps (fun t : State => t.tanks.pumpFault = true) _ _ _ (by simpa using h) h
  simp [reflagLatches, hfault]

/-- A latch flag that stands with its mark stays so. -/
theorem RestartKeeps.raised {s t : State} (h : RestartKeeps s t) {f : Flag} (hk : f.kind = .latch)
    (hf : flagBits s f = ⟨true, true⟩) : flagBits t f = ⟨true, true⟩ := by
  rcases h.flags f (by simp [hk]) with hflag | ⟨-, hflag⟩
  · rw [hflag, hf]
  · exact hflag

theorem restartOp_latches (order : List HandOff) {s : State} (hp : s.time.power ≠ .dormant) :
    (s.heater.latch = true → flagBits (restartOp order s) .heaterLockout = ⟨true, true⟩) ∧
      (s.tanks.pumpFault = true → flagBits (restartOp order s) .pumpFault = ⟨true, true⟩) := by
  have hrested := (presentAll_restartKeeps (restartCleared_rested hp) order).rested
  have hreflag := (reflagLatches_restartKeeps hrested).rested
  have hraise := restartOverrides_restartKeeps hreflag
  have hkept := hraise.trans (arbitrateN_restartKeeps 19 hraise.rested)
  have hlatch : (presentAll order (restartCleared s)).heater.latch = s.heater.latch := by
    simp [restartCleared]
  have hfault : (presentAll order (restartCleared s)).tanks.pumpFault = s.tanks.pumpFault := by
    simp [restartCleared]
  exact ⟨fun h => hkept.raised rfl (reflagLatches_heater (hlatch.trans h)),
    fun h => hkept.raised rfl (reflagLatches_pump (hfault.trans h))⟩

theorem restartOp_modes (order : List HandOff) (s : State) :
    (restartOp order s).heater.hostMode = .off ∧ (restartOp order s).heater.schedMode = .off := by
  simpa [restartOp_eq] using presentAll_modes order (restartCleared s)

/-- R202: after the restart a condition flag is set exactly where its condition holds. -/
theorem restartOp_conditions (order : List HandOff) {s : State} (hp : s.time.power ≠ .dormant)
    {f : Flag} (hf : f.kind = .condition) :
    flagSet (settle s (restartOp order s)) f = conditionHolds (settle s (restartOp order s)) f := by
  cases hc : conditionHolds (settle s (restartOp order s)) f
  · have hkept : flagBits (restartOp order s) f = flagBits (restartCleared s) f := by
      rcases (restartOp_restartKeeps order hp).flags f (by simp [hf]) with h | ⟨h, -⟩
      · exact h
      · simp [hf] at h
    have hclear : flagBits (restartCleared s) f = ⟨false, false⟩ := by
      rw [flagBits_of_flags (congrArg Link.flags restartCleared_link), linkRestart_flags]
    rw [conditionHolds_settle] at hc
    simp [flagSet, flagBits_settle, hc, hkept, hclear]
  · exact (flagsStand_iff _).mp (settle_settled s _).1 f hc

theorem restartOp_pins (order : List HandOff) {s : State} (hp : s.time.power ≠ .dormant) :
    (restartOp order s).pins = s.pins := by
  rw [(restartOp_restartKeeps order hp).pins]
  simp [restartCleared]

theorem restartOp_budget (order : List HandOff) {s : State} (hp : s.time.power ≠ .dormant) :
    (restartOp order s).table.budget = budgetNow (restartOp order s) := by
  have hkept : (restartOp order s).table.budget = (tableRestart (linkRestart s)).table.budget := by
    simp [restartOp]
  rw [hkept, (tableRestart_counts _).2.2]
  refine (budgetNow_congr ?_ ?_ (eventActive_of_pins ?_)).symm <;> simp [restartOp_pins order hp]

/-- Settles O60: the clearing, and what the steps after it keep of it. -/
theorem theRestartClearsAndKeeps : Obligations.TheRestartClearsAndKeeps := by
  intro s order hpending hreplies hp
  have hexec : exec (.restartPerform order) s = .next (settle s (restartOp order s)) := by
    simp [exec, execRestartPerform, perform_eq, restartDue, hpending, hreplies, hp]
  have hkeeps := restartOp_restartKeeps order hp
  obtain ⟨hlockout, hfault⟩ := restartOp_latches order hp
  obtain ⟨hhost, hsched⟩ := restartOp_modes order s
  obtain ⟨hslots, hstage, -⟩ := hkeeps.rested
  obtain ⟨hoverdraw, hclear, -⟩ := tableRestart_counts (linkRestart s)
  rw [← restartCleared_table] at hoverdraw hclear
  obtain ⟨hawning, hstep⟩ := restartCleared_tails (s := s)
  refine ⟨_, hexec, ?_, ?_, ?_, ?_, ?_, ?_, ?_, ?_, ?silence, ?_, ?_,
    fun f hf => restartOp_conditions order hp hf, fun h => flagBits_settle_of_raised (hlockout h),
    fun h => flagBits_settle_of_raised (hfault h), fun i => ?schedule, ?power, ?_, ?_, ?_, ?_, ?_,
    ?host, ?sched, ?_, ?_, ?_, ?_, ?_, ?_, fun ch hch => ?origins, fun i => ?slots, ?_, ?_,
    fun a _ j ho => ?stage, ?_, ?_, ?budget, fun ch => ?holds, ?_, ?_, ?_, ?_, ?_, ?pins, ?_, ?_, ?_,
    ?_⟩
  case silence =>
    have h : (settle s (restartOp order s)).link.silence = (restartCleared s).link.silence := by
      simp [restartOp_eq]
    rw [h, restartCleared_link]
    rfl
  case schedule =>
    have h : (settle s (restartOp order s)).time.schedule = (restartOp order s).time.schedule := by
      simp
    unfold entryAt
    rw [h, hkeeps.time, restartCleared_schedule]
    simp [SchedEntry.free]
  case power =>
    have h : (settle s (restartOp order s)).time.power = (restartOp order s).time.power := by simp
    rw [h, hkeeps.time, restartCleared_power]
  case host => simpa using hhost
  case sched => simpa using hsched
  case origins =>
    rw [settle_origins, hkeeps.origins ch (by rintro hc; fin_cases hc <;> revert hch <;> decide),
      restartCleared_origins]
  case slots =>
    have h : (settle s (restartOp order s)).motion = (restartOp order s).motion := by simp
    unfold slotAt at hslots ⊢
    rw [h]
    exact hslots i
  case stage =>
    have h : (settle s (restartOp order s)).drive = (restartOp order s).drive := by simp
    rw [h] at ho ⊢
    exact hstage a j ho
  case budget =>
    have h : (settle s (restartOp order s)).table = (restartOp order s).table := by simp
    rw [h, restartOp_budget order hp]
    refine (budgetNow_congr ?_ ?_ (eventActive_of_pins ?_)).symm <;> simp
  case holds =>
    have h : (settle s (restartOp order s)).table = (restartOp order s).table := by simp
    have hheld : overdrawHeld (restartCleared s) ch = false := by
      have := tableRestart_holds (linkRestart s) ch
      unfold overdrawHeld at this ⊢
      rwa [restartCleared_table]
    rw [h]
    exact hkeeps.holds ch hheld
  case pins => simpa using restartOp_pins order hp
  all_goals simp [restartOp_eq, restartCleared_link, linkRestart, attend, Link.hunting,
    hoverdraw, hclear, restartCleared_entryDue, hawning, hstep]

end Sys2Proof.Machine
end

section
/-! PROOFS. The firing of an entry (R180 to R183, R190): what an action leaves of the flags, the input events
and the power state, and what each action does by its own rule. -/

namespace Sys2Proof.Machine

/-! ## What an action leaves -/

/-- From `s` to `t`, beside the fields of `OnlyAction`: the flags but those of a completion and of a shed,
the input events, and the power state but for a wake. -/
structure Acted (s t : State) : Prop where
  flags : FlagsKeptBut [.moveDone, .moveFailed, .loadShed] s t
  active : ∀ e, eventActive t e = eventActive s e
  mapped : ∀ e, eventMapped t e = eventMapped s e
  power : t.time.power = s.time.power ∨ (asleep s = true ∧ t.time.power = .leaving)

namespace Acted
variable {s t u : State}

theorem trans (h : Acted s t) (k : Acted t u) : Acted s u where
  flags f hf := (k.flags f hf).trans (h.flags f hf)
  active e := (k.active e).trans (h.active e)
  mapped e := (k.mapped e).trans (h.mapped e)
  power := by
    rcases h.power with hp | ⟨hs, hp⟩ <;> rcases k.power with kp | ⟨kt, kp⟩
    · exact .inl (kp.trans hp)
    · exact .inr ⟨asleep_congr hp ▸ kt, kp⟩
    · exact .inr ⟨hs, kp.trans hp⟩
    · exact .inr ⟨hs, kp⟩

/-- An operation that does not touch the pins or the power state. -/
theorem of_flags (h : FlagsKeptBut [.moveDone, .moveFailed, .loadShed] s t) (hpins : t.pins = s.pins)
    (hpower : t.time.power = s.time.power) : Acted s t where
  flags := h
  active := eventActive_of_pins hpins
  mapped := eventMapped_of_pins hpins
  power := .inl hpower

theorem of_eq (hflags : t.link.flags = s.link.flags) (hpins : t.pins = s.pins)
    (hpower : t.time.power = s.time.power) : Acted s t :=
  .of_flags (fun f _ => flagBits_of_flags hflags f) hpins hpower

theorem of_same (h : SameDemands s t) (hpins : t.pins = s.pins)
    (hpower : t.time.power = s.time.power) : Acted s t :=
  .of_flags (fun f hf => h.flags f (by rintro rfl; simp at hf)) hpins hpower

theorem refl (s : State) : Acted s s := .of_eq rfl rfl rfl

end Acted

section
variable (s : State)

theorem reevaluate_acted (before : State) : Acted s (reevaluate before s) :=
  .of_same (reevaluate_same before s) (by simp) (by simp)

theorem reevaluateAlways_acted (before : State) : Acted s (reevaluateAlways before s) :=
  .of_same (reevaluateAlways_same before s) (by simp) (by simp)

theorem originEvent_acted (before : State) : Acted s (originEvent before s) :=
  .of_same (originEvent_same before s) (by simp) (by simp)

theorem setOrigins_acted (ch : Channel) (o : OriginSet) : Acted s (setOrigins s ch o) :=
  .of_eq (by simp) (by simp) (by simp)

theorem wake_acted : Acted s (wake s) where
  flags f _ := flagBits_of_flags (by simp) f
  active := eventActive_wake s
  mapped := eventMapped_wake s
  power := by
    rw [wake_power]
    cases h : asleep s
    · exact .inl rfl
    · exact .inr ⟨rfl, rfl⟩

/-- A wake leaves the heater its next conversion alone (R75, R190). -/
theorem wake_heater : (wake s).heater = { s.heater with cabinDue := (wake s).heater.cabinDue } := by
  unfold wake
  split <;> rfl

theorem heaterSettle_acted (before : State) : Acted s (heaterSettle before s) := by
  unfold heaterSettle
  split
  · exact (setOrigins_acted s _ _).trans (reevaluate_acted _ _)
  · exact (setOrigins_acted s _ _).trans (reevaluateAlways_acted _ _)

theorem setSchedMode_acted (m : HeatMode) : Acted s (setSchedMode m s) :=
  .trans (.of_eq (by simp) (by simp) (by simp)) (heaterSettle_acted _ _)

/-! ## The arbiter (R118, R129) -/

theorem raiseFlag_acted {g : Flag} (h : g ∈ [Flag.moveDone, .moveFailed, .loadShed]) :
    Acted s (raiseFlag s g) :=
  .of_flags (fun f hf => by rw [flagBits_raiseFlag, if_neg (by rintro rfl; exact hf h)])
    (by simp) (by simp)

theorem flagResult_acted (r : MotionResult) : Acted s (flagResult r s) := by
  unfold flagResult
  exact raiseFlag_acted s (by split <;> simp)

theorem finishMotion_acted (o : Owner) (r : MotionResult) : Acted s (finishMotion o r s) := by
  simp only [finishMotion]
  split
  · split
    · exact .trans (.of_eq (by simp) (by simp) (by simp)) (flagResult_acted _ r)
    · exact .of_eq (by simp) (by simp) (by simp)
  · exact .trans (.of_eq (by simp) (by simp) (by simp)) (flagResult_acted _ r)

theorem claim_acted (o : Owner) (k : Origin) : Acted s (claim o k s) :=
  .trans (.of_eq (by simp) (by simp) (by simp)) (reevaluate_acted _ _)

theorem takeClaimant_acted (o : Owner) : Acted s (takeClaimant o s) := by
  have hslot : ∀ (a : Actuator) (i : Fin 16), Acted s (takeSlot a i s) := fun a i => by
    simp only [takeSlot]
    split
    · exact .trans (.of_eq (by simp) (by simp) (by simp)) (finishMotion_acted _ _ _)
    · exact .trans (.of_eq (by simp) (by simp) (by simp)) (claim_acted _ _ _)
  have hoverride : ∀ a : Actuator, Acted s (takeOverride a s) := fun a => by
    unfold takeOverride
    split
    · exact finishMotion_acted _ _ _
    · exact .trans (.of_eq (by simp) (by simp) (by simp)) (claim_acted _ _ _)
  unfold takeClaimant
  split
  · exact .of_eq (by simp) (by simp) (by simp)
  · split
    · exact hslot _ _
    · exact hoverride _

theorem arbitrateN_acted (n : Nat) (s : State) : Acted s (arbitrateN n s) := by
  induction n generalizing s with
  | zero => exact .refl s
  | succ n ih =>
    unfold arbitrateN
    repeat' split
    · exact .refl s
    · exact (takeClaimant_acted s _).trans (ih _)
    · exact .refl s

theorem postMotion_acted (a : Actuator) (act : MoveAction) (target : Nat) (notify : Bool)
    (origin : MoveOrigin) : Acted s (postMotion a act target notify origin s).2.2 := by
  simp only [postMotion]
  repeat' split
  any_goals exact .refl s
  all_goals exact .trans (.of_eq (by simp) (by simp) (by simp)) ((wake_acted _).trans (arbitrateN_acted _ _))

/-! ## The actions (R180) -/

theorem loadDemandOp_acted (k : Origin) (channel level : Byte) :
    Acted s (loadDemandOp k channel level s).2 := by
  have hput : ∀ ch v, Acted s (originEvent s (putOrigin s ch k v)) := fun ch v =>
    (setOrigins_acted s ch _).trans (originEvent_acted _ s)
  simp only [loadDemandOp]
  repeat' split
  any_goals with_reducible exact Acted.refl s
  all_goals exact hput _ _

theorem sceneRecallOp_acted (number : Byte) : Acted s (sceneRecallOp number s).2 := by
  unfold sceneRecallOp
  split
  · exact .trans (.of_eq (by simp) (by simp) (by simp)) (originEvent_acted _ s)
  · exact .refl s

theorem runAction_acted (a : SchedAction) : Acted s (runAction a s).2 := by
  cases a with
  | load channel level => exact loadDemandOp_acted s _ _ _
  | heat code =>
    simp only [runAction, heatOp]
    repeat' split
    · exact .refl s
    · exact setSchedMode_acted s _
    · exact .refl s
  | scene number => exact sceneRecallOp_acted s number
  | move ring action target =>
    simp only [runAction, postCodes]
    split
    · exact postMotion_acted s _ _ _ _ _
    · exact .refl s
  | note => exact .refl s

end

/-! ## The firing (R180 to R182) -/

section
variable {s : State} {i : Fin 16} {act : SchedAction}

/-- An entry as its firing leaves it (R180, R182). -/
def firedEntry (s : State) (i : Fin 16) (act : SchedAction) : SchedEntry :=
  SchedEntry.reschedule s.now { entryAt s i with outcome := some (runAction act s).1 }

/-- The state of a firing before the wake. -/
def firedBefore (s : State) (i : Fin 16) (act : SchedAction) : State :=
  let t := setEntry (runAction act s).2 i (firedEntry s i act)
  if (entryAt s i).notify then raiseFlag t .schedFired else t

theorem entryAt_of_schedule {s t : State} (h : t.time.schedule = s.time.schedule) (i : Fin 16) :
    entryAt t i = entryAt s i := by
  unfold entryAt
  rw [h]

theorem entryAt_setEntry (s : State) (i j : Fin 16) (e : SchedEntry) :
    entryAt (setEntry s i e) j = if i = j then e else entryAt s j :=
  vput_get _ _ _ _

theorem fireEntry_eq (h : (entryAt s i).action = some act) :
    fireEntry i s = wake (firedBefore s i act) := by
  have hentry : entryAt (runAction act s).2 i = entryAt s i := entryAt_of_schedule (by simp) i
  unfold fireEntry firedBefore firedEntry
  rw [h]
  simp only [hentry]

theorem fireEntry_entry (h : (entryAt s i).action = some act) (j : Fin 16) :
    entryAt (fireEntry i s) j = if i = j then firedEntry s i act else entryAt s j := by
  have hfired : (fireEntry i s).time.schedule =
      (setEntry (runAction act s).2 i (firedEntry s i act)).time.schedule := by
    rw [fireEntry_eq h]
    unfold firedBefore
    split <;> simp
  rw [entryAt_of_schedule hfired, entryAt_setEntry, entryAt_of_schedule (s := s) (by simp)]

theorem firedBefore_flags (f : Flag) :
    flagBits (firedBefore s i act) f =
      if f = .schedFired ∧ (entryAt s i).notify = true then ⟨true, true⟩
      else flagBits (runAction act s).2 f := by
  have hkept : ∀ e, flagBits (setEntry (runAction act s).2 i e) f = flagBits (runAction act s).2 f :=
    fun e => flagBits_of_flags (by simp) f
  simp only [firedBefore]
  by_cases hn : (entryAt s i).notify = true
  · rw [if_pos hn, flagBits_raiseFlag, hkept]
    simp [hn, eq_comm]
  · rw [if_neg hn, hkept, if_neg (fun h => hn h.2)]

theorem fireEntry_flags (h : (entryAt s i).action = some act) (f : Flag) :
    flagBits (fireEntry i s) f =
      if f = .schedFired ∧ (entryAt s i).notify = true then ⟨true, true⟩
      else flagBits (runAction act s).2 f := by
  rw [fireEntry_eq h, flagBits_of_flags (s := firedBefore s i act) (by simp), firedBefore_flags]

theorem firedBefore_pins :
    (firedBefore s i act).pins = (runAction act s).2.pins ∧
      (firedBefore s i act).time.power = (runAction act s).2.time.power := by
  simp only [firedBefore]
  split <;> simp

theorem fireEntry_active (h : (entryAt s i).action = some act) (e : InputEvent) :
    eventActive (fireEntry i s) e = eventActive s e := by
  rw [fireEntry_eq h, eventActive_wake, eventActive_of_pins firedBefore_pins.1,
    (runAction_acted s act).active]

theorem fireEntry_mapped (h : (entryAt s i).action = some act) (e : InputEvent) :
    eventMapped (fireEntry i s) e = eventMapped s e := by
  rw [fireEntry_eq h, eventMapped_wake, eventMapped_of_pins firedBefore_pins.1,
    (runAction_acted s act).mapped]

theorem fireEntry_power (h : (entryAt s i).action = some act) :
    (fireEntry i s).time.power = if asleep s then .leaving else s.time.power := by
  rw [fireEntry_eq h, wake_power, firedBefore_pins.2, asleep_congr firedBefore_pins.2]
  rcases (runAction_acted s act).power with hp | ⟨hs, hp⟩
  · rw [asleep_congr hp, hp]
  · rw [hs, hp]
    split <;> rfl

theorem fireEntry_conditions (h : (entryAt s i).action = some act) (f : Flag) :
    conditionHolds (fireEntry i s) f = conditionHolds s f := by
  refine conditionHolds_of_units ?_ (fireEntry_active h) (fireEntry_mapped h) ?_ ?_ ?_ ?_ ?_ ?_ ?_ ?_ f <;>
    simp

/-- What the firing leaves as its action has it. -/
theorem fireEntry_of_action (h : (entryAt s i).action = some act) :
    (fireEntry i s).table = (runAction act s).2.table ∧
      (fireEntry i s).motion = (runAction act s).2.motion ∧
      (fireEntry i s).drive = (runAction act s).2.drive ∧
      (fireEntry i s).lamps = (runAction act s).2.lamps ∧
      (fireEntry i s).heater =
        { (runAction act s).2.heater with cabinDue := (fireEntry i s).heater.cabinDue } := by
  have hbefore : (firedBefore s i act).table = (runAction act s).2.table ∧
      (firedBefore s i act).motion = (runAction act s).2.motion ∧
      (firedBefore s i act).drive = (runAction act s).2.drive ∧
      (firedBefore s i act).lamps = (runAction act s).2.lamps ∧
      (firedBefore s i act).heater = (runAction act s).2.heater := by
    simp only [firedBefore]
    split <;> simp
  obtain ⟨htable, hmotion, hdrive, hlamps, hheater⟩ := hbefore
  rw [fireEntry_eq h]
  refine ⟨?_, ?_, ?_, ?_, ?_⟩
  · simpa using htable
  · simpa using hmotion
  · simpa using hdrive
  · simpa using hlamps
  · rw [wake_heater, hheater]

/-- SCHEDULE_FIRE of an entry that is the next to fire. -/
theorem exec_scheduleFire (harmed : (entryAt s i).state = .armed)
    (hdue : dueReached s.now (entryAt s i).due = true)
    (hlower : ∀ j, j < i → (entryAt s j).state = .armed → dueReached s.now (entryAt s j).due = false) :
    exec (.scheduleFire i) s = .next (settle s (fireEntry i s)) := by
  have hnext : firesNext s i = true := by
    simp only [firesNext, entryReached, harmed, hdue, decide_true, Bool.and_self, Bool.true_and,
      Bool.not_eq_true', List.any_eq_false, List.mem_finRange, forall_true_left, Bool.and_eq_true,
      decide_eq_true_eq, not_and, Bool.not_eq_true]
    exact fun j hj hs => hlower j hj hs
  simp [exec, execScheduleFire, perform_eq, hnext]

end

/-- Settles the first part of O55: what every firing leaves. -/
theorem anEntryFires_frame {s : State} {i : Fin 16} {act : SchedAction}
    (hact : (entryAt s i).action = some act) (hs : Settled s) {t : State}
    (ht : t = settle s (fireEntry i s)) :
    entryAt t i = firedEntry s i act ∧ (∀ j, j ≠ i → entryAt t j = entryAt s j) ∧
      ((entryAt s i).notify = true → flagBits t .schedFired = ⟨true, true⟩) ∧
      ((entryAt s i).notify = false → flagBits t .schedFired = flagBits s .schedFired) ∧
      t.time.power = (if asleep s then .leaving else s.time.power) ∧
      (∀ ch, origins t ch = origins (runAction act s).2 ch) ∧
      t.motion = (runAction act s).2.motion ∧
      t.heater.schedMode = (runAction act s).2.heater.schedMode ∧
      t.time.tick = s.time.tick ∧ t.meter = s.meter ∧ t.params = s.params ∧
      t.wind = s.wind ∧ t.act.posMs = s.act.posMs ∧ t.act.stepMs = s.act.stepMs ∧
      t.link.inbox = s.link.inbox ∧ t.link.replies = s.link.replies ∧ t.pending = s.pending ∧
      FlagsKeptBut [.schedFired, .moveDone, .moveFailed, .loadShed] s t := by
  obtain ⟨htable, hmotion, -, -, hheater⟩ := fireEntry_of_action hact
  have hacted := runAction_acted s act
  have hconditions := fireEntry_conditions hact
  have hentry : ∀ j, entryAt t j = if i = j then firedEntry s i act else entryAt s j := fun j => by
    rw [ht, ← fireEntry_entry hact]
    exact entryAt_of_schedule (by simp) j
  have hbits : ∀ f, flagBits t f = flagBits (settle s (fireEntry i s)) f := fun f => by rw [ht]
  refine ⟨by rw [hentry, if_pos rfl], fun j hj => by rw [hentry, if_neg (Ne.symm hj)],
    fun hn => ?raised, fun hn => ?kept, ?power, fun ch => ?origins, ?_, ?schedMode, ?_, ?_, ?_, ?_, ?_,
    ?_, ?_, ?_, ?_, fun f hf => ?flags⟩
  case raised =>
    rw [hbits, flagBits_settle_of_raised (by rw [fireEntry_flags hact, if_pos ⟨rfl, hn⟩])]
  case kept =>
    rw [hbits]
    refine flagBits_settle_of_kept hs.1 (hconditions _) ?_
    rw [fireEntry_flags hact, if_neg (by simp [hn]), hacted.flags _ (by decide)]
  case power => simpa [ht] using fireEntry_power hact
  case origins =>
    rw [ht, settle_origins]
    unfold origins
    rw [htable]
  case schedMode =>
    have hmode : (fireEntry i s).heater.schedMode = (runAction act s).2.heater.schedMode := by
      rw [hheater]
    simpa [ht] using hmode
  case flags =>
    simp only [List.mem_cons, List.not_mem_nil, or_false, not_or] at hf
    rw [hbits]
    refine flagBits_settle_of_kept hs.1 (hconditions f) ?_
    rw [fireEntry_flags hact, if_neg (fun h => hf.1 h.1), hacted.flags f (by simp [hf])]
  all_goals simp [ht, hmotion]

/-! ## What each action does (R48, R64, R73, R122) -/

theorem firedEntry_outcome (s : State) (i : Fin 16) (act : SchedAction) :
    (firedEntry s i act).outcome = some (runAction act s).1 := by
  unfold firedEntry SchedEntry.reschedule
  split
  · rfl
  · split <;> rfl

/-- The SCHEDULE mode: the modes, and the origins of every other record (R73, R74). -/
theorem setSchedMode_heater (m : HeatMode) (s : State) :
    (setSchedMode m s).heater.schedMode = m ∧
      (setSchedMode m s).heater.effective =
        (requestedMode (setSchedMode m s).heater).inf (ceilingOf s.meter.band) := by
  refine ⟨by simp [setSchedMode, heaterFollow], ?_⟩
  have hmode : requestedMode (setSchedMode m s).heater = requestedMode { s.heater with schedMode := m } := by
    simp [requestedMode, setSchedMode, heaterFollow]
  rw [hmode]
  simp [setSchedMode, heaterFollow, heaterRecompute, requestedMode]
  rfl

theorem setSchedMode_handedOn (m : HeatMode) (s : State) : HandedOn s (setSchedMode m s) := by
  unfold setSchedMode heaterFollow
  refine .trans (.of_same (.of_eq ?_ ?_) ?_ ?_) (heaterSettle_handedOn _ _) <;> simp

theorem heatMode_ofCode {code : Byte} {m : HeatMode} (h : code.toNat = m.code) :
    HeatMode.ofCode code = some m := by
  cases m <;> simp [HeatMode.ofCode, h, HeatMode.code]

section
variable {set : HeatMode → State → State} {code : Byte} {s : State}

theorem heatOp_mode {m : HeatMode} (h : code.toNat = m.code) :
    heatOp set code s = (.accepted, set m s) := by
  have h255 : code.toNat ≠ 255 := by rw [h]; cases m <;> decide
  unfold heatOp
  rw [if_neg h255, heatMode_ofCode h]

theorem heatOp_unchanged (h : code.toNat = 255) : heatOp set code s = (.accepted, s) := by
  unfold heatOp
  rw [if_pos h]

theorem heatOp_range (h : 4 ≤ code.toNat) (h255 : code.toNat ≠ 255) :
    heatOp set code s = (.range, s) := by
  have hcode : HeatMode.ofCode code = none := by
    unfold HeatMode.ofCode
    repeat rw [if_neg (by omega)]
  unfold heatOp
  rw [if_neg h255, hcode]

end

theorem heatAction_origins (code : Byte) (s : State) :
    OriginsKeptBut [chHeater] s (heatOp setSchedMode code s).2 := by
  intro ch hch
  unfold heatOp
  repeat' split
  · rfl
  · exact (setSchedMode_handedOn _ s).origins ch (by simpa using hch)
  · rfl

/-- What a recall makes of a lamp's origins (R64). -/
def recalledOrigins (entry : Option Nat) (o : OriginSet) : OriginSet :=
  match entry with
  | none => o
  | some l => { o with scene := if l = 0 then none else some l }

theorem recallEntry_origins (scene : Vector (Option Nat) 6) (s : State) (i : Fin 6) (ch : Channel) :
    origins (recallEntry scene s i) ch =
      if ch = chLamp i then recalledOrigins scene[i] (origins s ch) else origins s ch := by
  unfold recallEntry recalledOrigins
  split
  · next h => simp [h]
  · next l h =>
    rw [origins_putOrigin]
    simp only [h, eq_comm]
    split
    · next heq => subst heq; rfl
    · rfl

theorem recall_origins (scene : Vector (Option Nat) 6) (l : List (Fin 6)) (s : State) (j : Fin 6) :
    origins (l.foldl (recallEntry scene) s) (chLamp j) =
      if j ∈ l then recalledOrigins scene[j] (origins s (chLamp j)) else origins s (chLamp j) := by
  have hinj : ∀ i : Fin 6, chLamp j = chLamp i ↔ j = i := fun i => by simp [chLamp, Fin.ext_iff]
  have htwice : ∀ o, recalledOrigins scene[j] (recalledOrigins scene[j] o) = recalledOrigins scene[j] o :=
    fun o => by unfold recalledOrigins; split <;> rfl
  induction l generalizing s with
  | nil => simp
  | cons i l ih =>
    have hrecall := recallEntry_origins scene s i (chLamp j)
    simp only [hinj] at hrecall
    rw [List.foldl_cons, ih, hrecall]
    by_cases hji : j = i
    · subst hji
      rw [if_pos rfl, htwice, ite_self, if_pos (by simp)]
    · simp [hji]

theorem recall_origins_other (scene : Vector (Option Nat) 6) (l : List (Fin 6)) (s : State)
    {ch : Channel} (h : ch ∉ allLamps.map chLamp) :
    origins (l.foldl (recallEntry scene) s) ch = origins s ch :=
  foldl_keeps (fun t : State => origins t ch = origins s ch) _ l s rfl fun t i ht => by
    rw [recallEntry_origins, if_neg (fun heq => h (by simp [heq, allLamps])), ht]

theorem sceneRecallOp_range {number : Byte} (h : 4 ≤ number.toNat) (s : State) :
    sceneRecallOp number s = (.range, s) := by
  unfold sceneRecallOp
  rw [dif_neg (by omega)]

/-- R64: a recall sets or withdraws SCENE of the lamps that the scene has an entry for. -/
theorem sceneRecallOp_recalls {number : Byte} {k : Fin 4} (h : number.toNat = k.val) (s : State) :
    (sceneRecallOp number s).1 = .accepted ∧
      (∀ j : Fin 6, origins (sceneRecallOp number s).2 (chLamp j) =
        recalledOrigins s.lamps.scenes[k][j] (origins s (chLamp j))) ∧
      OriginsKeptBut (allLamps.map chLamp) s (sceneRecallOp number s).2 := by
  have hlt : number.toNat < 4 := h ▸ k.isLt
  have hscene : s.lamps.scenes[number.toNat] = s.lamps.scenes[k] := by simp [h]
  have hop : sceneRecallOp number s =
      (.accepted, originEvent s (allLamps.foldl (recallEntry s.lamps.scenes[k]) s)) := by
    unfold sceneRecallOp
    rw [dif_pos hlt, hscene]
  rw [hop]
  refine ⟨rfl, fun j => ?_, fun ch hch => ?_⟩
  · simp only
    rw [(originEvent_same _ _).get, recall_origins, if_pos (by simp [allLamps])]
  · simp only
    rw [(originEvent_same _ _).get, recall_origins_other _ _ _ hch]

/-! ## A posted motion under the arbiter (R118, R122, R129) -/

theorem slotAt_setSlot (s : State) (i j : Fin 16) (x : Slot) :
    slotAt (setSlot s i x) j = if i = j then x else slotAt s j :=
  vput_get _ _ _ _

theorem slotAt_of_motion {s t : State} (h : t.motion.slots = s.motion.slots) (i : Fin 16) :
    slotAt t i = slotAt s i := by
  unfold slotAt
  rw [h]

/-- A slot that holds the motion `x`, waiting, active or complete. -/
def HoldsPost (i : Fin 16) (x : Slot) (s : State) : Prop :=
  (slotAt s i).state ≠ .free ∧
    { slotAt s i with state := x.state, result := x.result } = x

section
variable {i : Fin 16} {x : Slot} {s : State} (h : HoldsPost i x s)
include h

theorem HoldsPost.of_slots {t : State} (hm : t.motion.slots = s.motion.slots) : HoldsPost i x t := by
  unfold HoldsPost at h ⊢
  rwa [slotAt_of_motion hm]

/-- A change of the state or the result of a slot, which does not free it. -/
theorem HoldsPost.setSlot (j : Fin 16) {st : SlotState} (hst : st ≠ .free) (r : Option MotionResult) :
    HoldsPost i x (setSlot s j { slotAt s j with state := st, result := r }) := by
  obtain ⟨hfree, hx⟩ := h
  unfold HoldsPost
  rw [slotAt_setSlot]
  split
  · next hji => subst hji; exact ⟨hst, hx⟩
  · exact ⟨hfree, hx⟩

theorem finishMotion_holdsPost (o : Owner) (r : MotionResult) : HoldsPost i x (finishMotion o r s) := by
  simp only [finishMotion]
  split
  · next j _ =>
    have hend := h.setSlot j (st := .complete) (by simp) (some r)
    exact ite_keeps (HoldsPost i x) _ _ _ (hend.of_slots (by simp)) hend
  · exact h.of_slots (by simp)

theorem claim_holdsPost (o : Owner) (k : Origin) : HoldsPost i x (claim o k s) :=
  h.of_slots (by simp)

theorem takeClaimant_holdsPost (o : Owner) : HoldsPost i x (takeClaimant o s) := by
  unfold takeClaimant
  split
  · exact h.of_slots (by simp)
  · split
    · next j _ =>
      have hserved : HoldsPost i x (s.setDrive { s.drive with lastServed := o.actuator }) := h
      simp only [takeSlot]
      split
      · exact finishMotion_holdsPost hserved _ _
      · exact claim_holdsPost (hserved.setSlot j (st := .active) (by simp) _) _ _
    · unfold takeOverride
      split
      · exact finishMotion_holdsPost h _ _
      · exact h.of_slots (by simp)

omit h in
theorem arbitrateN_holdsPost (n : Nat) (h : HoldsPost i x s) : HoldsPost i x (arbitrateN n s) := by
  induction n generalizing s with
  | zero => exact h
  | succ n ih =>
    unfold arbitrateN
    repeat' split
    · exact h
    · exact ih (takeClaimant_holdsPost h _)
    · exact h

end

/-! ## A post (R122) -/

section
variable {s : State} {a : Actuator} {act : MoveAction} {target : Nat} {notify : Bool} {origin : MoveOrigin}

/-- What the post needs of the action and the target (R122). -/
def TargetFits (a : Actuator) (act : MoveAction) (target : Nat) : Prop :=
  act = .moveTo → a = .awning ∧ target ≤ 1000

theorem postMotion_range (h : ¬ TargetFits a act target) :
    postMotion a act target notify origin s = (.range, none, s) := by
  unfold TargetFits at h
  push Not at h
  unfold postMotion
  obtain ⟨hact, h⟩ := h
  rw [if_pos]
  cases a <;> simp_all

theorem targetFits_judged (h : TargetFits a act target) :
    (decide (act = .moveTo) && (decide (a = .step) || decide (1000 < target))) = false := by
  cases a <;> simp_all [TargetFits]

theorem postMotion_estop (h : TargetFits a act target) (he : eventActive s .estop = true) :
    postMotion a act target notify origin s = (.estop, none, s) := by
  unfold postMotion
  simp only [targetFits_judged h, he]
  rfl

theorem holdsMotion_of_not_ringTakes (he : eventActive s .estop = false) (h : ¬ RingTakes a s) :
    (slotAt s (nextSlot s a (tailOf s a))).holdsMotion = true := by
  unfold Slot.holdsMotion
  cases hx : (slotAt s (nextSlot s a (tailOf s a))).state <;> simp_all [RingTakes]

theorem postMotion_full (h : TargetFits a act target) (he : eventActive s .estop = false)
    (hr : ¬ RingTakes a s) : postMotion a act target notify origin s = (.full, none, s) := by
  unfold postMotion
  simp only [targetFits_judged h, he, holdsMotion_of_not_ringTakes he hr]
  rfl

theorem tailOf_of_tails {s t : State} (hstep : t.motion.stepTail = s.motion.stepTail)
    (hawning : t.motion.awningTail = s.motion.awningTail) (a : Actuator) : tailOf t a = tailOf s a := by
  cases a
  · exact hstep
  · exact hawning

theorem tailOf_setTail (s : State) (a : Actuator) (i : Fin 16) :
    tailOf (setTail s a i) a = i ∧
      tailOf (setTail s a i) (otherActuator a) = tailOf s (otherActuator a) := by
  cases a <;> exact ⟨rfl, rfl⟩

/-- A motion put into a slot that becomes the tail stays there under the arbiter. -/
theorem arbitrate_posted (i : Fin 16) (x : Slot) (hx : x.state ≠ .free) :
    let t := arbitrate (wake (setTail (setSlot s i x) a i))
    HoldsPost i x t ∧ tailOf t a = i ∧ tailOf t (otherActuator a) = tailOf s (otherActuator a) := by
  intro t
  have hslots : (wake (setTail (setSlot s i x) a i)).motion.slots = (setSlot s i x).motion.slots := by simp
  have hslot : HoldsPost i x (setSlot s i x) := by
    unfold HoldsPost
    rw [slotAt_setSlot, if_pos rfl]
    exact ⟨hx, rfl⟩
  have htails : ∀ b, tailOf t b = tailOf (setTail (setSlot s i x) a i) b :=
    tailOf_of_tails (by simp [t]) (by simp [t])
  have hother : tailOf (setSlot s i x) (otherActuator a) = tailOf s (otherActuator a) :=
    tailOf_of_tails (by simp) (by simp) _
  obtain ⟨hown, hkept⟩ := tailOf_setTail (setSlot s i x) a i
  exact ⟨arbitrateN_holdsPost _ (hslot.of_slots hslots), (htails _).trans hown,
    (htails _).trans (hkept.trans hother)⟩

theorem postMotion_posted (h : TargetFits a act target) (hr : RingTakes a s) :
    (postMotion a act target notify origin s).1 = .accepted ∧
      Posted a act (if act = .moveTo then some target else none) notify origin s
        (postMotion a act target notify origin s).2.2 := by
  obtain ⟨he, hfree⟩ := hr
  have hholds : (slotAt s (nextSlot s a (tailOf s a))).holdsMotion = false := by
    unfold Slot.holdsMotion
    rcases hfree with hx | hx <;> simp [hx]
  unfold postMotion
  simp only [targetFits_judged h, he, hholds, Bool.false_eq_true, if_false]
  obtain ⟨⟨hstate, hslot⟩, htail, hother⟩ := arbitrate_posted (s := s) (a := a)
    (nextSlot s a (tailOf s a))
    { state := .ready
      action := act
      target := if act = .moveTo then some target else none
      notify := notify
      origin := origin
      result := none
      retries := 0
      runTime := 0 } (by simp)
  generalize arbitrate (wake _) = t at hstate hslot htail hother ⊢
  rw [Slot.mk.injEq] at hslot
  obtain ⟨-, haction, htarget, hnotify, horigin, -, hretries, hrunTime⟩ := hslot
  exact ⟨trivial, htail, hother, hstate, haction, htarget, hnotify, horigin, hretries, hrunTime⟩

end

theorem actuator_ofCode {b : Byte} {a : Actuator} (h : b.toNat = a.code) : Actuator.ofCode b = some a := by
  cases a <;> simp [Actuator.ofCode, h, Actuator.code]

theorem moveAction_ofCode {b : Byte} {m : MoveAction} (h : b.toNat = m.code) :
    MoveAction.ofCode b = some m := by
  cases m <;> simp [MoveAction.ofCode, h, MoveAction.code]

section
variable {ring action : Byte} {target : Nat} {notify : Bool} {origin : MoveOrigin} {s : State}

theorem postCodes_known {a : Actuator} {m : MoveAction} (hr : ring.toNat = a.code)
    (hm : action.toNat = m.code) :
    postCodes ring action target (some notify) origin s = postMotion a m target notify origin s := by
  simp only [postCodes, actuator_ofCode hr, moveAction_ofCode hm]

theorem postCodes_range
    (h : 1 < ring.toNat ∨ 2 < action.toNat ∨ (action.toNat = 2 ∧ (ring.toNat = 0 ∨ 1000 < target))) :
    postCodes ring action target (some notify) origin s = (.range, none, s) := by
  unfold postCodes
  split
  · next a m n ha hm hn =>
    unfold Actuator.ofCode at ha
    unfold MoveAction.ofCode at hm
    refine postMotion_range fun hfit => ?_
    unfold TargetFits at hfit
    split_ifs at ha hm <;> simp_all
    omega
  · rfl

/-- A post is in the rings alone (R122). -/
theorem Posted.of_motion {t u : State} {a : Actuator} {act : MoveAction} {target : Option Nat}
    (hm : t.motion = u.motion) (h : Posted a act target notify origin s u) :
    Posted a act target notify origin s t := by
  have hslot : ∀ j, slotAt t j = slotAt u j := slotAt_of_motion (by rw [hm])
  have htail : ∀ b, tailOf t b = tailOf u b := tailOf_of_tails (by rw [hm]) (by rw [hm])
  unfold Posted at h ⊢
  simpa only [hslot, htail] using h

end

/-! ## The firing of each action -/

section
variable {s t : State} {i : Fin 16}

/-- Of a LOAD action that gives or withdraws SCHEDULE. -/
theorem fired_load {channel level : Byte} {ch : Channel} {r : Result} {v : Option Nat}
    (hout : (entryAt t i).outcome = some (runAction (.load channel level) s).1)
    (horigins : ∀ c, origins t c = origins (runAction (.load channel level) s).2 c)
    (hop : loadDemandOp .schedule channel level s =
      (r, originEvent s (putOrigin s ch .schedule v))) :
    (entryAt t i).outcome = some r ∧ origins t ch = { origins s ch with schedule := v } ∧
      OriginsKeptBut [ch] s t := by
  obtain ⟨-, hown, hothers, -⟩ := originEvent_putOrigin s ch .schedule v
  have hrun : runAction (.load channel level) s = _ := hop
  rw [hrun] at hout horigins
  exact ⟨hout, (horigins ch).trans hown, fun c hc => (horigins c).trans (hothers c hc)⟩

/-- Of an action that is refused. -/
theorem fired_refused {act : SchedAction} {r : Result}
    (hout : (entryAt t i).outcome = some (runAction act s).1)
    (horigins : ∀ c, origins t c = origins (runAction act s).2 c) (hop : runAction act s = (r, s)) :
    (entryAt t i).outcome = some r ∧ OriginsKeptBut [] s t := by
  rw [hop] at hout horigins
  exact ⟨hout, fun c _ => horigins c⟩

end

/-- Settles O55: the frame of a firing, and each action by the lemma about its rule. -/
theorem anEntryFires : Obligations.AnEntryFires := by
  refine ⟨fun s i act harmed hdue hact hlower hs => ⟨_, exec_scheduleFire harmed hdue hlower,
    anEntryFires_frame hact hs rfl⟩, fun s i act harmed hdue hact hlower hs => ?_⟩
  refine ⟨_, exec_scheduleFire harmed hdue hlower, ?_⟩
  obtain ⟨hentry, -, -, -, -, horigins, hmotion, hsched, -⟩ := anEntryFires_frame hact hs rfl
  obtain ⟨htable, -, hdrive, hlamps, hheater⟩ := fireEntry_of_action hact
  have hout := congrArg SchedEntry.outcome hentry
  rw [firedEntry_outcome] at hout
  have hsettled : (settle s (fireEntry i s)).heater = (fireEntry i s).heater ∧
      (settle s (fireEntry i s)).table = (fireEntry i s).table ∧
      (settle s (fireEntry i s)).drive = (fireEntry i s).drive ∧
      (settle s (fireEntry i s)).lamps = (fireEntry i s).lamps ∧
      (settle s (fireEntry i s)).heater.hostMode = s.heater.hostMode := by simp
  obtain ⟨hth, htt, htd, htl, hhost⟩ := hsettled
  rw [← hth] at hheater
  rw [← htt] at htable
  rw [← htd] at hdrive
  rw [← htl] at hlamps
  generalize settle s (fireEntry i s) = t at *
  cases act with
  | load channel level =>
    refine ⟨fun ch hc hch => fired_load hout horigins (loadDemandOp_level .schedule hch hc),
      fun hc hguard => fired_load hout horigins (loadDemandOp_pump .schedule hc hguard),
      fun hc h0 hguard => fired_refused hout horigins (loadDemandOp_guarded .schedule hc h0 hguard),
      fun hc => fired_refused hout horigins (loadDemandOp_range .schedule hc)⟩
  | heat code =>
    refine ⟨hhost, fun ch hch => (horigins ch).trans (heatAction_origins code s ch hch),
      fun m _ hm => ?mode, fun h255 => ?unchanged, fun h4 h255 => ?refused⟩
    case mode =>
      have hrun : runAction (.heat code) s = (.accepted, setSchedMode m s) := heatOp_mode hm
      obtain ⟨hmode, heffective⟩ := setSchedMode_heater m s
      rw [hrun] at hout hsched hheater
      refine ⟨hout, hsched.trans hmode, ?_⟩
      rw [hheater]
      exact heffective
    case unchanged =>
      have hrun : runAction (.heat code) s = (.accepted, s) := heatOp_unchanged h255
      rw [hrun] at hout hsched
      exact ⟨hout, hsched⟩
    case refused =>
      have hrun : runAction (.heat code) s = (.range, s) := heatOp_range h4 h255
      rw [hrun] at hout hsched
      exact ⟨hout, hsched⟩
  | scene number =>
    refine ⟨fun k hk => ?_, fun hn => fired_refused hout horigins (sceneRecallOp_range hn s)⟩
    obtain ⟨haccepted, hlamp, hothers⟩ := sceneRecallOp_recalls hk s
    refine ⟨hout.trans (congrArg some haccepted), fun j => ?_,
      fun ch hch => (horigins ch).trans (hothers ch hch)⟩
    exact (horigins _).trans (hlamp j)
  | move ring action target =>
    refine ⟨fun a _ m _ hr hm hfit => ?known, fun hrange => ?refused⟩
    case known =>
      have hrun : runAction (.move ring action target) s = _ :=
        congrArg (fun r => (r.1, r.2.2))
          (postCodes_known (notify := true) (origin := .schedule) (target := target) (s := s) hr hm)
      rw [hrun] at hout hmotion
      refine ⟨fun htakes => ?posted, fun he => ?estop, fun he hfull => ?full⟩
      case posted =>
        obtain ⟨haccepted, hposted⟩ := postMotion_posted (notify := true) (origin := .schedule) hfit htakes
        exact ⟨hout.trans (congrArg some haccepted), hposted.of_motion hmotion⟩
      case estop =>
        rw [postMotion_estop hfit he] at hout hmotion
        exact ⟨hout, hmotion⟩
      case full =>
        rw [postMotion_full hfit he hfull] at hout hmotion
        exact ⟨hout, hmotion⟩
    case refused =>
      have hrun : runAction (.move ring action target) s = _ :=
        congrArg (fun r => (r.1, r.2.2))
          (postCodes_range (notify := true) (origin := .schedule) (s := s) hrange)
      rw [hrun] at hout hmotion
      exact ⟨hout, hmotion⟩
  | note => exact ⟨hout, htable, hmotion, hdrive, hlamps, hheater⟩

end Sys2Proof.Machine
end

section
/-! PROOFS. TIME_SET (R177, R183): the instants through the close of the interval and the firings, the
entries that a time set leaves ARMED, and the whole state after a time set that meters and fires nothing. -/

namespace Sys2Proof.Machine

/-! ## The conversions' instants outside DORMANT (R90, R190) -/

/-- `t` is not DORMANT and has the instants of the conversions as `s` has them: only a wake from DORMANT
moves them. -/
structure ConversionsStand (s t : State) : Prop where
  awake : t.time.power ≠ .dormant
  senders : t.tanks.senderDue = s.tanks.senderDue
  temperatures : t.tanks.tempDue = s.tanks.tempDue
  cabin : t.heater.cabinDue = s.heater.cabinDue

namespace ConversionsStand
variable {s t u : State}

theorem congr (h : ConversionsStand s t) (hp : u.time.power = t.time.power)
    (hs : u.tanks.senderDue = t.tanks.senderDue) (ht : u.tanks.tempDue = t.tanks.tempDue)
    (hc : u.heater.cabinDue = t.heater.cabinDue) : ConversionsStand s u where
  awake := hp ▸ h.awake
  senders := hs.trans h.senders
  temperatures := ht.trans h.temperatures
  cabin := hc.trans h.cabin

theorem wake (h : ConversionsStand s t) : ConversionsStand s (wake t) := by
  have hp := h.awake
  have hkept : (Machine.wake t).tanks = t.tanks ∧ (Machine.wake t).heater = t.heater ∧
      (Machine.wake t).time.power ≠ .dormant := by
    unfold Machine.wake
    split <;> simp_all
  obtain ⟨htanks, hheater, hpower⟩ := hkept
  exact ⟨hpower, by rw [htanks, h.senders], by rw [htanks, h.temperatures], by rw [hheater, h.cabin]⟩

theorem closeInterval (h : ConversionsStand s t) (temp : Int) (order : List HandOff) (start : Tick) :
    ConversionsStand s (closeInterval temp order start t) := by
  simp only [Machine.closeInterval]
  split
  · exact h.congr rfl rfl rfl rfl
  · rw [meterHandOffs_eq]
    refine inOrder_keeps (ConversionsStand s) order _ _ (h.congr ?_ ?_ ?_ ?_) ?_
    · simp
    · simp
    · simp
    · simp
    · exact mem_meterActs (P := fun f => ∀ t, ConversionsStand s t → ConversionsStand s (f t))
        (fun t ht => ht.congr (by simp) (by simp) (by simp) (by simp)) fun _ =>
        ⟨fun t ht => ht.congr (by simp) (by simp) (by simp) (by simp),
          fun t ht => ht.congr (by simp) (by simp) (by simp) (by simp),
          fun t ht => ht.congr (by simp) (by simp) (by simp) (by simp), fun t ht => ht.wake⟩

theorem arbitrate (h : ConversionsStand s t) : ConversionsStand s (arbitrate t) :=
  h.congr (by simp) (by simp) (by simp) (by simp)

theorem postMotion (h : ConversionsStand s t) (a : Actuator) (act : MoveAction) (target : Nat)
    (notify : Bool) (origin : MoveOrigin) :
    ConversionsStand s (postMotion a act target notify origin t).2.2 := by
  simp only [Machine.postMotion]
  repeat' split
  any_goals exact h
  all_goals refine arbitrate (wake (h.congr ?_ ?_ ?_ ?_)) <;> simp

theorem runAction (h : ConversionsStand s t) (a : SchedAction) :
    ConversionsStand s (runAction a t).2 := by
  cases a with
  | load channel level => refine h.congr ?_ ?_ ?_ ?_ <;> simp [Machine.runAction]
  | heat code => refine h.congr ?_ ?_ ?_ ?_ <;> simp [Machine.runAction]
  | scene number => refine h.congr ?_ ?_ ?_ ?_ <;> simp [Machine.runAction]
  | move ring action target =>
    simp only [Machine.runAction, postCodes]
    split
    · exact h.postMotion _ _ _ _ _
    · exact h
  | note => exact h

theorem fireEntry (h : ConversionsStand s t) (i : Fin 16) : ConversionsStand s (fireEntry i t) := by
  cases hact : (entryAt t i).action with
  | none =>
    unfold Machine.fireEntry
    rw [hact]
    exact h
  | some act =>
    rw [fireEntry_eq hact]
    have hrun := h.runAction act
    refine (hrun.congr ?_ ?_ ?_ ?_ : ConversionsStand s (firedBefore t i act)).wake
    all_goals
      simp only [firedBefore]
      split <;> simp

theorem fireAll (h : ConversionsStand s t) : ConversionsStand s (fireAll t) := by
  unfold Machine.fireAll
  refine foldl_keeps (ConversionsStand s) fireIfReached _ t h fun t i ht => ?_
  unfold fireIfReached
  split
  · exact (ht.fireEntry i).congr (by simp) (by simp) (by simp) (by simp)
  · exact ht

end ConversionsStand

/-! ## The entries after a time set (R182, R183) -/

/-- The first multiple of a period past the present time is not yet reached (R182). -/
theorem next_due_not_reached {now due : Tick} {p : Nat} (hpos : 0 < p) (hp : p ≤ 2147483647) :
    reached now (due + BitVec.ofNat 32 ((ticksSince now due / p + 1) * p)) = false := by
  unfold reached ticksSince
  simp only [decide_eq_false_iff_not, not_lt]
  have hdiv := Nat.div_add_mod (now - due).toNat p
  have hmod := Nat.mod_lt (now - due).toNat hpos
  have hnext : ((now - due).toNat / p + 1) * p = (now - due).toNat / p * p + p := Nat.succ_mul _ _
  rw [Nat.mul_comm] at hdiv
  generalize ((now - due).toNat / p + 1) * p = ahead at hnext ⊢
  bv_omega

/-- R182: an entry that repeats within half of the clock is rescheduled to an instant not yet reached. -/
theorem reschedule_not_reached {now : Tick} {e : SchedEntry} (hp : e.period ≤ 2147483647)
    (harmed : (e.reschedule now).state = .armed) :
    dueReached now (e.reschedule now).due = false := by
  unfold SchedEntry.reschedule at harmed ⊢
  split
  · next h0 => simp [h0] at harmed
  · next h0 =>
    cases hd : e.due with
    | none => simp [hd, dueReached]
    | some due =>
      simp only [dueReached]
      exact next_due_not_reached (Nat.pos_of_ne_zero h0) hp

theorem reschedule_keeps (now : Tick) (e : SchedEntry) :
    (e.reschedule now).period = e.period ∧ (e.reschedule now).action = e.action ∧
      ((e.reschedule now).state = .armed → e.state = .armed) := by
  unfold SchedEntry.reschedule
  split
  · simp
  · split <;> simp

/-- An ARMED entry of the schedule that SCHED_WRITE takes: a period within half of the clock, and an
action (R179). -/
def EntriesWritten (s : State) : Prop :=
  ∀ i, (entryAt s i).state = .armed →
    (entryAt s i).period ≤ 2147483647 ∧ (entryAt s i).action.isSome = true

theorem entryReached_iff (s : State) (i : Fin 16) :
    entryReached s i = true ↔ (entryAt s i).state = .armed ∧ dueReached s.now (entryAt s i).due = true := by
  simp [entryReached]

section
variable {s : State} (h : EntriesWritten s)
include h

/-- A firing leaves the other entries, and its own entry without a due instant that is reached. -/
theorem fireIfReached_entries (i : Fin 16) :
    EntriesWritten (fireIfReached s i) ∧ entryReached (fireIfReached s i) i = false ∧
      ∀ j, entryReached s j = false → entryReached (fireIfReached s i) j = false := by
  by_cases hr : entryReached s i = true
  · obtain ⟨harmed, -⟩ := (entryReached_iff s i).mp hr
    obtain ⟨hperiod, haction⟩ := h i harmed
    obtain ⟨act, hact⟩ := Option.isSome_iff_exists.mp haction
    have hnow : (fireIfReached s i).now = s.now := by simp [State.now]
    have hentry : ∀ j, entryAt (fireIfReached s i) j =
        if i = j then firedEntry s i act else entryAt s j := fun j => by
      rw [← fireEntry_entry hact, fireIfReached, if_pos hr]
      exact entryAt_of_schedule (by simp) j
    have hfired : entryAt (fireIfReached s i) i = firedEntry s i act := by rw [hentry, if_pos rfl]
    have hother : ∀ j, i ≠ j → entryAt (fireIfReached s i) j = entryAt s j := fun j hj => by
      rw [hentry, if_neg hj]
    obtain ⟨hkperiod, hkaction, -⟩ := reschedule_keeps s.now
      { entryAt s i with outcome := some (runAction act s).1 }
    refine ⟨fun j hj => ?written, ?own, fun j hj => ?others⟩
    case written =>
      by_cases hij : i = j
      · subst hij
        rw [hfired]
        exact ⟨hkperiod.trans_le hperiod, by rw [firedEntry, hkaction]; exact haction⟩
      · rw [hother j hij] at hj ⊢
        exact h j hj
    case own =>
      rw [Bool.eq_false_iff, Ne, entryReached_iff, hnow, hfired]
      rintro ⟨hstill, hreached⟩
      rw [firedEntry, reschedule_not_reached (by exact hperiod) hstill] at hreached
      cases hreached
    case others =>
      by_cases hij : i = j
      · subst hij
        rw [hr] at hj
        cases hj
      · rw [entryReached, hother j hij, hnow]
        exact hj
  · have hsame : fireIfReached s i = s := if_neg hr
    rw [hsame]
    exact ⟨h, by simpa using hr, fun _ hj => hj⟩

end

/-- R183: once every entry has been judged in turn, none is left ARMED with its due instant reached. -/
theorem foldl_fireIfReached (l : List (Fin 16)) {s : State} (h : EntriesWritten s)
    (hl : ∀ i, i ∈ l ∨ entryReached s i = false) (i : Fin 16) :
    entryReached (l.foldl fireIfReached s) i = false := by
  induction l generalizing s with
  | nil => simpa using hl i
  | cons a l ih =>
    obtain ⟨hwritten, hown, hothers⟩ := fireIfReached_entries h a
    refine ih hwritten fun j => ?_
    rcases hl j with hj | hj
    · rcases List.mem_cons.mp hj with rfl | hj
      · exact .inr hown
      · exact .inl hj
    · exact .inr (hothers j hj)

theorem fireAll_entries {s : State} (h : EntriesWritten s) (i : Fin 16) :
    entryReached (fireAll s) i = false :=
  foldl_fireIfReached _ h (fun i => .inl (List.mem_finRange i)) i

/-- Where nothing is ARMED, nothing fires. -/
theorem fireAll_of_unarmed {s : State} (h : ∀ i, (entryAt s i).state ≠ .armed) : fireAll s = s := by
  refine foldl_keeps (fun t : State => t = s) fireIfReached _ s rfl fun t i ht => ?_
  rw [ht, fireIfReached, if_neg (fun hr => h i ((entryReached_iff s i).mp hr).1)]

/-! ## The time set before the firings (R177) -/

theorem setTimeOp_instants (new : Tick) (input : MeterInput) {s : State} (hp : s.time.power ≠ .dormant) :
    let t := setTimeOp new input s
    let delta := new - s.now
    t.time.power ≠ .dormant ∧ t.tanks.tempDue = s.tanks.tempDue + delta ∧
      t.tanks.senderDue = s.tanks.senderDue.map (· + delta) ∧
      t.heater.cabinDue = s.heater.cabinDue + delta ∧
      t.tanks.fresh = { s.tanks.fresh with dangerDue := s.tanks.fresh.dangerDue.map (· + delta) } ∧
      t.tanks.grey = { s.tanks.grey with dangerDue := s.tanks.grey.dangerDue.map (· + delta) } ∧
      t.wind = { s.wind with due := s.wind.due + delta, start := s.wind.start + delta } ∧
      t.time.tick = new ∧ t.time.fraction = 0 ∧ t.meter.intervalStart = new ∧
      t.meter.acc = IntervalAcc.empty := by
  have hstart : ConversionsStand s (accumulate input.samples s) := ⟨hp, rfl, rfl, rfl⟩
  obtain ⟨hpower, hsenders, htemperatures, hcabin⟩ :=
    hstart.closeInterval input.temperature input.order new
  have hmeter := closeInterval_meter input.temperature input.order new (accumulate input.samples s)
  have hkept : (closeInterval input.temperature input.order new (accumulate input.samples s)).tanks.fresh =
        s.tanks.fresh ∧
      (closeInterval input.temperature input.order new (accumulate input.samples s)).tanks.grey =
        s.tanks.grey ∧
      (closeInterval input.temperature input.order new (accumulate input.samples s)).wind = s.wind := by
    simp
  obtain ⟨hfresh, hgrey, hwind⟩ := hkept
  simp only [setTimeOp]
  generalize closeInterval input.temperature input.order new (accumulate input.samples s) = u at *
  simp [moveInstants, moveInstant, hpower, hsenders, htemperatures, hcabin, hfresh, hgrey, hwind, hmeter]

/-- A time set with no sample to meter: the instants move and the interval begins again (R2, R177). -/
def instantsMoved (new : Tick) (s : State) : State :=
  moveInstants (new - s.now)
    ((nextInterval new s).setTime { s.time with tick := new, fraction := 0 })

theorem setTimeOp_unmetered (new : Tick) {input : MeterInput} {s : State}
    (hcount : s.meter.acc.count = 0) (hsamples : input.samples = []) :
    setTimeOp new input s = instantsMoved new s := by
  have hacc : accumulate input.samples s = s := by rw [hsamples]; rfl
  simp only [setTimeOp, hacc, closeInterval_discarded _ _ _ hcount]
  rfl

theorem instantsMoved_conditions (new : Tick) (s : State) (f : Flag) :
    conditionHolds (instantsMoved new s) f = conditionHolds s f := by
  cases f <;> rfl

theorem instantsMoved_settled (new : Tick) {s : State} (h : Settled s) :
    Settled (instantsMoved new s) := by
  obtain ⟨hflags, hidle⟩ := h
  refine ⟨(flagsStand_iff _).mpr fun f hf => ?_, ?_⟩
  · rw [instantsMoved_conditions] at hf
    exact (flagsStand_iff s).mp hflags f hf
  · have hconditions : idleConditions (instantsMoved new s) = idleConditions s := by
      apply idleConditions_congr <;> rfl
    have hdue : (instantsMoved new s).time.idleDue = s.time.idleDue.map (· + (new - s.now)) := rfl
    unfold IdleFollows at hidle ⊢
    rw [hconditions, hdue, Option.isSome_map]
    exact hidle

/-- A time set that meters nothing and fires nothing moves the instants alone. -/
theorem timeSetOp_quiet (new : Tick) {input : MeterInput} {s : State} (hs : Settled s)
    (hunarmed : ∀ i, (entryAt s i).state ≠ .armed) (hcount : s.meter.acc.count = 0)
    (hsamples : input.samples = []) : timeSetOp new input s = instantsMoved new s := by
  have hsettled : settle s (instantsMoved new s) = instantsMoved new s :=
    settle_eq_of_settled (instantsMoved_settled new hs) fun f hf => by
      rwa [instantsMoved_conditions] at hf
  rw [timeSetOp, setTimeOp_unmetered new hcount hsamples, hsettled]
  exact fireAll_of_unarmed hunarmed

/-! ## TIME_SET -/

theorem beNat_u32 (t : Tick) : BitVec.ofNat 32 (beNat (u32 t.toNat)) = t := by
  have hlt := t.isLt
  refine BitVec.eq_of_toNat_eq ?_
  simp only [u32, u16, u8, List.cons_append, List.nil_append, beNat, List.foldl_cons, List.foldl_nil,
    BitVec.toNat_ofNat]
  omega

theorem length_u32 (n : Nat) : (u32 n).length = 4 := rfl

theorem timeSetReply (n : Nat) : packReply .accepted (u32 n) = 0#8 :: u32 n := by
  simp [packReply, packParts, fitParts, length_u32, u8, Result.code]

/-- What the firings of a time set leave of the state before them. -/
theorem timeSetOp_instants (new : Tick) (input : MeterInput) {s : State} (hp : s.time.power ≠ .dormant) :
    let t := timeSetOp new input s
    let u := setTimeOp new input s
    t.time.power ≠ .dormant ∧ t.tanks.tempDue = u.tanks.tempDue ∧
      t.tanks.senderDue = u.tanks.senderDue ∧ t.heater.cabinDue = u.heater.cabinDue := by
  have hpower := (setTimeOp_instants new input hp).1
  have hstart : ConversionsStand (setTimeOp new input s) (settle s (setTimeOp new input s)) :=
    ⟨by simpa using hpower, by simp, by simp, by simp⟩
  obtain ⟨hawake, hsenders, htemperatures, hcabin⟩ := hstart.fireAll
  simp only [timeSetOp]
  exact ⟨hawake, htemperatures, hsenders, hcabin⟩

/-- TIME_SET that is taken: the time is set, and the reply gives it. -/
theorem exec_timeSet {s : State} {tag : Byte} {new : Tick} {input : MeterInput}
    (hok : temperatureOk input.temperature = true) (hr : RequestAt 25 tag (u32 new.toNat) s) :
    exec (.timeSet tag (u32 new.toNat) input) s =
      .next (settle s (answered 25 tag (0#8 :: u32 new.toNat) (timeSetOp new input s))) := by
  have hawake := not_dormant_of_requestAt hr
  obtain ⟨-, -, -, -, -, -, -, htick, -⟩ := setTimeOp_instants new input hawake
  have hnow : (timeSetOp new input s).now = new := by
    simpa [State.now, timeSetOp] using htick
  simp only [exec, execTimeSet, hok, if_true]
  rw [takeRequest_eq (reply := 0#8 :: u32 new.toNat) (v := timeSetOp new input s) hr rfl
      (by simp only [beNat_u32, hnow, timeSetReply]),
    answer_eq_answered 25 _ _ _ (timeSetOp_instants new input hawake).1]

/-- Settles O57: the instants through the interval's close and the firings, the fold of the firings over the
entries, and the whole state where nothing is metered or fires. -/
theorem timeSetMovesTheInstants : Obligations.TimeSetMovesTheInstants := by
  intro s tag new input p delta hok hr hs
  have hawake := not_dormant_of_requestAt hr
  obtain ⟨-, htemp, hsender, hcabin, hfresh, hgrey, hwind, htick, hfraction, hstart, hacc⟩ :=
    setTimeOp_instants new input hawake
  obtain ⟨-, hktemp, hksender, hkcabin⟩ := timeSetOp_instants new input hawake
  have hkept : (timeSetOp new input s).tanks.fresh = (setTimeOp new input s).tanks.fresh ∧
      (timeSetOp new input s).tanks.grey = (setTimeOp new input s).tanks.grey ∧
      (timeSetOp new input s).wind = (setTimeOp new input s).wind ∧
      (timeSetOp new input s).time.tick = (setTimeOp new input s).time.tick ∧
      (timeSetOp new input s).time.fraction = (setTimeOp new input s).time.fraction ∧
      (timeSetOp new input s).meter = (setTimeOp new input s).meter := by
    simp [timeSetOp]
  obtain ⟨hkfresh, hkgrey, hkwind, hktick, hkfraction, hkmeter⟩ := hkept
  refine ⟨_, exec_timeSet hok hr, ⟨?_, ?_, ?_⟩, ?_, ?_, ?_, ?_, ?_, ?_, ?_, ?_, ?_, ?_, ?_,
    fun hunarmed hcount hsamples => ?quiet, fun hwritten i harmed => ?entries, ?_, ?_⟩
  case quiet =>
    have ht : settle s (answered 25 tag (0#8 :: u32 new.toNat) (timeSetOp new input s)) =
        answered 25 tag (0#8 :: u32 new.toNat) (instantsMoved new s) := by
      rw [timeSetOp_quiet new hs hunarmed hcount hsamples]
      refine settle_eq_of_settled (settled_answered (instantsMoved_settled new hs) _ _ _) fun f hf => ?_
      rwa [conditionHolds_answered, instantsMoved_conditions] at hf
    rw [ht]
    refine ⟨rfl, rfl, rfl, fun ch => ?_, rfl, rfl, rfl, rfl, rfl, rfl, fun f _ => flagBits_of_flags rfl f⟩
    simp [answered, instantsMoved, moveInstants, moveInstant, nextInterval, delta]
  case entries =>
    have hbefore : EntriesWritten (settle s (setTimeOp new input s)) := fun j hj => by
      rw [entryAt_of_schedule (s := s) (by simp)] at hj ⊢
      exact hwritten j hj
    have hnow : (timeSetOp new input s).now = new := hktick.trans htick
    have hreached := fireAll_entries hbefore i
    rw [← timeSetOp, Bool.eq_false_iff, Ne, entryReached_iff, hnow] at hreached
    rw [entryAt_of_schedule (s := timeSetOp new input s) (by simp [answered])] at harmed ⊢
    exact Bool.eq_false_iff.mpr fun hdue => hreached ⟨harmed, hdue⟩
  all_goals simp [answered, p, delta, hktemp, hksender, hkcabin, hkfresh, hkgrey, hkwind, hktick, hkfraction,
    hkmeter, htemp, hsender, hcabin, hfresh, hgrey, hwind, htick, hfraction, hstart, hacc]

end Sys2Proof.Machine
end

section
/-! PROOFS. The debounce of a pin (R160 to R164): the samples that complete it, the pins through the owners'
acts, and what each owner does at an edge. -/

namespace Sys2Proof.Machine

/-! ## Samples (R160, R162) -/

/-- A JOINED pin takes the other level with the last of the samples that its debounce needs. -/
theorem joinedSamples_replicate {need : Nat} (c : Bool) (k n : Nat) (h : n + (k + 1) = need) :
    joinedSamples need (List.replicate (k + 1) (!c)) (.joined c n) = .joined (!c) 0 := by
  induction k generalizing n with
  | zero =>
    have hneed : need ≤ n + 1 := by omega
    simp [joinedSamples, joinedSample, hneed]
  | succ k ih =>
    have hneed : ¬ need ≤ n + 1 := by omega
    rw [List.replicate_succ, joinedSamples]
    simp only [joinedSample, Bool.not_eq_eq_eq_not, Bool.eq_not_self, if_false, hneed, if_true]
    exact ih (n + 1) (by omega)

/-- A SETTLING pin joins with the last of the samples that its debounce needs. -/
theorem settleSamples_replicate {need : Nat} (x : Bool) (k n : Nat) (h : n + (k + 1) = need) :
    settleSamples need (List.replicate (k + 1) x) (.settling (some x) n) = .joined x 0 := by
  induction k generalizing n with
  | zero =>
    have hneed : need ≤ n + 1 := by omega
    simp [settleSamples, settleSample, hneed]
  | succ k ih =>
    have hneed : ¬ need ≤ n + 1 := by omega
    rw [List.replicate_succ, settleSamples]
    simp only [settleSample, if_true, hneed, if_false]
    exact ih (n + 1) (by omega)

theorem settleSamples_fresh {need : Nat} (x : Bool) (h : 0 < need) :
    settleSamples need (List.replicate need x) (.settling none 0) = .joined x 0 := by
  obtain ⟨k, rfl⟩ := Nat.exists_eq_succ_of_ne_zero h.ne'
  rw [Nat.succ_eq_add_one, List.replicate_succ, settleSamples]
  cases k with
  | zero => simp [settleSample, settleSamples]
  | succ k =>
    simp only [settleSample]
    rw [if_neg (by simp), if_neg (by omega)]
    exact settleSamples_replicate x k 1 (by omega)

theorem debounceCount_pos (e : InputEvent) (p : PowerState) : 0 < debounceCount e p := by
  unfold debounceCount
  split <;> dsimp only <;> split <;> decide

/-! ## The pins through the owners' acts (R162, R190) -/

/-- From `s` to `t` a pin is as it was, or has its count cleared by a wake. -/
def PinsStand (s t : State) : Prop :=
  ∀ j, pinAt t j = pinAt s j ∨ pinAt t j = (pinAt s j).clearCount

theorem clearCount_twice (p : Pin) : p.clearCount.clearCount = p.clearCount := by
  obtain ⟨mode, polarity, event, wakes, binding⟩ := p
  cases binding <;> rfl

theorem clearCount_fields (p : Pin) :
    p.clearCount.event = p.event ∧ p.clearCount.mode = p.mode ∧ p.clearCount.polarity = p.polarity ∧
      p.clearCount.wake = p.wake := by
  obtain ⟨mode, polarity, event, wakes, binding⟩ := p
  cases binding <;> exact ⟨rfl, rfl, rfl, rfl⟩

namespace PinsStand
variable {s t u : State}

theorem of_pins (h : t.pins = s.pins) : PinsStand s t := fun j => .inl (by simp [pinAt, h])

theorem refl (s : State) : PinsStand s s := of_pins rfl

theorem trans (h : PinsStand s t) (k : PinsStand t u) : PinsStand s u := fun j => by
  rcases k j with kj | kj <;> rw [kj] <;> rcases h j with hj | hj <;> rw [hj]
  · exact .inl rfl
  · exact .inr rfl
  · exact .inr rfl
  · exact .inr (clearCount_twice _)

theorem wake (s : State) : PinsStand s (wake s) := by
  rcases wake_pins s with h | h
  · exact of_pins h
  · exact fun j => .inr (by simp [pinAt, h, restartDebounce])

theorem then_pins (h : PinsStand s t) (hp : u.pins = t.pins) : PinsStand s u := h.trans (.of_pins hp)

theorem then_wake (h : PinsStand s t) : PinsStand s (Machine.wake t) := h.trans (.wake t)

theorem arbitrate (h : PinsStand s t) : PinsStand s (arbitrate t) := h.then_pins (by simp)

theorem completeOwner (h : PinsStand s t) (r : MotionResult) : PinsStand s (completeOwner r t) :=
  h.then_pins (by simp)

theorem joinedTo (h : PinsStand s t) (j : Fin 16) (e : InputEvent) :
    (pinAt t j).joinedTo e = (pinAt s j).joinedTo e := by
  rcases h j with hj | hj
  · rw [hj]
  · rw [hj, joinedTo_clearCount]

theorem fields (h : PinsStand s t) (j : Fin 16) :
    (pinAt t j).event = (pinAt s j).event ∧ (pinAt t j).mode = (pinAt s j).mode ∧
      (pinAt t j).polarity = (pinAt s j).polarity ∧ (pinAt t j).wake = (pinAt s j).wake := by
  rcases h j with hj | hj <;> rw [hj]
  · exact ⟨rfl, rfl, rfl, rfl⟩
  · exact clearCount_fields _

/-- A pin without a count stays as it is. -/
theorem fixed (h : PinsStand s t) {j : Fin 16} (hj : (pinAt s j).clearCount = pinAt s j) :
    pinAt t j = pinAt s j := by
  rcases h j with h | h
  · exact h
  · rw [h, hj]

end PinsStand

theorem eventActive_iff (s : State) (e : InputEvent) :
    eventActive s e = true ↔ ∃ j, (pinAt s j).joinedTo e = some true := by
  simp only [eventActive, List.any_eq_true, mem_vlist]
  constructor
  · rintro ⟨p, ⟨j, rfl⟩, hj⟩
    refine ⟨j, ?_⟩
    cases hc : (s.pins[j]).joinedTo e <;> simp_all [pinAt]
  · rintro ⟨j, hj⟩
    exact ⟨_, ⟨j, rfl⟩, by unfold pinAt at hj; rw [hj]; rfl⟩

theorem eventMapped_iff (s : State) (e : InputEvent) :
    eventMapped s e = true ↔ ∃ j, ((pinAt s j).joinedTo e).isSome = true := by
  simp [eventMapped, pinAt]

theorem eventActive_of_joinedTo {s t : State} {e : InputEvent}
    (h : ∀ j, (pinAt t j).joinedTo e = (pinAt s j).joinedTo e) : eventActive t e = eventActive s e := by
  rw [Bool.eq_iff_iff, eventActive_iff, eventActive_iff]
  simp only [h]

theorem eventMapped_of_joinedTo {s t : State} {e : InputEvent}
    (h : ∀ j, (pinAt t j).joinedTo e = (pinAt s j).joinedTo e) : eventMapped t e = eventMapped s e := by
  rw [Bool.eq_iff_iff, eventMapped_iff, eventMapped_iff]
  simp only [h]

theorem PinsStand.active {s t : State} (h : PinsStand s t) (e : InputEvent) :
    eventActive t e = eventActive s e := eventActive_of_joinedTo fun j => h.joinedTo j e

theorem PinsStand.mapped {s t : State} (h : PinsStand s t) (e : InputEvent) :
    eventMapped t e = eventMapped s e := eventMapped_of_joinedTo fun j => h.joinedTo j e

section
variable (s : State)

theorem postMotion_pins (a : Actuator) (act : MoveAction) (target : Nat) (notify : Bool)
    (origin : MoveOrigin) : PinsStand s (postMotion a act target notify origin s).2.2 := by
  simp only [postMotion]
  repeat' split
  any_goals exact .refl s
  all_goals exact .arbitrate (.then_wake (.of_pins (by simp)))

theorem raiseOverride_pins (a : Actuator) (c : OverrideCause) : PinsStand s (raiseOverride a c s) := by
  simp only [raiseOverride]
  split
  · exact .refl s
  · have hraised : ∀ o, PinsStand s (wake (setOverride s a o)) := fun o => .then_wake (.of_pins (by simp))
    split
    · exact (hraised _).completeOwner _
    · exact hraised _
    · exact hraised _

theorem raiseIfOut_pins (a : Actuator) : PinsStand s (raiseIfOut s a) := by
  unfold raiseIfOut
  exact ite_keeps (PinsStand s) _ _ _ (.refl s) (raiseOverride_pins s a _)

theorem raiseAllOut_pins : PinsStand s (raiseAllOut s) :=
  (raiseIfOut_pins s .step).trans (raiseIfOut_pins _ .awning)

theorem raiseIfLeft_pins (before : State) (a : Actuator) : PinsStand s (raiseIfLeft before s a) := by
  unfold raiseIfLeft
  exact ite_keeps (PinsStand s) _ _ _ (raiseOverride_pins s a _) (.refl s)

theorem stowWatch_pins (before : State) : PinsStand s (stowWatch before s) :=
  (raiseIfLeft_pins s before .step).trans (raiseIfLeft_pins _ before .awning)

theorem positionFollow_pins (before : State) : PinsStand s (positionFollow before s) :=
  have htest : PinsStand s (testDestination s) := .of_pins (by simp)
  .arbitrate (htest.trans (stowWatch_pins _ before))

theorem awningEdgeFollow_pins (rising : Bool) (before : State) :
    PinsStand s (awningEdgeFollow rising before s) := by
  unfold awningEdgeFollow
  exact ite_keeps (PinsStand s) _ _ _ (stowWatch_pins s before).arbitrate
    (positionFollow_pins s before)

theorem doorStep_pins (rising : Bool) : PinsStand s (doorStep rising s) := by
  unfold doorStep
  exact ite_keeps (PinsStand s) _ _ _ (postMotion_pins s _ _ _ _ _) (.refl s)

theorem doorEdge_pins (rising : Bool) (order : List HandOff) :
    PinsStand s (doorEdge rising order s) := by
  unfold doorEdge
  refine inOrder_keeps (PinsStand s) _ _ _ (.refl s) fun a ha t ht => ?_
  simp only [List.mem_cons, List.not_mem_nil, or_false] at ha
  rcases ha with rfl | rfl
  · exact ht.trans (.of_pins (by simp))
  · exact ht.trans (doorStep_pins t rising)

theorem ignitionEdge_pins (rising : Bool) (order : List HandOff) :
    PinsStand s (ignitionEdge rising order s) := by
  unfold ignitionEdge
  split
  · refine .arbitrate (inOrder_keeps (PinsStand s) _ _ _ (.refl s) fun a ha t ht => ?_)
    simp only [List.mem_cons, List.not_mem_nil, or_false] at ha
    rcases ha with rfl | rfl | rfl
    · exact ht.trans (.of_pins (by simp))
    · exact ht.trans (.of_pins (by simp))
    · exact ht.trans (raiseAllOut_pins t)
  · exact .of_pins (by simp)

theorem stepPress_pins : PinsStand s (stepPress s) := by
  unfold stepPress switchPost
  split <;> exact postMotion_pins s _ _ _ _ _

theorem edgeAct_pins (before : State) (e : InputEvent) (rising : Bool) (order : List HandOff) :
    PinsStand s (edgeAct before e rising order s) := by
  have hpost : ∀ a act, PinsStand s (switchPost a act s) := fun _ _ => postMotion_pins s _ _ _ _ _
  have hrising : ∀ t, PinsStand s t → PinsStand s (if rising then t else s) := fun t ht =>
    ite_keeps (PinsStand s) _ _ _ ht (.refl s)
  cases e with
  | ignitionOn => exact ignitionEdge_pins s rising order
  | shorePresent => exact .of_pins (by simp [edgeAct])
  | doorOpen => exact doorEdge_pins s rising order
  | estop => exact hrising _ (.of_pins (by simp))
  | loadLimit => exact .of_pins (by simp [edgeAct])
  | windPulse => exact hrising _ (.of_pins (by simp))
  | stepSwitch => exact hrising _ (stepPress_pins s)
  | awningOutSwitch => exact hrising _ (hpost _ _)
  | awningInSwitch => exact hrising _ (hpost _ _)
  | lightSwitch k => exact hrising _ (.of_pins (by simp))
  | sceneSelect => exact .of_pins (by simp [edgeAct])
  | pumpDemand => exact .of_pins (by simp [edgeAct])
  | heaterFlame => exact ite_keeps (PinsStand s) _ _ _ (.refl s) (.of_pins (by simp))
  | stepInLimit => exact .trans (.of_pins (by simp)) (positionFollow_pins _ before)
  | stepOutLimit => exact .trans (.of_pins (by simp)) (positionFollow_pins _ before)
  | awningInLimit => exact .trans (.of_pins (by simp)) (awningEdgeFollow_pins _ rising before)
  | wake => exact .refl s

theorem mappingAct_pins (before : State) (e : InputEvent) : PinsStand s (mappingAct before e s) := by
  have hlimit : ∀ e, PinsStand s (limitMapping before e s) := fun e => by
    unfold limitMapping
    exact ite_keeps (PinsStand s) _ _ _ (positionFollow_pins s before) (.refl s)
  cases e with
  | windPulse => exact ite_keeps (PinsStand s) _ _ _ (.refl s) (.of_pins (by simp))
  | stepInLimit => exact hlimit _
  | stepOutLimit => exact hlimit _
  | awningInLimit => exact hlimit _
  | _ => exact .refl s

theorem formEvent_pins (i : Fin 16) (e : InputEvent) (order : List HandOff) (before : State) :
    PinsStand s (formEvent i e order before s) := by
  have hedge : PinsStand s (if decide (eventActive before e ≠ eventActive s e) then
      edgeAct before e (eventActive s e) order s else s) :=
    ite_keeps (PinsStand s) _ _ _ (edgeAct_pins s before e _ order) (.refl s)
  simp only [formEvent]
  generalize (if decide (eventActive before e ≠ eventActive s e) then
    edgeAct before e (eventActive s e) order s else s) = t at hedge ⊢
  have hmapping : PinsStand s (if decide (eventMapped before e ≠ eventMapped s e) then
      mappingAct before e t else t) :=
    ite_keeps (PinsStand s) _ _ _ (hedge.trans (mappingAct_pins t before e)) hedge
  generalize (if decide (eventMapped before e ≠ eventMapped s e) then mappingAct before e t else t) = u
    at hmapping ⊢
  have htouched : ∀ b : Bool, PinsStand s (if b then touchIdle u else u) := fun b =>
    ite_keeps (PinsStand s) _ _ _ (hmapping.then_pins (by simp)) hmapping
  exact ite_keeps (PinsStand s) _ _ _ (htouched _).then_wake (htouched _)

end

/-! ## A binding that changes (R160 to R162) -/

section
variable {s : State} {i : Fin 16} {e : InputEvent} {b : PinBinding}

theorem inputEvent_eq {p : Pin} (h : p.event = some (.input e)) : p.inputEvent = some e := by
  simp [Pin.inputEvent, h]

theorem pinAt_setBinding (j : Fin 16) :
    pinAt (setBinding s i b) j = if i = j then { pinAt s i with binding := b } else pinAt s j :=
  vput_get _ _ _ _

theorem joinedTo_setBinding_other {j : Fin 16} (hj : j ≠ i) (e' : InputEvent) :
    (pinAt (setBinding s i b) j).joinedTo e' = (pinAt s j).joinedTo e' := by
  rw [pinAt_setBinding, if_neg hj.symm]

/-- The change of a pin's binding reaches no other event. -/
theorem joinedTo_setBinding_event (h : (pinAt s i).event = some (.input e)) {e' : InputEvent}
    (he : e' ≠ e) (j : Fin 16) :
    (pinAt (setBinding s i b) j).joinedTo e' = (pinAt s j).joinedTo e' := by
  by_cases hj : j = i
  · subst hj
    have hnone : ∀ p : Pin, p.event = some (.input e) → p.joinedTo e' = none := fun p hp => by
      unfold Pin.joinedTo
      rw [hp]
      split
      · next heq _ => cases heq; rw [if_neg he.symm]
      · rfl
    rw [pinAt_setBinding, if_pos rfl]
    exact (hnone { pinAt s j with binding := b } h).trans (hnone _ h).symm
  · exact joinedTo_setBinding_other hj e'

theorem setBinding_active (h : (pinAt s i).event = some (.input e)) {e' : InputEvent} (he : e' ≠ e) :
    eventActive (setBinding s i b) e' = eventActive s e' :=
  eventActive_of_joinedTo (joinedTo_setBinding_event h he)

/-- A JOINED pin's event is mapped. -/
theorem eventMapped_of_joined {j : Fin 16} {c : Bool} {n : Nat}
    (h : (pinAt s j).event = some (.input e)) (hb : (pinAt s j).binding = .joined c n) :
    eventMapped s e = true := by
  rw [eventMapped_iff]
  exact ⟨j, by simp [Pin.joinedTo, h, hb]⟩

theorem setBinding_mapped (h : (pinAt s i).event = some (.input e)) (c : Bool) (n : Nat) :
    eventMapped (setBinding s i (.joined c n)) e = true :=
  eventMapped_of_joined (j := i) (by rw [pinAt_setBinding, if_pos rfl]; exact h)
    (by rw [pinAt_setBinding, if_pos rfl])

/-- Past the binding itself, a change of a binding takes from a pin its count alone (R161, R190). -/
theorem changeBinding_pins (h : (pinAt s i).event = some (.input e)) (order : List HandOff) (b : PinBinding) :
    PinsStand (setBinding s i b) (changeBinding i b order s) := by
  unfold changeBinding
  rw [inputEvent_eq h]
  exact formEvent_pins _ i e order s

theorem changeBinding_joined (h : (pinAt s i).event = some (.input e)) (order : List HandOff) (c : Bool) :
    pinAt (changeBinding i (.joined c 0) order s) i = { pinAt s i with binding := .joined c 0 } := by
  have hpin := pinAt_setBinding (s := s) (i := i) (b := .joined c 0) i
  rw [if_pos rfl] at hpin
  rw [(changeBinding_pins h order _).fixed (by rw [hpin]; rfl), hpin]

theorem changeBinding_other (h : (pinAt s i).event = some (.input e)) (order : List HandOff) (b : PinBinding)
    {j : Fin 16} (hj : j ≠ i) :
    let p := pinAt (changeBinding i b order s) j
    p.event = (pinAt s j).event ∧ p.mode = (pinAt s j).mode ∧ p.polarity = (pinAt s j).polarity ∧
      p.wake = (pinAt s j).wake ∧ ∀ e', p.joinedTo e' = (pinAt s j).joinedTo e' := by
  have hpins := changeBinding_pins h order b
  have hpin := pinAt_setBinding (s := s) (i := i) (b := b) j
  rw [if_neg hj.symm] at hpin
  obtain ⟨hevent, hmode, hpolarity, hwake⟩ := hpins.fields j
  rw [hpin] at hevent hmode hpolarity hwake
  refine ⟨hevent, hmode, hpolarity, hwake, fun e' => ?_⟩
  rw [hpins.joinedTo, joinedTo_setBinding_other hj]

end

/-! ## An event formed again (R161, R167, R187) -/

section
variable {before s : State} {i : Fin 16} {e : InputEvent} (order : List HandOff)

/-- An event that keeps its state and its mapping reaches nobody. -/
theorem formEvent_unchanged (ha : eventActive before e = eventActive s e)
    (hm : eventMapped before e = eventMapped s e) : formEvent i e order before s = s := by
  simp [formEvent, ha, hm]

/-- An edge without a mapping change: what the owners' act leaves stands, but for the idle due instant and a
wake. -/
theorem formEvent_edge (ha : eventActive before e ≠ eventActive s e)
    (hm : eventMapped before e = eventMapped s e) :
    let u := edgeAct before e (eventActive s e) order s
    let t := formEvent i e order before s
    t.table = u.table ∧ t.lamps = u.lamps ∧ t.tanks.recs = u.tanks.recs ∧ t.link = u.link ∧
      t.heater = { u.heater with cabinDue := t.heater.cabinDue } := by
  intro u t
  have htouch : ∀ b : Bool, let v := if b then touchIdle u else u
      v.table = u.table ∧ v.lamps = u.lamps ∧ v.tanks = u.tanks ∧ v.link = u.link ∧
        v.heater = u.heater := fun b => by
    cases b <;> simp
  obtain ⟨htable, hlamps, htanks, hlink, hheater⟩ := htouch (decide (e ≠ .wake))
  have ht : t = if alwaysWakes e || (pinAt s i).wake then
      wake (if decide (e ≠ .wake) then touchIdle u else u)
      else if decide (e ≠ .wake) then touchIdle u else u := by
    simp [t, u, formEvent, ha, hm]
  generalize (if decide (e ≠ .wake) then touchIdle u else u) = v at htable hlamps htanks hlink hheater ht
  rw [ht]
  split
  · refine ⟨by simp [htable], by simp [hlamps], by simp [htanks], by simp [hlink], ?_⟩
    rw [wake_heater, hheater]
  · exact ⟨htable, hlamps, by rw [htanks], hlink, by rw [hheater]⟩

end

/-! ## DEBOUNCE_COMPLETE and PIN_JOIN -/

section
variable {s : State} {i : Fin 16} {e : InputEvent}

theorem map_converted (p : Pin) (k : Nat) (level : Bool) :
    (List.replicate k level).map p.converted = List.replicate k (p.converted level) :=
  List.map_replicate

/-- DEBOUNCE_COMPLETE of a JOINED pin changes its binding as its samples say. -/
theorem exec_debounceComplete (h : (pinAt s i).event = some (.input e)) (he : e ≠ .windPulse)
    {c : Bool} {n : Nat} (hb : (pinAt s i).binding = .joined c n) (xs : List Bool)
    (order : List HandOff) :
    exec (.debounceComplete i xs order) s = .next (settle s (changeBinding i
      (joinedSamples (debounceCount e s.time.power) (xs.map (pinAt s i).converted) (.joined c n))
      order s)) := by
  have hsampled : (pinAt s i).isSampled = true := by
    simp [Pin.isSampled, Pin.isJoined, hb, inputEvent_eq h, he]
  simp only [exec, execDebounceComplete, perform_eq, hsampled, if_true, debounceOp, inputEvent_eq h, hb]

/-- The debounce of a pin that changes its level ends with the change (R162). -/
theorem exec_debounceComplete_edge (h : (pinAt s i).event = some (.input e)) (he : e ≠ .windPulse)
    {c level : Bool} {n : Nat} (hb : (pinAt s i).binding = .joined c n)
    (hn : n < debounceCount e s.time.power) (hlevel : (pinAt s i).converted level = !c)
    (order : List HandOff) :
    exec (.debounceComplete i (List.replicate (debounceCount e s.time.power - n) level) order) s =
      .next (settle s (changeBinding i (.joined (!c) 0) order s)) := by
  obtain ⟨k, hk⟩ : ∃ k, debounceCount e s.time.power - n = k + 1 := ⟨_, (Nat.succ_pred (by omega)).symm⟩
  rw [exec_debounceComplete h he hb, map_converted, hlevel, hk,
    joinedSamples_replicate c k n (by omega)]

/-- PIN_JOIN of a pin that has counted nothing yet joins it at the level of its samples (R160). -/
theorem exec_pinJoin (h : (pinAt s i).event = some (.input e))
    (hb : (pinAt s i).binding = .settling none 0) (level : Bool) (order : List HandOff) :
    exec (.pinJoin i (List.replicate (debounceCount e s.time.power) level) order) s =
      .next (settle s (changeBinding i (.joined ((pinAt s i).converted level) 0) order s)) := by
  have hsettling : (pinAt s i).isSettling = true := by simp [Pin.isSettling, hb]
  simp only [exec, execPinJoin, perform_eq, hsettling, if_true, joinOp, inputEvent_eq h, hb,
    map_converted, settleSamples_fresh _ (debounceCount_pos e _)]

/-- A sample at the level that stands clears the count, and nothing else (R162). -/
theorem exec_debounceComplete_level (h : (pinAt s i).event = some (.input e)) (he : e ≠ .windPulse)
    (hs : Settled s) {c level : Bool} {n : Nat} (hb : (pinAt s i).binding = .joined c n)
    (hlevel : (pinAt s i).converted level = c) (order : List HandOff) :
    exec (.debounceComplete i [level] order) s = .next (setBinding s i (.joined c 0)) := by
  have hsame : ∀ e' j, (pinAt (setBinding s i (.joined c 0)) j).joinedTo e' = (pinAt s j).joinedTo e' :=
    fun e' j => by
      by_cases hj : j = i
      · subst hj
        rw [pinAt_setBinding, if_pos rfl]
        simp [Pin.joinedTo, h, hb]
      · exact joinedTo_setBinding_other hj e'
  have hactive := fun e' => eventActive_of_joinedTo (hsame e')
  have hmapped := fun e' => eventMapped_of_joinedTo (hsame e')
  have hconditions : ∀ f, conditionHolds (setBinding s i (.joined c 0)) f = conditionHolds s f :=
    conditionHolds_of_units rfl hactive hmapped rfl rfl rfl rfl rfl rfl rfl rfl
  have hsettled : Settled (setBinding s i (.joined c 0)) := by
    refine ⟨(flagsStand_iff _).mpr fun f hf => ?_, hs.2⟩
    rw [hconditions] at hf
    exact (flagsStand_iff s).mp hs.1 f hf
  have hchange : changeBinding i (.joined c 0) order s = setBinding s i (.joined c 0) := by
    unfold changeBinding
    rw [inputEvent_eq h]
    exact formEvent_unchanged order (hactive e).symm (hmapped e).symm
  have hsamples : joinedSamples (debounceCount e s.time.power) [c] (.joined c n) = .joined c 0 := by
    simp [joinedSamples, joinedSample]
  rw [exec_debounceComplete h he hb, List.map_singleton, hlevel, hsamples, hchange,
    settle_eq_of_settled hsettled fun f hf => by rwa [hconditions] at hf]

end

/-! ## What a debounce leaves -/

section
variable {s : State} {i : Fin 16} {e : InputEvent}

/-- R34: an edge of an event that the budget reads recomputes it. -/
theorem changeBinding_budget (h : (pinAt s i).event = some (.input e))
    (he : e = .shorePresent ∨ e = .loadLimit) {c c' : Bool} {n : Nat}
    (hb : (pinAt s i).binding = .joined c n) (order : List HandOff)
    (hedge : eventActive (changeBinding i (.joined c' 0) order s) e ≠ eventActive s e) :
    (changeBinding i (.joined c' 0) order s).table.budget =
      budgetNow (changeBinding i (.joined c' 0) order s) := by
  have hpins := changeBinding_pins h order (.joined c' 0)
  have hbudget : budgetNow (changeBinding i (.joined c' 0) order s) =
      budgetNow (setBinding s i (.joined c' 0)) :=
    budgetNow_congr (by simp) (by simp) hpins.active
  rw [hpins.active] at hedge
  rw [hbudget]
  have hform : changeBinding i (.joined c' 0) order s =
      formEvent i e order s (setBinding s i (.joined c' 0)) := by
    unfold changeBinding
    rw [inputEvent_eq h]
  obtain ⟨htable, -⟩ := formEvent_edge (i := i) order hedge.symm
    ((eventMapped_of_joined h hb).trans (setBinding_mapped h c' 0).symm)
  rw [hform, htable]
  rcases he with rfl | rfl <;> simp [edgeAct, recomputeBudget]

/-- The first part of O51's frame: what a change of a binding leaves of the other blocks and pins. -/
theorem changeBinding_kept (h : (pinAt s i).event = some (.input e)) (order : List HandOff)
    (b : PinBinding) {t : State} (ht : t = settle s (changeBinding i b order s)) :
    t.meter = s.meter ∧ t.params = s.params ∧ t.pending = s.pending ∧
      t.time.tick = s.time.tick ∧ t.time.schedule = s.time.schedule ∧
      t.link.inbox = s.link.inbox ∧ t.link.replies = s.link.replies ∧
      (∀ j, j ≠ i → (pinAt t j).event = (pinAt s j).event ∧
        (pinAt t j).mode = (pinAt s j).mode ∧ (pinAt t j).polarity = (pinAt s j).polarity ∧
        (pinAt t j).wake = (pinAt s j).wake ∧
        ∀ e', (pinAt t j).joinedTo e' = (pinAt s j).joinedTo e') := by
  have hpin : ∀ j, pinAt t j = pinAt (changeBinding i b order s) j := fun j => by
    rw [ht]
    simp [pinAt]
  refine ⟨by simp [ht], by simp [ht], by simp [ht], by simp [ht], by simp [ht], by simp [ht],
    by simp [ht], fun j hj => ?_⟩
  rw [hpin]
  exact changeBinding_other h order b hj

end

/-! ## An edge (R161, R162) -/

section
variable {s : State} {i : Fin 16} {e : InputEvent} {rising : Bool} {n : Nat} {xs : List Bool}

/-- The samples of an edge complete the debounce. -/
theorem exec_edge (h : EdgeAt i e rising n xs s) (he : e ≠ .windPulse) (order : List HandOff) :
    exec (.debounceComplete i xs order) s =
      .next (settle s (changeBinding i (.joined rising 0) order s)) := by
  obtain ⟨hevent, hbinding, hn, hxs, -⟩ := h
  have hlevel : (pinAt s i).converted (rising == decide ((pinAt s i).polarity = .activeHigh)) = !(!rising) := by
    unfold Pin.converted
    cases (pinAt s i).polarity <;> cases rising <;> rfl
  rw [hxs, exec_debounceComplete_edge hevent he hbinding hn hlevel, Bool.not_not]

/-- The event has the pin's contribution, before and after. -/
theorem edge_active (h : EdgeAt i e rising n xs s) :
    eventActive s e = !rising ∧ eventActive (setBinding s i (.joined rising 0)) e = rising := by
  obtain ⟨hevent, hbinding, -, -, hothers⟩ := h
  have hjoined : ∀ {t : State} {c : Bool}, (pinAt t i).joinedTo e = some c →
      (∀ j, j ≠ i → (pinAt t j).joinedTo e ≠ some true) → eventActive t e = c := fun {t c} hc ho => by
    cases c with
    | false =>
      rw [Bool.eq_false_iff, Ne, eventActive_iff]
      rintro ⟨j, hj⟩
      by_cases hji : j = i
      · subst hji
        simp [hc] at hj
      · exact ho j hji hj
    | true => exact (eventActive_iff t e).mpr ⟨i, hc⟩
  refine ⟨hjoined (by simp [Pin.joinedTo, hevent, hbinding]) hothers, hjoined ?_ fun j hj => ?_⟩
  · rw [pinAt_setBinding, if_pos rfl]
    simp [Pin.joinedTo, hevent]
  · rw [joinedTo_setBinding_other hj]
    exact hothers j hj

/-- What an edge leaves: the owners' act, the idle due instant and a wake. -/
theorem edge_acts (h : EdgeAt i e rising n xs s) (order : List HandOff) {t u : State}
    (ht : t = settle s (changeBinding i (.joined rising 0) order s))
    (hu : u = edgeAct s e rising order (setBinding s i (.joined rising 0))) :
    t.table = u.table ∧ t.lamps = u.lamps ∧ t.tanks.recs = u.tanks.recs ∧
      (∀ f, flagBits u f = ⟨true, true⟩ → flagBits t f = ⟨true, true⟩) ∧
      t.heater = { u.heater with cabinDue := t.heater.cabinDue } := by
  obtain ⟨hbefore, hafter⟩ := edge_active h
  obtain ⟨hevent, hbinding, -, -, -⟩ := h
  have hform : changeBinding i (.joined rising 0) order s =
      formEvent i e order s (setBinding s i (.joined rising 0)) := by
    unfold changeBinding
    rw [inputEvent_eq hevent]
  have hedge := formEvent_edge (i := i) order (before := s) (s := setBinding s i (.joined rising 0)) (e := e)
    (by rw [hbefore, hafter]; exact Bool.not_ne_self rising)
    ((eventMapped_of_joined hevent hbinding).trans (setBinding_mapped hevent rising 0).symm)
  rw [hafter, ← hu] at hedge
  rw [hform] at ht
  obtain ⟨htable, hlamps, hrecs, hlink, hheater⟩ := hedge
  generalize formEvent i e order s (setBinding s i (.joined rising 0)) = v at *
  have hkept : t.heater = v.heater := by rw [ht]; simp
  refine ⟨by rw [ht]; simp [htable], by rw [ht]; simp [hlamps], by rw [ht]; simp [hrecs],
    fun f hf => ?_, ?_⟩
  · rw [ht]
    exact flagBits_settle_of_raised ((flagBits_of_flags (by rw [hlink]) f).trans hf)
  · rw [hkept]
    exact hheater

end

end Sys2Proof.Machine
end

section
/-! PROOFS. What the owner of an event does at its edge (R61, R62, R66, R80, R93, R96), as rules about its own
operation. -/

namespace Sys2Proof.Machine

/-! ## Lamps, scenes and the pump (R61, R66, R96) -/

section
variable (s : State)

/-- Origins replaced as one event of the loads: those of the record named, and no other. -/
theorem originEvent_setOrigins (ch : Channel) (o : OriginSet) :
    origins (originEvent s (setOrigins s ch o)) ch = o ∧
      OriginsKeptBut [ch] s (originEvent s (setOrigins s ch o)) := by
  have hsame := originEvent_same s (setOrigins s ch o)
  refine ⟨?_, fun c hc => ?_⟩
  · rw [hsame.get, origins_setOrigins, if_pos rfl]
  · rw [hsame.get, origins_setOrigins, if_neg (fun heq => hc (by simp [heq]))]

theorem wallPress_origins (k : Fin 6) :
    origins (wallPress k s) (chLamp k) =
        (if 0 < lampTarget s k then
          { origins s (chLamp k) with host := none, schedule := none, switch := none, scene := none }
        else { origins s (chLamp k) with switch := some (s.params.switchLevel k) }) ∧
      OriginsKeptBut [chLamp k] s (wallPress k s) := by
  unfold wallPress
  split
  · exact originEvent_setOrigins s (chLamp k) _
  · exact originEvent_setOrigins s (chLamp k) _

theorem pumpEdge_origins (rising : Bool) :
    origins (pumpEdge rising s) chPump =
        (if rising = false then { origins s chPump with switch := none }
        else if pumpGuard s then origins s chPump
        else { origins s chPump with switch := some 0 }) ∧
      OriginsKeptBut [chPump] s (pumpEdge rising s) := by
  unfold pumpEdge putOrigin
  cases rising with
  | false =>
    simp only [Bool.false_eq_true, if_false, if_true]
    exact originEvent_setOrigins s chPump _
  | true =>
    simp only [if_true, Bool.true_eq_false, if_false]
    split
    · exact ⟨rfl, fun _ _ => rfl⟩
    · exact originEvent_setOrigins s chPump _

theorem sceneSelectEdge_none (rising : Bool)
    (h : (if rising then s.params.val 57 else s.params.val 58) < 0) : sceneSelectEdge rising s = s := by
  unfold sceneSelectEdge
  exact if_pos h

theorem sceneSelectEdge_recalls (rising : Bool) {k : Fin 4}
    (h : (if rising then s.params.val 57 else s.params.val 58) = (k.val : Int)) :
    (∀ j : Fin 6, origins (sceneSelectEdge rising s) (chLamp j) =
        recalledOrigins s.lamps.scenes[k][j] (origins s (chLamp j))) ∧
      OriginsKeptBut (allLamps.map chLamp) s (sceneSelectEdge rising s) := by
  have hedge : sceneSelectEdge rising s = (sceneRecallOp (BitVec.ofNat 8 k.val) s).2 := by
    unfold sceneSelectEdge Params.sceneOn Params.sceneOff
    simp only [h]
    rw [if_neg (by omega), Int.toNat_natCast]
  have hnumber : (BitVec.ofNat 8 k.val).toNat = k.val := by
    rw [BitVec.toNat_ofNat, Nat.mod_eq_of_lt (by omega)]
  rw [hedge]
  exact (sceneRecallOp_recalls hnumber s).2

end

/-! ## The arbiter and the origins (R114, R118) -/

/-- From `s` to `t`: what the arbiter leaves, which claims the load of DRIVE alone. -/
def ArbiterKeeps (s t : State) : Prop :=
  OriginsKeptBut [chDrive] s t ∧ t.lamps.entryDue = s.lamps.entryDue ∧ t.params = s.params ∧
    t.now = s.now

namespace ArbiterKeeps
variable {s t u : State}

theorem refl (s : State) : ArbiterKeeps s s := ⟨fun _ _ => rfl, rfl, rfl, rfl⟩

theorem trans (h : ArbiterKeeps s t) (k : ArbiterKeeps t u) : ArbiterKeeps s u := by
  obtain ⟨horigins, hdue, hparams, hnow⟩ := h
  obtain ⟨korigins, kdue, kparams, know⟩ := k
  exact ⟨fun ch hch => (korigins ch hch).trans (horigins ch hch), kdue.trans hdue, kparams.trans hparams,
    know.trans hnow⟩

theorem of_table (htable : t.table = s.table) (hdue : t.lamps.entryDue = s.lamps.entryDue)
    (hparams : t.params = s.params) (hnow : t.now = s.now) : ArbiterKeeps s t :=
  ⟨fun ch _ => by simp [origins, htable], hdue, hparams, hnow⟩

end ArbiterKeeps

section
variable (s : State)

theorem finishMotion_arbiterKeeps (o : Owner) (r : MotionResult) : ArbiterKeeps s (finishMotion o r s) :=
  .of_table (by simp) (by simp) (by simp) (by simp [State.now])

theorem claim_arbiterKeeps (o : Owner) (k : Origin) : ArbiterKeeps s (claim o k s) := by
  refine ⟨fun ch hch => ?_, by simp [claim], by simp [claim], by simp [claim, State.now]⟩
  unfold claim
  rw [(reevaluate_same _ _).get, origins_putOrigin, if_neg (fun heq => hch (by simp [heq]))]
  rfl

theorem takeClaimant_arbiterKeeps (o : Owner) : ArbiterKeeps s (takeClaimant o s) := by
  have hslot : ∀ (a : Actuator) (i : Fin 16), ArbiterKeeps s (takeSlot a i s) := fun a i => by
    simp only [takeSlot]
    split
    · exact .trans (.of_table (by simp) (by simp) (by simp) (by simp [State.now]))
        (finishMotion_arbiterKeeps _ _ _)
    · exact .trans (.of_table (by simp) (by simp) (by simp) (by simp [State.now]))
        (claim_arbiterKeeps _ _ _)
  have hoverride : ∀ a : Actuator, ArbiterKeeps s (takeOverride a s) := fun a => by
    unfold takeOverride
    split
    · exact finishMotion_arbiterKeeps _ _ _
    · exact .trans (.of_table (by simp) (by simp) (by simp) (by simp [State.now]))
        (claim_arbiterKeeps _ _ _)
  unfold takeClaimant
  split
  · exact .of_table rfl rfl rfl rfl
  · split
    · exact hslot _ _
    · exact hoverride _

theorem arbitrateN_arbiterKeeps (n : Nat) (s : State) : ArbiterKeeps s (arbitrateN n s) := by
  induction n generalizing s with
  | zero => exact .refl s
  | succ n ih =>
    unfold arbitrateN
    repeat' split
    · exact .refl s
    · exact (takeClaimant_arbiterKeeps s _).trans (ih _)
    · exact .refl s

theorem ArbiterKeeps.arbitrate {s t : State} (h : ArbiterKeeps s t) : ArbiterKeeps s (arbitrate t) :=
  h.trans (arbitrateN_arbiterKeeps 19 t)

theorem postMotion_arbiterKeeps (a : Actuator) (act : MoveAction) (target : Nat) (notify : Bool)
    (origin : MoveOrigin) : ArbiterKeeps s (postMotion a act target notify origin s).2.2 := by
  simp only [postMotion]
  repeat' split
  any_goals exact .refl s
  all_goals
    exact .arbitrate (.of_table (by simp) (by simp) (by simp) (by simp [State.now]))

theorem doorStep_arbiterKeeps (rising : Bool) : ArbiterKeeps s (doorStep rising s) := by
  unfold doorStep
  exact ite_keeps (ArbiterKeeps s) _ _ _ (postMotion_arbiterKeeps s _ _ _ _ _) (.refl s)

end

/-! ## Two hand-offs (log 3) -/

theorem inOrder_single (order : List HandOff) (a : HandOff) (f : State → State) (s : State) :
    inOrder order [(a, f)] s = f s := by
  induction order with
  | nil => rfl
  | cons k rest ih =>
    unfold inOrder
    by_cases hak : a = k
    · have hdone : ∀ t, inOrder rest [] t = t := fun t =>
        inOrder_keeps (· = t) rest [] t rfl fun _ hb => absurd hb (by simp)
      simp [hak, hdone]
    · simp [hak, ih]

theorem inOrder_pair (order : List HandOff) {a b : HandOff} (hab : a ≠ b) (f g : State → State)
    (s : State) :
    inOrder order [(a, f), (b, g)] s = g (f s) ∨ inOrder order [(a, f), (b, g)] s = f (g s) := by
  induction order with
  | nil => exact .inl rfl
  | cons k rest ih =>
    unfold inOrder
    by_cases hak : a = k
    · have hbk : b ≠ k := hak ▸ hab.symm
      simp [hak, hbk, inOrder_single]
    · by_cases hbk : b = k
      · simp [hak, hbk, inOrder_single]
      · simpa [hak, hbk] using ih

/-! ## The door (R62) -/

/-- What an edge of DOOR_OPEN makes of the entry light on the channel `k`. -/
def EntryFollows (k : Fin 6) (rising : Bool) (s t : State) : Prop :=
  t.lamps.entryDue =
      (if rising = true ∨ s.lamps.entryDue.isSome = true then
        some (s.ahead (s.params.entryHold * 16))
      else none) ∧
    origins t (chLamp k) =
      (if rising then { origins s (chLamp k) with entry := some s.params.entryLevel }
      else origins s (chLamp k)) ∧
    OriginsKeptBut [chLamp k, chDrive] s t

section
variable {s : State} (rising : Bool)

theorem entryDoor_off (h : eventActive s .ignitionOn = true ∨ s.params.entryChannel < 0) :
    entryDoor rising s = s := by
  unfold entryDoor
  split
  · rfl
  · next hoff =>
    have hneg : s.params.entryChannel < 0 := h.resolve_left hoff
    have hnone : entryChannel s = none := by
      unfold entryChannel
      rw [dif_neg (by omega)]
    rw [hnone]

theorem entryDoor_follows (hoff : eventActive s .ignitionOn = false) {k : Fin 6}
    (hk : s.params.entryChannel = (k.val : Int)) : EntryFollows k rising s (entryDoor rising s) := by
  have hchannel : entryChannel s = some k := by
    unfold entryChannel
    rw [dif_pos (by omega)]
    simp [hk]
  unfold entryDoor putOrigin
  simp only [hoff, hchannel, Bool.false_eq_true, if_false]
  split
  · next hrising =>
    subst hrising
    refine ⟨by simp [setOrigins, setRec, setEntryDue, entryDueFromNow], ?_, fun ch hch => ?_⟩
    · rw [(originEvent_same _ _).get, origins_setOrigins, if_pos rfl, if_pos rfl]
      rfl
    · rw [(originEvent_same _ _).get, origins_setOrigins, if_neg (fun heq => hch (by simp [heq]))]
      rfl
  · next hfalling =>
    split
    · next hstands =>
      exact ⟨by rw [if_pos (.inr hstands)]; rfl, by rw [if_neg hfalling]; rfl, fun _ _ => rfl⟩
    · next hdark =>
      have hnone : s.lamps.entryDue = none := by simpa [entryStands] using hdark
      exact ⟨by simp [hfalling, hnone], by rw [if_neg hfalling], fun _ _ => rfl⟩

end

section
variable {s t u : State} {k : Fin 6} {rising : Bool}

theorem EntryFollows.then_arbiter (h : EntryFollows k rising s t) (hk : ArbiterKeeps t u) :
    EntryFollows k rising s u := by
  obtain ⟨hdue, hown, hothers⟩ := h
  obtain ⟨korigins, kdue, -, -⟩ := hk
  refine ⟨kdue.trans hdue, (korigins _ ?_).trans hown, fun ch hch => (korigins ch ?_).trans (hothers ch hch)⟩
  · simp only [List.mem_singleton, chLamp, chDrive, Fin.ext_iff]
    omega
  · exact fun hd => hch (by simp_all)

theorem EntryFollows.of_arbiter (hk : ArbiterKeeps s t) (h : EntryFollows k rising t u) :
    EntryFollows k rising s u := by
  obtain ⟨hdue, hown, hothers⟩ := h
  obtain ⟨korigins, kdue, kparams, know⟩ := hk
  have hlamp : origins t (chLamp k) = origins s (chLamp k) := korigins _ (by
    simp only [List.mem_singleton, chLamp, chDrive, Fin.ext_iff]
    omega)
  refine ⟨?_, ?_, fun ch hch => (hothers ch hch).trans (korigins ch fun hd => hch (by simp_all))⟩
  · simp only [hdue, kdue, kparams, State.ahead, know]
  · simp only [hown, hlamp, kparams]

end

section
variable {s : State} (rising : Bool) (order : List HandOff)

/-- With the ignition on, or without an entry channel, an edge of the door lights nothing (R62). -/
theorem doorEdge_off (h : eventActive s .ignitionOn = true ∨ s.params.entryChannel < 0) :
    ArbiterKeeps s (doorEdge rising order s) := by
  have hstep := doorStep_arbiterKeeps s rising
  have hactive := (doorStep_pins s rising).active .ignitionOn
  unfold doorEdge
  rcases inOrder_pair order (by decide : HandOff.doorLamps ≠ .doorMotion) (entryDoor rising)
    (doorStep rising) s with hd | hd <;> rw [hd]
  · rwa [entryDoor_off rising h]
  · rwa [entryDoor_off rising (by rw [hactive, hstep.2.2.1]; exact h)]

theorem doorEdge_follows (hoff : eventActive s .ignitionOn = false) {k : Fin 6}
    (hk : s.params.entryChannel = (k.val : Int)) : EntryFollows k rising s (doorEdge rising order s) := by
  have hstep := doorStep_arbiterKeeps s rising
  have hactive := (doorStep_pins s rising).active .ignitionOn
  unfold doorEdge
  rcases inOrder_pair order (by decide : HandOff.doorLamps ≠ .doorMotion) (entryDoor rising)
    (doorStep rising) s with hd | hd <;> rw [hd]
  · exact (entryDoor_follows rising hoff hk).then_arbiter (doorStep_arbiterKeeps _ rising)
  · exact .of_arbiter hstep
      (entryDoor_follows rising (hactive.trans hoff) (by rw [hstep.2.2.1]; exact hk))

end

/-! ## The flame and the ignition (R80, R93) -/

section
variable {s : State}

theorem flameLoss_kept (h : s.heater.state ≠ .running) : flameLoss s = s := by
  unfold flameLoss
  simp [h]

theorem addFailure_heater :
    (addFailure s).heater.failed = min 3 (s.heater.failed + 1) ∧
      (2 ≤ s.heater.failed → (addFailure s).heater.latch = true ∧
        flagBits (addFailure s) .heaterLockout = ⟨true, true⟩) ∧
      (s.heater.failed < 2 → (addFailure s).heater.latch = s.heater.latch) := by
  unfold addFailure
  simp only
  split
  · next h3 =>
    refine ⟨by simp [h3], fun _ => ⟨by simp, by rw [flagBits_raiseFlag, if_pos rfl]⟩, fun hlt => ?_⟩
    omega
  · next h3 => exact ⟨rfl, fun hle => absurd (by omega) h3, fun _ => rfl⟩

/-- R80: the loss of the flame in RUNNING is a failed start, and purges. -/
theorem flameLoss_fails (hrun : s.heater.state = .running) (hmapped : eventMapped s .heaterFlame = true) :
    (flameLoss s).heater.state = .purging ∧
      (flameLoss s).heater.failed = min 3 (s.heater.failed + 1) ∧
      (flameLoss s).heater.purgeDue = some (s.ahead (s.params.purgeTime * 16)) ∧
      (2 ≤ s.heater.failed → (flameLoss s).heater.latch = true ∧
        flagBits (flameLoss s) .heaterLockout = ⟨true, true⟩) ∧
      (s.heater.failed < 2 → (flameLoss s).heater.latch = s.heater.latch) := by
  obtain ⟨hfailed, hlatched, hlatch⟩ := addFailure_heater (s := s)
  have hloss : flameLoss s = heaterSettle s (enterPurging (addFailure s)) := by
    unfold flameLoss
    simp [hrun, hmapped]
  have hheater : (flameLoss s).heater = (enterPurging (addFailure s)).heater := by
    rw [hloss, heaterSettle, if_neg (by rw [hrun]; simp [enterPurging]),
      reevaluateAlways_heater_of_purging (by simp [enterPurging])]
    simp
  have hflag : flagBits (flameLoss s) .heaterLockout = flagBits (addFailure s) .heaterLockout := by
    rw [hloss, (heaterSettle_acted _ s).flags _ (by decide)]
    rfl
  have hdue : (enterPurging (addFailure s)).heater.purgeDue =
      some (s.ahead (s.params.purgeTime * 16)) := by
    simp [enterPurging, State.ahead, State.now]
  rw [hheater, hflag]
  exact ⟨rfl, hfailed, hdue, hlatched, hlatch⟩

theorem TankRec.hold_hold (t : TankRec) : t.hold.hold = t.hold := by
  unfold TankRec.hold
  cases h : t.source <;> simp [h]

theorem TankRec.hold_eq (t : TankRec) :
    t.hold =
      { t with
        source :=
          match t.source with
          | .parked => .held (levelInUse t)
          | .held l => .held l } := by
  obtain ⟨raw, sender, window, source, threshold⟩ := t
  cases source <;> rfl

theorem tankRec_hold (k : Fin 3) : tankRec (ignitionHold s) k = (tankRec s k).hold := by
  simp [tankRec, ignitionHold]

theorem tankRec_refill (k : Fin 3) : tankRec (ignitionRefill s) k = { tankRec s k with window := [] } := by
  simp [tankRec, ignitionRefill]

/-- The hand-offs of the rising edge of IGNITION_ON (R93, R133, R143). -/
def ignitionActs : List (HandOff × (State → State)) :=
  [(.ignitionTanks, ignitionTanksEdge true), (.ignitionDrive, ignitionAbort), (.ignitionMotion, raiseAllOut)]

theorem ignitionEdge_rising (order : List HandOff) :
    ignitionEdge true order s = arbitrate (inOrder order ignitionActs s) := by
  unfold ignitionEdge
  exact if_pos rfl

/-- A hand-off of that edge holds the tanks or leaves them. -/
theorem ignitionActs_tankRec {a : HandOff × (State → State)} (ha : a ∈ ignitionActs) (k : Fin 3)
    (t : State) : tankRec (a.2 t) k = (tankRec t k).hold ∨ tankRec (a.2 t) k = tankRec t k := by
  simp only [ignitionActs, List.mem_cons, List.not_mem_nil, or_false] at ha
  rcases ha with rfl | rfl | rfl
  · exact .inl (tankRec_hold k)
  · exact .inr (by simp [tankRec])
  · exact .inr (by simp [tankRec])

/-- R93: with the ignition on the tanks hold the level in use, whatever else the edge ends. -/
theorem ignitionEdge_holds (order : List HandOff) (k : Fin 3) :
    tankRec (ignitionEdge true order s) k = (tankRec s k).hold := by
  have hsame : (tankRec (inOrder order ignitionActs s) k).hold = (tankRec s k).hold :=
    inOrder_keeps (fun t => (tankRec t k).hold = (tankRec s k).hold) _ _ _ rfl fun a ha t ht => by
      rcases ignitionActs_tankRec ha k t with h | h
      · rw [h, TankRec.hold_hold, ht]
      · rw [h, ht]
  have hheld : (tankRec (inOrder order ignitionActs s) k).hold = tankRec (inOrder order ignitionActs s) k :=
    inOrder_establishes (a := (.ignitionTanks, ignitionTanksEdge true))
      (fun t => (tankRec t k).hold = tankRec t k) order s (by decide) (by simp [ignitionActs])
      (fun t => (congrArg TankRec.hold (tankRec_hold k)).trans
        ((TankRec.hold_hold _).trans (tankRec_hold k).symm))
      fun b hb t ht => by
        rcases ignitionActs_tankRec hb k t with h | h
        · rw [h, TankRec.hold_hold]
        · rw [h, ht]
  have harbiter : tankRec (ignitionEdge true order s) k = tankRec (inOrder order ignitionActs s) k := by
    rw [ignitionEdge_rising]
    simp [tankRec]
  rw [harbiter, ← hheld, hsame]

end

end Sys2Proof.Machine
end

section
/-! PROOFS. The levels that a debounce takes, and what each owner's act makes of the machine (R160 to R162). -/

namespace Sys2Proof.Machine

/-! ## The level taken (R160, R162) -/

section
variable {s t : State} {i : Fin 16} {e : InputEvent} {c : Bool} {order : List HandOff}

/-- The pin and its event after the debounce has joined the pin at a level. -/
theorem settled_joined (h : (pinAt s i).event = some (.input e))
    (ht : t = settle s (changeBinding i (.joined c 0) order s)) :
    pinAt t i = { pinAt s i with binding := .joined c 0 } ∧ eventMapped t e = true ∧
      ∀ e', eventActive t e' = eventActive (setBinding s i (.joined c 0)) e' := by
  have hpins : t.pins = (changeBinding i (.joined c 0) order s).pins := by rw [ht]; simp
  have hstand : PinsStand (setBinding s i (.joined c 0)) t :=
    (changeBinding_pins h order (.joined c 0)).then_pins hpins
  refine ⟨?_, (hstand.mapped e).trans (setBinding_mapped h c 0), hstand.active⟩
  rw [← changeBinding_joined h order c]
  simp only [pinAt, hpins]

theorem settled_budget (h : (pinAt s i).event = some (.input e)) {c' : Bool} {n : Nat}
    (hb : (pinAt s i).binding = .joined c' n)
    (ht : t = settle s (changeBinding i (.joined c 0) order s))
    (hedge : eventActive t e ≠ eventActive s e) (he : e = .shorePresent ∨ e = .loadLimit) :
    t.table.budget = budgetNow t := by
  have hpins : t.pins = (changeBinding i (.joined c 0) order s).pins := by rw [ht]; simp
  have hactive : ∀ e', eventActive t e' = eventActive (changeBinding i (.joined c 0) order s) e' :=
    fun e' => eventActive_of_pins hpins e'
  have hbudget : budgetNow t = budgetNow (changeBinding i (.joined c 0) order s) :=
    budgetNow_congr (by rw [ht]; simp) (by rw [ht]; simp) hactive
  rw [hactive] at hedge
  rw [hbudget, ← changeBinding_budget h he hb order hedge, ht]
  simp

end

/-! ## The owners' acts (R161, R162) -/

section
variable {s t : State} {i : Fin 16} {rising : Bool} {n : Nat} {xs : List Bool} (order : List HandOff)

/-- From `s` to `v`: a binding of the event `e` has changed, and nothing has followed yet. -/
structure BindingChanged (e : InputEvent) (s v : State) : Prop where
  table : v.table = s.table
  lamps : v.lamps = s.lamps
  heater : v.heater = s.heater
  tanks : v.tanks = s.tanks
  params : v.params = s.params
  now : v.now = s.now
  active : ∀ e', e' ≠ e → eventActive v e' = eventActive s e'
  mapped : eventMapped v e = true

theorem BindingChanged.origins {e : InputEvent} {v : State} (h : BindingChanged e s v) (ch : Channel) :
    origins v ch = origins s ch := by
  simp only [Machine.origins, h.table]

theorem origins_of_table {u : State} (h : t.table = u.table) (ch : Channel) :
    origins t ch = origins u ch := by
  simp only [origins, h]

/-- An edge is the act of the event's owner on a state whose binding has changed. -/
theorem edge_owner {e : InputEvent} (h : EdgeAt i e rising n xs s)
    (ht : t = settle s (changeBinding i (.joined rising 0) order s)) :
    ∃ v u, BindingChanged e s v ∧ u = edgeAct s e rising order v ∧
      t.table = u.table ∧ t.lamps = u.lamps ∧ t.tanks.recs = u.tanks.recs ∧
      (∀ f, flagBits u f = ⟨true, true⟩ → flagBits t f = ⟨true, true⟩) ∧
      t.heater = { u.heater with cabinDue := t.heater.cabinDue } :=
  ⟨setBinding s i (.joined rising 0), _,
    { table := rfl
      lamps := rfl
      heater := rfl
      tanks := rfl
      params := rfl
      now := rfl
      active := fun _ he' => setBinding_active h.1 he'
      mapped := setBinding_mapped h.1 rising 0 },
    rfl, edge_acts h order ht rfl⟩

/-- R61: an edge of a wall switch. -/
theorem edge_lightSwitch {k : Fin 6} (h : EdgeAt i (.lightSwitch k) rising n xs s)
    (ht : t = settle s (changeBinding i (.joined rising 0) order s)) :
    origins t (chLamp k) =
        (if rising = false then origins s (chLamp k)
        else if 0 < lampTarget s k then
          { origins s (chLamp k) with host := none, schedule := none, switch := none, scene := none }
        else { origins s (chLamp k) with switch := some (s.params.switchLevel k) }) ∧
      OriginsKeptBut [chLamp k] s t := by
  obtain ⟨v, u, hv, hu, htable, -⟩ := edge_owner order h ht
  have horigins := hv.origins
  have hof := origins_of_table htable
  simp only [edgeAct] at hu
  cases rising with
  | false =>
    rw [hu] at hof
    exact ⟨(hof _).trans (horigins _), fun ch _ => (hof ch).trans (horigins ch)⟩
  | true =>
    obtain ⟨hown, hothers⟩ := wallPress_origins v k
    have hlevel : lampTarget v k = lampTarget s k := congrArg OriginSet.level (horigins _)
    rw [hlevel, horigins, hv.params] at hown
    simp only [if_true] at hu
    rw [if_neg (by decide), hof, hu]
    exact ⟨hown, fun ch hch => by rw [hof, hu, hothers ch hch, horigins]⟩

/-- R96: an edge of PUMP_DEMAND. -/
theorem edge_pumpDemand (h : EdgeAt i .pumpDemand rising n xs s)
    (ht : t = settle s (changeBinding i (.joined rising 0) order s)) :
    origins t chPump =
        (if rising = false then { origins s chPump with switch := none }
        else if pumpGuard s then origins s chPump
        else { origins s chPump with switch := some 0 }) ∧
      OriginsKeptBut [chPump] s t := by
  obtain ⟨v, u, hv, hu, htable, -⟩ := edge_owner order h ht
  have horigins := hv.origins
  have hof := origins_of_table htable
  have hguard : pumpGuard v = pumpGuard s := by
    simp only [pumpGuard, guardDry, guardDrained, guardFault, guardGrey, hv.tanks, hv.params]
  obtain ⟨hown, hothers⟩ := pumpEdge_origins v rising
  rw [horigins, hguard] at hown
  simp only [edgeAct] at hu
  rw [hof, hu]
  exact ⟨hown, fun ch hch => by rw [hof, hu, hothers ch hch, horigins]⟩

/-- R66: an edge of SCENE_SELECT. -/
theorem edge_sceneSelect (h : EdgeAt i .sceneSelect rising n xs s)
    (ht : t = settle s (changeBinding i (.joined rising 0) order s)) :
    ((if rising then s.params.val 57 else s.params.val 58) < 0 → OriginsKeptBut [] s t) ∧
      ∀ k : Fin 4, (if rising then s.params.val 57 else s.params.val 58) = (k.val : Int) →
        (∀ j : Fin 6, origins t (chLamp j) =
          recalledOrigins s.lamps.scenes[k][j] (origins s (chLamp j))) ∧
        OriginsKeptBut (allLamps.map chLamp) s t := by
  obtain ⟨v, u, hv, hu, htable, -⟩ := edge_owner order h ht
  have horigins := hv.origins
  have hof := origins_of_table htable
  simp only [edgeAct] at hu
  rw [← hv.params]
  refine ⟨fun hneg ch _ => ?_, fun k hk => ?_⟩
  · rw [hof, hu, sceneSelectEdge_none v rising hneg, horigins]
  · obtain ⟨hlamps, hothers⟩ := sceneSelectEdge_recalls v rising hk
    refine ⟨fun j => ?_, fun ch hch => by rw [hof, hu, hothers ch hch, horigins]⟩
    rw [hof, hu, hlamps, horigins, hv.lamps]

/-- R62: an edge of DOOR_OPEN. -/
theorem edge_doorOpen (h : EdgeAt i .doorOpen rising n xs s)
    (ht : t = settle s (changeBinding i (.joined rising 0) order s)) :
    (eventActive s .ignitionOn = true ∨ s.params.entryChannel < 0 →
        OriginsKeptBut [chDrive] s t ∧ t.lamps.entryDue = s.lamps.entryDue) ∧
      (eventActive s .ignitionOn = false → ∀ k : Fin 6, s.params.entryChannel = (k.val : Int) →
        EntryFollows k rising s t) := by
  obtain ⟨v, u, hv, hu, htable, hlamps, -⟩ := edge_owner order h ht
  have horigins := hv.origins
  have hof := origins_of_table htable
  simp only [edgeAct] at hu
  rw [← hv.active .ignitionOn (by decide), ← hv.params]
  refine ⟨fun hoff => ?_, fun hoff k hk => ?_⟩
  · obtain ⟨hothers, hdue, -, -⟩ := doorEdge_off rising order hoff
    exact ⟨fun ch hch => by rw [hof, hu, hothers ch hch, horigins], by rw [hlamps, hu, hdue, hv.lamps]⟩
  · obtain ⟨hdue, hown, hothers⟩ := doorEdge_follows rising order hoff hk
    refine ⟨?_, ?_, fun ch hch => by rw [hof, hu, hothers ch hch, horigins]⟩
    · rw [hlamps, hu, hdue, hv.lamps, hv.params, State.ahead, hv.now, State.ahead]
    · rw [hof, hu, hown, horigins, hv.params]

/-- R80: an edge of HEATER_FLAME. -/
theorem edge_heaterFlame (h : EdgeAt i .heaterFlame rising n xs s)
    (ht : t = settle s (changeBinding i (.joined rising 0) order s)) :
    (rising = false → s.heater.state = .running →
        t.heater.state = .purging ∧ t.heater.failed = min 3 (s.heater.failed + 1) ∧
          t.heater.purgeDue = some (s.ahead (s.params.purgeTime * 16)) ∧
          (2 ≤ s.heater.failed → t.heater.latch = true ∧ flagBits t .heaterLockout = ⟨true, true⟩) ∧
          (s.heater.failed < 2 → t.heater.latch = s.heater.latch)) ∧
      (rising = true ∨ s.heater.state ≠ .running →
        t.heater = { s.heater with cabinDue := t.heater.cabinDue } ∧ t.table = s.table) := by
  obtain ⟨v, u, hv, hu, htable, -, -, hflags, hheater⟩ := edge_owner order h ht
  simp only [edgeAct] at hu
  refine ⟨fun hfalling hrun => ?_, fun hkept => ?_⟩
  · rw [hfalling] at hu
    simp only [Bool.false_eq_true, if_false] at hu
    obtain ⟨hstate, hfailed, hdue, hlatched, hlatch⟩ :=
      flameLoss_fails (s := v) (by rw [hv.heater]; exact hrun) hv.mapped
    rw [← hu, hv.heater] at hfailed hlatched hlatch
    rw [← hu] at hstate hdue
    rw [hv.params, State.ahead, hv.now] at hdue
    rw [hheater]
    exact ⟨hstate, hfailed, hdue, fun h2 => ⟨(hlatched h2).1, hflags _ (hlatched h2).2⟩, hlatch⟩
  · have hact : u = v := by
      rw [hu]
      rcases hkept with hrising | hrun
      · rw [if_pos hrising]
      · rw [flameLoss_kept (by rwa [hv.heater]), ite_self]
    rw [hact] at htable hheater
    exact ⟨by rw [hheater, hv.heater], htable.trans hv.table⟩

/-- R93: an edge of IGNITION_ON. -/
theorem edge_ignitionOn (h : EdgeAt i .ignitionOn rising n xs s)
    (ht : t = settle s (changeBinding i (.joined rising 0) order s)) (k : Fin 3) :
    tankRec t k = if rising then (tankRec s k).hold else { tankRec s k with window := [] } := by
  obtain ⟨v, u, hv, hu, -, -, hrecs, -⟩ := edge_owner order h ht
  have htank : tankRec t k = tankRec u k := by simp only [tankRec, hrecs]
  have hbefore : tankRec v k = tankRec s k := by simp only [tankRec, hv.tanks]
  simp only [edgeAct] at hu
  rw [htank, hu, ← hbefore]
  cases rising with
  | false => exact tankRec_refill k
  | true => exact ignitionEdge_holds order k

end

/-! ## The obligation -/

/-- Settles O51: a debounce that completes is the change of one binding; what forms the event keeps the other
pins, and the edge is the act of the event's owner. -/
theorem debouncedPinsTakeTheLevel : Obligations.DebouncedPinsTakeTheLevel := by
  unfold Obligations.DebouncedPinsTakeTheLevel
  refine ⟨fun s i e level c order n => ?levels, fun s i e rising n xs order h he _ => ?edges⟩
  case levels =>
    intro need kept hevent he hs
    refine ⟨fun hb hn hlevel => ?_, fun hb hlevel => exec_debounceComplete_level hevent he hs hb hlevel order,
      fun hb => ?_⟩
    · refine ⟨_, exec_debounceComplete_edge hevent he hb hn hlevel order, ?_⟩
      generalize ht : settle s (changeBinding i (.joined (!c) 0) order s) = t
      obtain ⟨hpin, -, -⟩ := settled_joined hevent ht.symm
      exact ⟨hpin, changeBinding_kept hevent order _ ht.symm, settled_budget hevent hb ht.symm⟩
    · refine ⟨_, exec_pinJoin hevent hb level order, ?_⟩
      generalize ht : settle s (changeBinding i (.joined ((pinAt s i).converted level) 0) order s) = t
      obtain ⟨hpin, hmapped, -⟩ := settled_joined hevent ht.symm
      exact ⟨hpin, hmapped, changeBinding_kept hevent order _ ht.symm⟩
  case edges =>
    refine ⟨_, exec_edge h he order, ?_⟩
    generalize ht : settle s (changeBinding i (.joined rising 0) order s) = t
    obtain ⟨-, hmapped, hactive⟩ := settled_joined h.1 ht.symm
    refine ⟨(hactive e).trans (edge_active h).2, hmapped, ?_, ?_, ?_, ?_, ?_, ?_⟩
    · rintro k rfl
      exact edge_lightSwitch order h ht.symm
    · rintro rfl
      exact edge_sceneSelect order h ht.symm
    · rintro rfl
      exact edge_doorOpen order h ht.symm
    · rintro rfl
      exact edge_pumpDemand order h ht.symm
    · rintro rfl
      exact edge_heaterFlame order h ht.symm
    · rintro rfl k
      rw [edge_ignitionOn order h ht.symm]
      cases rising with
      | false => rfl
      | true => exact TankRec.hold_eq _

end Sys2Proof.Machine
end

section
/-! PROOFS. The lamps through a re-evaluation (R44, R56, R58 to R60, R67): what the hand-offs of a walk make
of one lamp, an output that is held at 0 outside ACTIVE, and a fade that has ended. -/

namespace Sys2Proof.Machine

/-! ## One lamp under the hand-offs (R44, R60) -/

section
variable (s : State) (i j : Fin 6)

theorem lamp_setLamp (x : Lamp) :
    (setLamp s j x).lamps.chans[i] = if j = i then x else s.lamps.chans[i] := by
  unfold setLamp
  exact vput_get _ _ _ _

theorem lamp_darken :
    (darken s j).lamps.chans[i] =
      if j = i then ((s.lamps.chans[j]).jumpTo 0).withDraw s.params.lampDraw else s.lamps.chans[i] :=
  lamp_setLamp s i j _

/-- R58, R59, R67: the lamp that meets its fade target anew, before its draw. -/
def retargeted : Lamp :=
  if s.time.power ≠ .active then (s.lamps.chans[i]).jumpTo 0
  else if s.params.fadeRate = 0 then (s.lamps.chans[i]).jumpTo (fadeTarget s i)
  else (s.lamps.chans[i]).fadeTo (fadeTarget s i)

theorem lamp_retarget :
    (retarget s j).lamps.chans[i] =
      if j = i then (retargeted s j).withDraw s.params.lampDraw else s.lamps.chans[i] :=
  lamp_setLamp s i j _

end

section
variable {s : State} {i : Fin 6} {before again : List Channel}

/-- A lamp's hand-off touches no other lamp. -/
theorem lampHandOff_other {j : Fin 6} (h : j ≠ i) :
    (lampHandOff before again s j).lamps.chans[i] = s.lamps.chans[i] := by
  unfold lampHandOff
  repeat' split
  all_goals simp only [lamp_retarget, lamp_darken, if_neg h]

/-- What a shed and a grant keep of a lamp, its hand-off keeps. -/
theorem lampHandOff_keeps {R : Lamp → Prop} (h : R s.lamps.chans[i])
    (hdark : R (darken s i).lamps.chans[i])
    (hgrant : ∀ t, OnlyLampsChans s t → isGranted t (chLamp i) = true → R t.lamps.chans[i] →
      R (retarget t i).lamps.chans[i]) : R (lampHandOff before again s i).lamps.chans[i] := by
  unfold lampHandOff
  split
  · next hg =>
    split
    · exact hgrant _ (darken_frame s i) (by simpa [isGranted] using hg) hdark
    · split
      · exact h
      · exact hgrant s (by simp [OnlyLampsChans]) hg h
  · exact hdark

/-- What a lamp's own hand-off keeps of it, the hand-offs of the walk keep. -/
theorem handOff_keeps {R : Lamp → Prop} (h : R s.lamps.chans[i])
    (hown : ∀ t, OnlyLampsChans s t → R t.lamps.chans[i] →
      R (lampHandOff before again t i).lamps.chans[i]) :
    R (handOff before again s).lamps.chans[i] := by
  have hlamps : (handOff before again s).lamps = (allLamps.foldl (lampHandOff before again) s).lamps := by
    simp [handOff]
  rw [hlamps]
  refine (foldl_keeps (fun t => OnlyLampsChans s t ∧ R t.lamps.chans[i]) (lampHandOff before again)
    allLamps s ⟨by simp [OnlyLampsChans], h⟩ fun t j ht => ?_).2
  obtain ⟨hsame, ht⟩ := ht
  refine ⟨by simp [OnlyLampsChans, hsame], ?_⟩
  by_cases hj : j = i
  · exact hj ▸ hown t hsame ht
  · rw [lampHandOff_other hj]
    exact ht

/-- What every shed and every grant keep of a lamp, the walks of a re-evaluation keep. -/
theorem runWalk_keeps {R : Lamp → Prop}
    (hdark : ∀ t, OnlyLoads s t → R t.lamps.chans[i] → R (darken t i).lamps.chans[i])
    (hgrant : ∀ t, OnlyLoads s t → isGranted t (chLamp i) = true → R t.lamps.chans[i] →
      R (retarget t i).lamps.chans[i])
    (n : Nat) (h : R s.lamps.chans[i]) : R (runWalk n before s).lamps.chans[i] := by
  have hwalks : ∀ t, OnlyLoads s t → R t.lamps.chans[i] → R (runWalk n before t).lamps.chans[i] := by
    induction n generalizing before with
    | zero => exact fun _ _ ht => ht
    | succ n ih =>
      intro t hst ht
      have hhand : R (handOff before (regranted t) (walk t)).lamps.chans[i] := by
        refine handOff_keeps (by simpa using ht) fun u hu hR => lampHandOff_keeps hR ?_ ?_
        · exact hdark u (by simp [OnlyLoads, hu, hst]) hR
        · intro v hv hg hR
          exact hgrant v (by simp [OnlyLoads, hv, hu, hst]) hg hR
      unfold runWalk
      simp only
      split
      · exact hhand
      · exact ih _ (by simp [OnlyLoads, hst]) (by simpa using hhand)
  exact hwalks s (by simp [OnlyLoads]) h

end

/-! ## Dark lamps (R67) -/

/-- A lamp without light, STEADY. -/
def Lamp.Dark (x : Lamp) : Prop := x.output = 0 ∧ x.fade = .steady

theorem Lamp.dark_jumpTo (x : Lamp) (draw : Nat) : ((x.jumpTo 0).withDraw draw).Dark := ⟨rfl, rfl⟩

section
variable {s : State}

theorem darken_dark (i : Fin 6) : (darken s i).lamps.chans[i].Dark := by
  rw [lamp_darken, if_pos rfl]
  exact Lamp.dark_jumpTo _ _

/-- R67: outside ACTIVE a grant lights no lamp. -/
theorem retarget_dark (hp : s.time.power ≠ .active) (i : Fin 6) : (retarget s i).lamps.chans[i].Dark := by
  rw [lamp_retarget, if_pos rfl, retargeted, if_pos hp]
  exact Lamp.dark_jumpTo _ _

/-- R67: outside ACTIVE no re-evaluation lights a dark lamp. -/
theorem reevaluate_dark (before : State) {i : Fin 6} (hp : s.time.power ≠ .active)
    (h : (s.lamps.chans[i]).Dark) : (reevaluate before s).lamps.chans[i].Dark := by
  have hrelist : ((relist before s).lamps.chans[i]).Dark := by simpa using h
  unfold reevaluate
  simp only
  split
  · exact hrelist
  · refine runWalk_keeps (R := Lamp.Dark) (fun t _ _ => darken_dark i) (fun t ht _ _ => ?_) _ hrelist
    exact retarget_dark (by simpa [ht] using hp) i

/-- R67: every lamp is dark when the part becomes ENTERING. -/
theorem enterEntering_dark (i : Fin 6) : (enterEntering s).lamps.chans[i].Dark := by
  have hdarken : ∀ (l : List (Fin 6)) (t : State), i ∈ l ∨ (t.lamps.chans[i]).Dark →
      (l.foldl darken t).lamps.chans[i].Dark := by
    intro l
    induction l with
    | nil => exact fun t h => by simpa using h
    | cons j l ih =>
      intro t h
      refine ih _ ?_
      by_cases hj : j = i
      · exact .inr (hj ▸ darken_dark j)
      · rw [lamp_darken, if_neg hj]
        rcases h with h | h
        · exact .inl ((List.mem_cons.mp h).resolve_left (Ne.symm hj))
        · exact .inr h
  unfold enterEntering lampsDark
  exact reevaluate_dark _ (by simp) (hdarken _ _ (.inl (List.mem_finRange i)))

end

/-! ## A grant is kept, or LOAD_SHED is flagged (R39) -/

section
variable {s : State}

/-- A step 2 that sheds nothing changes nothing; any other flags LOAD_SHED. -/
theorem walkStep2_sheds (s : State) :
    walkStep2 s = s ∨ flagBits (walkStep2 s) .loadShed = ⟨true, true⟩ := by
  unfold walkStep2
  simp only
  split
  · exact .inr (by rw [flagBits_raiseFlag, if_pos rfl])
  · next h =>
    simp only [Bool.or_eq_true, not_or, Bool.not_eq_true, Option.isSome_eq_false_iff,
      Option.isNone_iff_eq_none] at h
    obtain ⟨hunserved, hfade⟩ := h
    have hnone : ∀ pick : State → Option Channel, pick s = none → shedWhile pick 13 s = s :=
      fun pick hpick => by
        unfold shedWhile
        rw [hpick]
    exact .inl (by rw [hnone _ hunserved, hnone _ hfade])

theorem walk_shedFlag (h : flagBits s .loadShed = ⟨true, true⟩) :
    flagBits (walk s) .loadShed = ⟨true, true⟩ := by
  have hstep1 : flagBits (walkStep1 s) .loadShed = ⟨true, true⟩ := by
    rw [← h]
    exact flagBits_of_flags (by simp) _
  have hstep2 : flagBits (walkStep2 (walkStep1 s)) .loadShed = ⟨true, true⟩ := by
    rcases walkStep2_sheds (walkStep1 s) with hkept | hshed
    · rw [hkept, hstep1]
    · exact hshed
  rw [← hstep2]
  exact flagBits_of_flags (by simp [walk]) _

/-- A walk keeps a grant from end to end, or it flags LOAD_SHED. -/
theorem walk_keeps_or_sheds {ch : Channel} (h : isGranted s ch = true) :
    (isGranted (walk s) ch = true ∧ ch ∉ regranted s) ∨
      flagBits (walk s) .loadShed = ⟨true, true⟩ := by
  have hstep1 : ch ∈ (walkStep1 s).table.granted := by
    unfold walkStep1
    exact foldl_keeps (fun t : State => ch ∈ t.table.granted) grantIfZero channels s
      ((isGranted_iff s ch).mp h) fun _ _ ht => mem_granted_grantIfZero ht
  rcases walkStep2_sheds (walkStep1 s) with hkept | hshed
  · refine .inl ⟨?_, fun hmem => ?_⟩
    · rw [isGranted_iff, walk]
      exact walkStep3_keeps _ (hkept.symm ▸ hstep1)
    · have hlost := (List.mem_filter.mp hmem).2
      rw [hkept, (isGranted_iff _ ch).mpr hstep1] at hlost
      simp at hlost
  · refine .inr ?_
    rw [← hshed]
    exact flagBits_of_flags (by simp [walk]) _

end

/-! ## A fade that has ended (R59) -/

/-- A lamp STEADY at its applied level, with the draw of that level. -/
structure Lamp.AtLevel (draw : Nat) (x : Lamp) : Prop where
  fade : x.fade = .steady
  fallStart : x.fallStart = none
  output : x.output = x.applied * 256
  presented : x.presented = ceilDiv (draw * x.applied) 100

/-- A lamp of a shed record is dark, or stands at its level by a new grant under a fade rate of 0. -/
def Lamp.ShedOrAtLevel (draw : Nat) (x : Lamp) : Prop := x.output = 0 ∨ x.AtLevel draw

/-- The fade of a lamp has ended, and it keeps its grant unless LOAD_SHED is flagged. -/
def FadeOver (i : Fin 6) (s : State) : Prop :=
  (isGranted s (chLamp i) = true ∧ (s.lamps.chans[i]).AtLevel s.params.lampDraw) ∨
    (flagBits s .loadShed = ⟨true, true⟩ ∧ (s.lamps.chans[i]).ShedOrAtLevel s.params.lampDraw)

theorem Lamp.atLevel_withDraw (draw : Nat) {x : Lamp} (hf : x.fade = .steady) (hs : x.fallStart = none)
    (ho : x.output = x.applied * 256) : (x.withDraw draw).AtLevel draw :=
  ⟨hf, hs, ho, by simp [Lamp.withDraw, Lamp.drawLevel, hf]⟩

/-- A granted lamp that meets its target from the dark begins to rise there, and one at its level stays. -/
theorem Lamp.fadeTo_shedOrAtLevel {draw : Nat} {x : Lamp} (h : x.ShedOrAtLevel draw) :
    ((x.fadeTo (x.applied * 256)).withDraw draw).ShedOrAtLevel draw := by
  by_cases hat : x.output = x.applied * 256
  · have hsteady : x.fadeTo (x.applied * 256) = { x with fade := .steady, fallStart := none } := by
      rw [Lamp.fadeTo, if_neg (by omega), if_pos hat]
    rw [hsteady]
    exact .inr (Lamp.atLevel_withDraw draw rfl rfl hat)
  · have hdark : x.output = 0 := h.resolve_right fun hlevel => hat hlevel.output
    rw [Lamp.fadeTo, if_pos (by omega)]
    exact .inl hdark

section
variable {s : State} {i : Fin 6}

theorem fadeTarget_of_granted (h : isGranted s (chLamp i) = true) :
    fadeTarget s i = (s.lamps.chans[i]).applied * 256 := by
  unfold fadeTarget
  rw [if_pos h]

theorem retarget_shedOrAtLevel (hg : isGranted s (chLamp i) = true)
    (h : (s.lamps.chans[i]).ShedOrAtLevel s.params.lampDraw) :
    ((retarget s i).lamps.chans[i]).ShedOrAtLevel s.params.lampDraw := by
  rw [lamp_retarget, if_pos rfl, retargeted]
  split
  · exact .inl rfl
  · rw [fadeTarget_of_granted hg]
    split
    · exact .inr (Lamp.atLevel_withDraw _ rfl rfl rfl)
    · exact Lamp.fadeTo_shedOrAtLevel h

/-- The hand-offs of one walk leave a fade that has ended as it is, or LOAD_SHED is flagged (R44, R60). -/
theorem handOff_fadeOver {before : List Channel} (hb : isGranted s (chLamp i) = true → chLamp i ∈ before)
    (h : FadeOver i s) : FadeOver i (handOff before (regranted s) (walk s)) := by
  have hparams : (handOff before (regranted s) (walk s)).params = s.params := by simp
  have hflag : flagBits (handOff before (regranted s) (walk s)) .loadShed =
      flagBits (walk s) .loadShed := flagBits_of_flags (by simp) _
  have hgranted : isGranted (handOff before (regranted s) (walk s)) (chLamp i) =
      isGranted (walk s) (chLamp i) := by simp [isGranted]
  unfold FadeOver
  rw [hparams, hflag, hgranted]
  have hshed : (s.lamps.chans[i]).ShedOrAtLevel s.params.lampDraw →
      ((handOff before (regranted s) (walk s)).lamps.chans[i]).ShedOrAtLevel s.params.lampDraw := by
    intro hx
    refine handOff_keeps (R := Lamp.ShedOrAtLevel s.params.lampDraw) (by simpa using hx) fun t ht hR =>
      lampHandOff_keeps hR ?_ fun u hu hg hR => ?_
    · rw [lamp_darken, if_pos rfl]
      exact .inl rfl
    · have hdraw : u.params.lampDraw = s.params.lampDraw := by simp [hu, ht]
      rw [← hdraw] at hR ⊢
      exact retarget_shedOrAtLevel hg hR
  rcases h with ⟨hg, hlevel⟩ | ⟨hraised, hx⟩
  · rcases walk_keeps_or_sheds hg with ⟨hstill, hfresh⟩ | hraised
    · refine .inl ⟨hstill, handOff_keeps (by simpa using hlevel) fun t ht hR => ?_⟩
      have hkept : isGranted t (chLamp i) = true := by simpa [isGranted, ht] using hstill
      unfold lampHandOff
      rw [if_pos hkept, if_neg (by simpa using hfresh), if_pos (by simpa using hb hg)]
      exact hR
    · exact .inr ⟨hraised, hshed (.inr hlevel)⟩
  · exact .inr ⟨walk_shedFlag hraised, hshed hx⟩

theorem relist_fadeOver (before : State) (hd : demanded s (chLamp i) = true) (h : FadeOver i s) :
    FadeOver i (relist before s) := by
  have hgranted : isGranted (relist before s) (chLamp i) = isGranted s (chLamp i) := by
    rw [Bool.eq_iff_iff, isGranted_iff, isGranted_iff, relist_granted]
    simp [hd]
  have hflag : flagBits (relist before s) .loadShed = flagBits s .loadShed :=
    flagBits_of_flags (by simp) _
  unfold FadeOver at h ⊢
  rw [hgranted, hflag]
  simpa using h

theorem runWalk_fadeOver (n : Nat) {before : List Channel} (hd : demanded s (chLamp i) = true)
    (hb : isGranted s (chLamp i) = true → chLamp i ∈ before) (h : FadeOver i s) :
    FadeOver i (runWalk n before s) := by
  induction n generalizing before s with
  | zero => exact h
  | succ n ih =>
    have hhand := handOff_fadeOver hb h
    have hsame : SameDemands s (handOff before (regranted s) (walk s)) :=
      (walk_same s).trans (handOff_same before _ _)
    unfold runWalk
    simp only
    generalize handOff before (regranted s) (walk s) = t at hhand hsame ⊢
    have hdt : demanded t (chLamp i) = true := (demanded_of_same hsame _).trans hd
    split
    · exact hhand
    · refine ih ((demanded_of_same (relist_same _ t) _).trans hdt) (fun hg => ?_)
        (relist_fadeOver _ hdt hhand)
      rw [isGranted_iff, relist_granted] at hg
      exact List.mem_of_mem_filter hg

/-- A fade that has ended stays so through a re-evaluation, unless LOAD_SHED is flagged (R37, R59). -/
theorem reevaluate_fadeOver {before : State} (hd : demanded s (chLamp i) = true)
    (hb : isGranted before (chLamp i) = true) (h : FadeOver i s) :
    FadeOver i (reevaluate before s) := by
  have hrelist := relist_fadeOver before hd h
  unfold reevaluate
  simp only
  split
  · exact hrelist
  · exact runWalk_fadeOver _ ((demanded_of_same (relist_same before s) _).trans hd)
      (fun _ => (isGranted_iff _ _).mp hb) hrelist

/-- No shed and no grant changes an applied level (R55). -/
theorem reevaluate_applied (before : State) (i : Fin 6) :
    ((reevaluate before s).lamps.chans[i]).applied = (s.lamps.chans[i]).applied := by
  have happlied : ∀ (y : Lamp) (draw target : Nat),
      ((y.jumpTo target).withDraw draw).applied = y.applied ∧
        ((y.fadeTo target).withDraw draw).applied = y.applied := fun y draw target => by
    refine ⟨rfl, ?_⟩
    unfold Lamp.fadeTo
    repeat' split
    all_goals rfl
  have hrelist : ((relist before s).lamps.chans[i]).applied = (s.lamps.chans[i]).applied := by simp
  unfold reevaluate
  simp only
  split
  · exact hrelist
  · refine runWalk_keeps (R := fun x => x.applied = (s.lamps.chans[i]).applied) (fun t _ hR => ?_)
      (fun t _ _ hR => ?_) _ hrelist
    · rw [lamp_darken, if_pos rfl, (happlied _ _ _).1, hR]
    · rw [lamp_retarget, if_pos rfl, retargeted, ← hR]
      repeat' split
      · exact (happlied _ _ _).1
      · exact (happlied _ _ _).1
      · exact (happlied _ _ _).2

end

/-! ## The end of a command within the loads -/

/-- What a command leaves whose effect lies within the loads of `b`, a state with the conditions of `s`. -/
theorem settle_loads {s b v : State} (hs : Settled s) (h : OnlyLoads v b)
    (hc : ∀ f, conditionHolds b f = conditionHolds s f) (hb : FlagsKeptBut [.loadShed] s v) :
    ∃ t, settle s v = t ∧ t = afterEvent v t ∧ flagBits t .loadShed = flagBits v .loadShed ∧
      FlagsKeptBut [.loadShed] s t ∧ t = afterWalk (afterEvent b t) t := by
  have hv : OnlyLoads b v := by simp only [OnlyLoads, h, and_self]
  have hevent := settle_eq_afterEvent s v
  refine ⟨_, rfl, hevent, ?_, settle_flagsKept hs (fun f => ?_) hb, eq_of_onlyLoads hevent h⟩
  · rw [flagBits_settle, if_neg (by simp [conditionHolds])]
  · rw [conditionHolds_of_loads hv, hc]

/-! ## FADE_END (R59) -/

section
variable {s : State} {i : Fin 6}

/-- The lamp whose fade has ended, before its draw. -/
def Lamp.ended (x : Lamp) : Lamp := { x with fade := .steady, fallStart := none }

theorem output_of_fadeDone (hdone : fadeDone s i = true) (hg : isGranted s (chLamp i) = true) :
    (s.lamps.chans[i]).output = (s.lamps.chans[i]).applied * 256 := by
  simp only [fadeDone, Bool.and_eq_true, decide_eq_true_eq, fadeTarget_of_granted hg] at hdone
  obtain ⟨-, houtput⟩ := hdone
  exact houtput

theorem fadeEndOp_eq (s : State) (i : Fin 6) :
    fadeEndOp i s =
      reevaluate s (setLamp s i ((s.lamps.chans[i]).ended.withDraw s.params.lampDraw)) := rfl

theorem fadeEndOp_same : SameDemands s (fadeEndOp i s) := by
  rw [fadeEndOp_eq]
  exact .trans (.of_eq (by simp) (by simp)) (reevaluate_same s _)

/-- R59: the fade of a granted lamp ends at its level. -/
theorem fadeEndOp_fadeOver (hdone : fadeDone s i = true) (hg : isGranted s (chLamp i) = true)
    (hd : demanded s (chLamp i) = true) : FadeOver i (fadeEndOp i s) := by
  rw [fadeEndOp_eq]
  refine reevaluate_fadeOver hd hg (.inl ⟨hg, ?_⟩)
  rw [lamp_setLamp, if_pos rfl]
  exact Lamp.atLevel_withDraw _ rfl rfl (output_of_fadeDone hdone hg)

theorem fadeEndOp_applied : ((fadeEndOp i s).lamps.chans[i]).applied = (s.lamps.chans[i]).applied := by
  rw [fadeEndOp_eq, reevaluate_applied, lamp_setLamp, if_pos rfl]
  rfl

/-- FADE_END of a granted lamp: STEADY at its level with its draw, or shed. -/
theorem exec_fadeEnd (hs : Settled s) (hdone : fadeDone s i = true)
    (hg : isGranted s (chLamp i) = true) (hd : demanded s (chLamp i) = true) :
    ∃ t, exec (.fadeEnd i) s = .next t ∧ FadeOver i t ∧
      (t.lamps.chans[i]).applied = (s.lamps.chans[i]).applied ∧ OriginsKeptBut [] s t ∧
      FlagsKeptBut [.loadShed] s t ∧ t = afterWalk (afterEvent s t) t := by
  have hfade := fadeEndOp_fadeOver hdone hg hd
  have happlied := fadeEndOp_applied (s := s) (i := i)
  have hsame := fadeEndOp_same (s := s) (i := i)
  obtain ⟨t, hsettle, hevent, hflag, hkept, hframe⟩ := settle_loads (v := fadeEndOp i s) hs
    (by simp [OnlyLoads]) (fun _ => rfl) fun f hf => hsame.flags f (by simpa using hf)
  refine ⟨t, ?exec, ?fade, ?applied, fun ch _ => ?origins, hkept, hframe⟩
  case exec => simp [exec, execFadeEnd, perform_eq, hdone, hsettle]
  case fade =>
    unfold FadeOver at hfade ⊢
    rw [hflag, hevent]
    exact hfade
  case applied => rw [hevent]; exact happlied
  case origins => rw [hevent]; exact hsame.get ch

end

/-! ## ENTRY_HOLD_END (R63) -/

section
variable {s : State}

/-- The entry channel is the lamp of its number (R213). -/
theorem entryChannel_eq_some (k : Fin 6) :
    entryChannel s = some k ↔ s.params.entryChannel = (k.val : Int) := by
  unfold entryChannel
  split
  · next h =>
    rw [Option.some_inj, Fin.ext_iff]
    simp only
    omega
  · simp only [reduceCtorEq, false_iff]
    omega

/-- R63: the hold's end withdraws ENTRY from the entry channel and from no other. -/
theorem entryWithdraw_origins (ch : Channel) :
    origins (entryWithdraw s) ch =
      if (ch.val : Int) = s.params.entryChannel ∧ ch.val < 6 then
        { origins s ch with entry := none }
      else origins s ch := by
  unfold entryWithdraw
  split
  · next hnone =>
    have hother : ¬((ch.val : Int) = s.params.entryChannel ∧ ch.val < 6) := fun ⟨hch, hlt⟩ => by
      have hsome := (entryChannel_eq_some (s := s) ⟨ch.val, hlt⟩).mpr hch.symm
      rw [hnone] at hsome
      cases hsome
    rw [if_neg hother]
    rfl
  · next k hk =>
    have hchannel := (entryChannel_eq_some k).mp hk
    have hiff : chLamp k = ch ↔ (ch.val : Int) = s.params.entryChannel ∧ ch.val < 6 := by
      rw [hchannel, chLamp, Fin.ext_iff]
      simp only
      omega
    rw [(originEvent_same _ _).get, origins_putOrigin]
    by_cases hch : chLamp k = ch
    · rw [if_pos hch, if_pos (hiff.mp hch), ← hch]
      rfl
    · rw [if_neg hch, if_neg (fun h => hch (hiff.mpr h))]
      rfl

theorem entryWithdraw_loads : OnlyLoads (entryWithdraw s) (setEntryDue s none) := by
  unfold entryWithdraw
  split <;> simp [OnlyLoads]

theorem entryWithdraw_flags : FlagsKeptBut [.loadShed] s (entryWithdraw s) := by
  intro f hf
  unfold entryWithdraw
  split
  · rfl
  · rw [(originEvent_same _ _).flags f (by simpa using hf), putOrigin_flags]
    rfl

end

/-- Settles O32: a fade that has ended stays so unless its lamp is shed, and the entry hold's end withdraws
one origin. -/
theorem fadeEndAndEntryHoldEnd : Obligations.FadeEndAndEntryHoldEnd := by
  intro s i hs
  refine ⟨fun hdone hg hlists => ?fade, fun hdue => ?entry⟩
  case fade =>
    obtain ⟨-, hdemanded⟩ := hlists
    have hd : demanded s (chLamp i) = true := List.all_eq_true.mp hdemanded _
      (List.mem_append_right _ ((isGranted_iff s _).mp hg))
    obtain ⟨t, hexec, hfade, happlied, horigins, hflags, hframe⟩ := exec_fadeEnd hs hdone hg hd
    have hparams : t.params = s.params := by rw [hframe]; rfl
    have houtput := output_of_fadeDone hdone hg
    refine ⟨t, hexec, ?lamp, fun _ hunshed => ?granted, happlied, horigins, hflags, hframe⟩
    case lamp =>
      have hlevel : (t.lamps.chans[i]).AtLevel t.params.lampDraw →
          t.lamps.chans[i].fade = .steady ∧ t.lamps.chans[i].fallStart = none ∧
            t.lamps.chans[i].output = s.lamps.chans[i].output ∧
            t.lamps.chans[i].presented =
              ceilDiv (s.params.lampDraw * s.lamps.chans[i].applied) 100 := fun h =>
        ⟨h.fade, h.fallStart, by rw [h.output, happlied, houtput],
          by rw [h.presented, happlied, hparams]⟩
      rcases hfade with ⟨-, h⟩ | ⟨hshed, h | h⟩
      · exact .inl (hlevel h)
      · exact .inr ⟨hshed, h⟩
      · exact .inl (hlevel h)
    case granted =>
      rcases hfade with ⟨hstill, h⟩ | ⟨hshed, -⟩
      · exact ⟨h.fade, hstill⟩
      · rw [flagSet, hshed] at hunshed
        cases hunshed
  case entry =>
    obtain ⟨t, hsettle, hevent, -, hkept, hframe⟩ := settle_loads hs entryWithdraw_loads
      (fun f => conditionHolds_congr rfl rfl rfl rfl rfl rfl rfl rfl rfl f) entryWithdraw_flags
    refine ⟨t, ?exec, ?due, fun ch => ?origins, hkept, hframe⟩
    case exec => simp [exec, execEntryHoldEnd, perform_eq, hdue, hsettle]
    case due => rw [hframe]; rfl
    case origins => rw [hevent]; exact entryWithdraw_origins ch

end Sys2Proof.Machine
end

section
/-! PROOFS. The advances of device time and the calibration (R58, R172, R175, R208): what a fast tick and a
slow step make of the clock, the lamps and the silence count, and how a measurement ends. -/

namespace Sys2Proof.Machine

/-! ## The end of a command of the clock -/

section
variable {s u : State}

/-- The end of a command that touches no condition and no flag: the flags stand, and the idle due instant
follows. -/
theorem settle_quiet (hs : Settled s) (hc : ∀ f, conditionHolds u f = conditionHolds s f)
    (hflags : u.link.flags = s.link.flags) :
    ∃ t, settle s u = t ∧ FlagsKeptBut [] s t ∧ t = afterEvent u t :=
  ⟨_, rfl, settle_flagsKept hs hc fun f _ => flagBits_of_flags hflags f, settle_eq_afterEvent s u⟩

/-- The conditions read the meter, but not its samples (R3, R201). -/
theorem conditionHolds_of_samples (xs : List MeterSample) (hm : u.meter = (accumulate xs s).meter)
    (hp : u.pins = s.pins) (hk : u.tanks = s.tanks) (hh : u.heater = s.heater) (ha : u.act = s.act)
    (hw : u.wind = s.wind) (hq : u.params = s.params) (f : Flag) :
    conditionHolds u f = conditionHolds s f := by
  have hsamples : conditionHolds (accumulate xs s) f = conditionHolds s f :=
    conditionHolds_setMeter rfl rfl rfl f
  rw [← hsamples]
  apply conditionHolds_congr <;> simp [hm, hp, hk, hh, ha, hw, hq]

end

theorem conditionHolds_calibrationStep (fastTime : Nat) (s : State) (f : Flag) :
    conditionHolds (calibrationStep fastTime s) f = conditionHolds s f := by
  apply conditionHolds_congr <;> simp

/-! ## The advances (R3, R58, R172, R208) -/

section
variable (input : MeterInput) (s : State)

theorem fastTick_meter : (fastTick input s).meter = (accumulate input.samples s).meter := by
  simp [fastTick]

theorem fastTick_flags : (fastTick input s).link.flags = s.link.flags := by simp

theorem conditionHolds_fastTick (f : Flag) : conditionHolds (fastTick input s) f = conditionHolds s f :=
  conditionHolds_of_samples input.samples (fastTick_meter input s) (by simp) (by simp) (by simp) (by simp)
    (by simp) (by simp) f

theorem slowStep_active (fastTime : Nat) (h : s.time.power = .active) :
    slowStep fastTime input s = calibrationStep fastTime (accumulate input.samples s) := by
  unfold slowStep
  rw [h]

theorem conditionHolds_slowStep_active (fastTime : Nat) (h : s.time.power = .active) (f : Flag) :
    conditionHolds (slowStep fastTime input s) f = conditionHolds s f := by
  rw [slowStep_active input s fastTime h, conditionHolds_calibrationStep]
  exact conditionHolds_setMeter rfl rfl rfl f

theorem fastTick_tick : (fastTick input s).time.tick = s.time.tick + 1 := by simp [fastTick]

theorem Lamp.step_eq (x : Lamp) (target rate : Nat) :
    x.step target rate =
      { x with
        output := if x.output < target then min target (x.output + 16 * rate)
          else max target (x.output - 16 * rate) } := by
  unfold Lamp.step
  split <;> rfl

/-- R58: every lamp moves towards its fade target. -/
theorem fastTick_lamp (i : Fin 6) :
    (fastTick input s).lamps.chans[i] = (s.lamps.chans[i]).step (fadeTarget s i) s.params.fadeRate := by
  simp [fastTick, lampsTick, fadeTarget, isGranted]

theorem fastTick_lamps :
    (fastTick input s).lamps = { s.lamps with chans := (fastTick input s).lamps.chans } := by
  simp [fastTick, lampsTick]

/-- R175: a tick of a measurement counts. -/
theorem fastTick_running {steps measured ticks : Nat} (h : s.time.calib = .running steps measured ticks) :
    (fastTick input s).time.calib = .running steps measured (ticks + 1) := by
  simp [fastTick, calibrationTick, h]

theorem fastTick_idle (h : s.time.calib = .idle) : (fastTick input s).time.calib = .idle := by
  simp [fastTick, calibrationTick, h]

/-- R208: a tick of a part that is not DORMANT counts for the silence timer. -/
theorem fastTick_silence (h : s.time.power = .active) :
    (fastTick input s).link.silence = s.link.silence.map (fun n => n - 1) := by
  simp [fastTick, silenceFall, h]

theorem slowAdvance_meter : (slowAdvance input s).meter = (accumulate input.samples s).meter := by
  simp [slowAdvance, accumulate]

theorem conditionHolds_slowAdvance (f : Flag) :
    conditionHolds (slowAdvance input s) f = conditionHolds s f :=
  conditionHolds_of_samples input.samples (slowAdvance_meter input s) (by simp) (by simp) (by simp)
    (by simp) (by simp) (by simp) f

/-- R172: a slow step adds Inc to the 48-bit number. -/
theorem slowAdvance_time :
    (slowAdvance input s).time.tick ++ (slowAdvance input s).time.fraction =
      (s.time.tick ++ s.time.fraction) + BitVec.ofNat 48 s.time.inc := by
  have hsplit : ∀ n : BitVec 48, n.extractLsb' 16 32 ++ n.extractLsb' 0 16 = n := by
    intro n
    rw [BitVec.extractLsb'_append_extractLsb'_eq_extractLsb' (by rfl)]
    simp
  have htime : (slowAdvance input s).time = (addInc s).time := by simp [slowAdvance]
  rw [htime]
  exact hsplit _

/-- R208: the ticks that a slow step adds are taken from the silence count. -/
theorem slowAdvance_silence :
    (slowAdvance input s).link.silence =
      if s.time.power = .dormant then s.link.silence
      else s.link.silence.map (fun n => n - ticksSince (slowAdvance input s).now s.now) := by
  have hnow : (slowAdvance input s).now = (addInc s).now := by simp [slowAdvance, State.now]
  rw [hnow]
  by_cases h : s.time.power = .dormant <;> simp [slowAdvance, silenceFall, incTicks, h]

end

/-! ## Calibration (R175) -/

section
variable {s : State} {measured : Nat}

theorem endCalibration_calib : (endCalibration measured s).time.calib = .idle := by
  unfold endCalibration
  simp only
  split <;> rfl

/-- R175: a candidate within its bounds becomes Inc. -/
theorem endCalibration_good (hlo : 98304 ≤ candidateInc measured) (hhi : candidateInc measured ≤ 163840) :
    (endCalibration measured s).time.inc = candidateInc measured ∧
      (endCalibration measured s).time.crystal = .good := by
  unfold endCalibration
  rw [if_pos ⟨hlo, hhi⟩]
  exact ⟨rfl, rfl⟩

theorem endCalibration_fault (h : candidateInc measured < 98304 ∨ 163840 < candidateInc measured) :
    (endCalibration measured s).time.inc = s.time.inc ∧
      (endCalibration measured s).time.crystal = .fault := by
  unfold endCalibration
  rw [if_neg (by omega)]
  exact ⟨rfl, rfl⟩

variable {fastTime steps ticks : Nat}

/-- The 256th slow step after the first ends the measurement (log 8). -/
theorem calibrationStep_last (h : s.time.calib = .running 256 measured ticks) :
    calibrationStep fastTime s = endCalibration (measured + fastTime) s := by
  unfold calibrationStep
  rw [h]
  exact if_pos (le_refl 256)

/-- R175: the first slow step starts the fast time, each later one adds its span. -/
theorem calibrationStep_running (h : s.time.calib = .running steps measured ticks) (hlt : steps < 256) :
    calibrationStep fastTime s =
      s.setTime
        { s.time with
          calib := if steps = 0 then .running 1 0 ticks
            else .running (steps + 1) (measured + fastTime) ticks } := by
  unfold calibrationStep
  rw [h]
  simp only [if_neg (show ¬ 256 ≤ steps by omega)]
  split <;> rfl

theorem slowStep_running {input : MeterInput} (hp : s.time.power = .active)
    (h : s.time.calib = .running steps measured ticks) (hlt : steps < 256) :
    slowStep fastTime input s =
      (accumulate input.samples s).setTime
        { s.time with
          calib := if steps = 0 then .running 1 0 ticks
            else .running (steps + 1) (measured + fastTime) ticks } := by
  have hacc : (accumulate input.samples s).time = s.time := by simp
  rw [slowStep_active input s fastTime hp, calibrationStep_running (by rw [hacc]; exact h) hlt, hacc]

/-- CALIBRATION_END gives Inc or FAULT (R175). -/
theorem exec_calibrationEnd (hs : Settled s) (hp : s.time.power = .active)
    (h : s.time.calib = .running 256 measured ticks) :
    ∃ t, exec (.calibrationEnd fastTime) s = .next t ∧ FlagsKeptBut [] s t ∧
      t = afterEvent (endCalibration (measured + fastTime) s) t := by
  have hlast := calibrationStep_last (fastTime := fastTime) h
  obtain ⟨t, ht, hkept, hframe⟩ := settle_quiet (u := calibrationStep fastTime s) hs
    (conditionHolds_calibrationStep fastTime s) (by simp)
  refine ⟨t, ?_, hkept, hlast ▸ hframe⟩
  simp [exec, execCalibrationEnd, perform_eq, hp, calibrationLast, h, ht]

end

/-- Settles O59: each advance as its own equation, at the end of which no flag changes. -/
theorem calibrationAndDeviceTime : Obligations.CalibrationAndDeviceTime := by
  intro s input steps measured ticks fastTime candidate next hok hs
  have hcandidate : candidate = candidateInc (measured + fastTime) := rfl
  refine ⟨fun hp hcal => ?last, fun hcal hticks => ?stopped, fun hp => ?tick, fun hp hcal hlt => ?step,
    fun hslow => ?slow⟩
  case last =>
    obtain ⟨t, hexec, hkept, ht⟩ := exec_calibrationEnd (fastTime := fastTime) hs hp hcal
    have hframe := endCalibration_frame (measured + fastTime) s
    have hcalib := endCalibration_calib (s := s) (measured := measured + fastTime)
    rw [hcandidate]
    refine ⟨t, hexec, ?idle, fun hlo hhi => ?good, fun hout => ?fault, hkept, ?frame⟩
    case idle => rw [ht]; exact hcalib
    case good => rw [ht]; exact endCalibration_good hlo hhi
    case fault => rw [ht]; exact endCalibration_fault hout
    case frame =>
      rw [ht]
      simp only [afterEvent, hframe, hcalib]
  case stopped =>
    obtain ⟨t, ht, hkept, hframe⟩ := settle_quiet (u := failCalibration s) hs
      (fun f => conditionHolds_setTime s _ f) (by simp)
    refine ⟨t, ?_, hkept, hframe⟩
    simp [exec, execCalibrationNoSteps, perform_eq, calibrationStopped, hcal, hticks, ht]
  case tick =>
    obtain ⟨t, ht, hkept, hframe⟩ := settle_quiet hs (conditionHolds_fastTick input s)
      (fastTick_flags input s)
    have hexec : exec (.deviceTimeAdvance .fastTick input) s = .next t := by
      simp [exec, execDeviceTimeAdvance, hok, perform_eq, hp, ht]
    have hsame := fastTick_frame input s
    refine ⟨t, hexec, ?ticks, ?fraction, ?silence, fun i => ?lamp, fun hcal => ?running, fun hcal => ?idle,
      ?meter, hkept, ?frame⟩
    case ticks => rw [hframe]; exact fastTick_tick input s
    case fraction => rw [hframe]; simp only [afterEvent, hsame]
    case silence => rw [hframe]; exact fastTick_silence input s hp
    case lamp =>
      rw [hframe]
      exact (fastTick_lamp input s i).trans (Lamp.step_eq _ _ _)
    case running => rw [hframe]; exact fastTick_running input s hcal
    case idle => rw [hframe]; exact fastTick_idle input s hcal
    case meter => rw [hframe]; exact fastTick_meter input s
    case frame =>
      rw [hframe]
      simp only [afterEvent, hsame]
      rw [fastTick_lamps]
  case step =>
    obtain ⟨t, ht, hkept, hframe⟩ := settle_quiet hs
      (conditionHolds_slowStep_active input s fastTime hp) (by simp [slowStep, hp])
    have hstep := slowStep_running (fastTime := fastTime) (input := input) hp hcal hlt
    have hexec : exec (.deviceTimeAdvance (.slowStep fastTime) input) s = .next t := by
      simp [exec, execDeviceTimeAdvance, hok, perform_eq, ht]
    rw [hstep] at hframe
    exact ⟨t, hexec, by rw [hframe]; rfl, by rw [hframe]; rfl, hkept, by rw [hframe]; rfl⟩
  case slow =>
    have hstep : slowStep fastTime input s = slowAdvance input s := by
      rcases hslow with hp | ⟨hp, hbusy⟩ <;> simp [slowStep, *]
    obtain ⟨t, ht, hkept, hframe⟩ := settle_quiet hs (conditionHolds_slowAdvance input s) (by simp)
    have hexec : exec (.deviceTimeAdvance (.slowStep fastTime) input) s = .next t := by
      simp [exec, execDeviceTimeAdvance, hok, perform_eq, hstep, ht]
    have hsame := slowAdvance_frame input s
    refine ⟨t, hexec, ?time, ?silence, ?meter, hkept, ?frame⟩
    case time => rw [hframe]; exact slowAdvance_time input s
    case silence => rw [hframe]; exact slowAdvance_silence input s
    case meter => rw [hframe]; exact slowAdvance_meter input s
    case frame =>
      rw [hframe]
      simp only [afterEvent, hsame]

end Sys2Proof.Machine
end

section
/-! PROOFS. Requests whose answer leaves a settled state, and SCENE_RECALL and SCENE_STORE among them (R64, R65,
R215). -/

namespace Sys2Proof.Machine

/-! ## Answers over a settled effect -/

/-- A request that leaves a settled state under the conditions of `s` ends with its answer. -/
theorem takeRequest_settled {kind : Nat} {tag : Byte} {p reply : List Byte} {s u : State}
    {act : State → List Byte × State} (hr : RequestAt kind tag p s)
    (hl : lengthAllowed kind p.length = true) (hact : act s = (reply, u)) (hu : Settled u)
    (hc : ∀ f, conditionHolds u f = conditionHolds s f) (hp : u.time.power = s.time.power) :
    takeRequest kind tag p act s = .next (answered kind tag reply u) := by
  have hawake : u.time.power ≠ .dormant := hp ▸ not_dormant_of_requestAt hr
  have hconditions : ∀ f, conditionHolds (answered kind tag reply u) f = true →
      conditionHolds s f = true := fun f hf => by rwa [conditionHolds_answered, hc] at hf
  rw [takeRequest_eq hr hl hact, answer_eq_answered _ _ _ _ hawake,
    settle_eq_of_settled (settled_answered hu _ _ _) hconditions]

/-! ## SCENE_RECALL (R64) -/

section
variable {s : State} {tag number : Byte} {n : Fin 4}

theorem sceneRecallOp_flags (number : Byte) (s : State) :
    FlagsKeptBut [.loadShed] s (sceneRecallOp number s).2 := by
  intro f hf
  unfold sceneRecallOp
  split
  · rw [(originEvent_same _ _).flags f (by simpa using hf)]
    exact flagBits_of_flags (by simp) f
  · rfl

/-- The reply of a recall: the state of each lamp's record after the walk. -/
theorem sceneRecallReply_accepted (s : State) :
    sceneRecallReply .accepted s =
      0#8 :: allLamps.map (fun i => BitVec.ofNat 8 (recordState s (chLamp i)).code) := by
  have hcodes : allLamps.flatMap (fun i => u8 (recordState s (chLamp i)).code) =
      allLamps.map (fun i => BitVec.ofNat 8 (recordState s (chLamp i)).code) :=
    List.flatMap_pure_eq_map _ _
  rw [sceneRecallReply, if_pos rfl, hcodes]
  simp [packReply, packParts, fitParts, u8, allLamps, Result.code]

theorem exec_sceneRecall (hs : Settled s) (hr : RequestAt 23 tag [number] s) (hn : number.toNat = n.val) :
    ∃ t, exec (.sceneRecall tag [number]) s = .next t ∧
      Replied 23 tag
        (0#8 :: allLamps.map (fun i => BitVec.ofNat 8 (recordState t (chLamp i)).code)) s t ∧
      (∀ i : Fin 6, origins t (chLamp i) =
        recalledOrigins s.lamps.scenes[n][i] (origins s (chLamp i))) ∧
      OriginsKeptBut (allLamps.map chLamp) s t ∧ FlagsKeptBut [.loadShed] s t ∧
      t = afterWalk (afterRequest s t) t := by
  obtain ⟨haccepted, hown, hothers⟩ := sceneRecallOp_recalls hn s
  have hloads : OnlyLoads (sceneRecallOp number s).2 s := by simp [OnlyLoads]
  have hflags := sceneRecallOp_flags number s
  have hexec : exec (.sceneRecall tag [number]) s =
      .next (settle s (answer 23#8 tag (sceneRecallReply .accepted (sceneRecallOp number s).2)
        (sceneRecallOp number s).2)) := by
    simp only [exec, execSceneRecall]
    refine takeRequest_eq hr rfl ?_
    rw [show byteAt [number] 0 = number from rfl, haccepted]
  generalize (sceneRecallOp number s).2 = u at hown hothers hloads hflags hexec
  rw [sceneRecallReply_accepted] at hexec
  generalize ht : settle s (answer 23#8 tag _ u) = t at hexec
  obtain ⟨hreply, htable, hkept, hframe⟩ := settled_loads hs hr hloads hflags ht.symm
  refine ⟨t, hexec, ?reply, fun i => ?own, fun ch hch => ?others, hkept, hframe⟩
  case reply => simpa only [recordState_congr htable] using hreply
  case own => rw [origins_of_table htable, hown]
  case others => rw [origins_of_table htable, hothers ch hch]

theorem exec_sceneRecall_range (hs : Settled s) (hr : RequestAt 23 tag [number] s)
    (hn : 4 ≤ number.toNat) :
    exec (.sceneRecall tag [number]) s = .next (answered 23 tag [4#8] s) := by
  simp only [exec, execSceneRecall]
  refine takeRequest_refused hs hr rfl ?_
  rw [show byteAt [number] 0 = number from rfl, sceneRecallOp_range hn]
  rfl

/-! ## SCENE_STORE (R65) -/

theorem conditionHolds_setLamps (s : State) (x : Lamps) (f : Flag) :
    conditionHolds (s.setLamps x) f = conditionHolds s f :=
  conditionHolds_congr rfl rfl rfl rfl rfl rfl rfl rfl rfl f

/-- Nothing that stands between commands reads the lamps (R187, R201). -/
theorem settled_setLamps (hs : Settled s) (x : Lamps) : Settled (s.setLamps x) := by
  obtain ⟨hflags, hidle⟩ := hs
  rw [flagsStand_iff] at hflags
  exact ⟨(flagsStand_iff _).mpr fun f hf => hflags f (by rwa [conditionHolds_setLamps] at hf), hidle⟩

/-- R65: every entry of a scene becomes the present target. -/
def storedScene (n : Fin 4) (s : State) : Lamps :=
  { s.lamps with scenes := vput s.lamps.scenes n (Vector.ofFn fun i => some (lampTarget s i)) }

theorem storedScene_scenes (n k : Fin 4) (i : Fin 6) :
    (storedScene n s).scenes[k][i] =
      if k = n then some (lampTarget s i) else s.lamps.scenes[k][i] := by
  unfold storedScene
  rw [vput_get]
  by_cases h : n = k
  · simp [h]
  · simp [h, Ne.symm h]

theorem sceneStoreOp_stores (hn : number.toNat = n.val) :
    sceneStoreOp number s = (.accepted, s.setLamps (storedScene n s)) := by
  have hlt : number.toNat < 4 := hn ▸ n.isLt
  have hfin : (⟨number.toNat, hlt⟩ : Fin 4) = n := Fin.ext hn
  unfold sceneStoreOp
  rw [dif_pos hlt, hfin]
  rfl

theorem sceneStoreOp_range (hn : 4 ≤ number.toNat) : sceneStoreOp number s = (.range, s) := by
  unfold sceneStoreOp
  rw [dif_neg (by omega)]

/-- The reply of a store: the six targets, four bytes each. -/
theorem sceneStoreReply_accepted (s : State) :
    sceneStoreReply .accepted s = 0#8 :: allLamps.flatMap (fun i => u32 (lampTarget s i)) := by
  have hlength : (allLamps.flatMap fun i => u32 (lampTarget s i)).length = 24 := rfl
  simp [sceneStoreReply, packReply, packParts, fitParts, u8, Result.code, hlength]

theorem exec_sceneStore (hs : Settled s) (hr : RequestAt 24 tag [number] s) (hn : number.toNat = n.val) :
    exec (.sceneStore tag [number]) s =
      .next (answered 24 tag (0#8 :: allLamps.flatMap (fun i => u32 (lampTarget s i)))
        (s.setLamps (storedScene n s))) := by
  have htargets : sceneStoreReply .accepted (s.setLamps (storedScene n s)) =
      0#8 :: allLamps.flatMap (fun i => u32 (lampTarget s i)) := sceneStoreReply_accepted _
  simp only [exec, execSceneStore]
  refine takeRequest_settled hr rfl ?_ (settled_setLamps hs _) (conditionHolds_setLamps s _) rfl
  rw [show byteAt [number] 0 = number from rfl, sceneStoreOp_stores hn, htargets]

theorem exec_sceneStore_range (hs : Settled s) (hr : RequestAt 24 tag [number] s)
    (hn : 4 ≤ number.toNat) :
    exec (.sceneStore tag [number]) s = .next (answered 24 tag [4#8] s) := by
  simp only [exec, execSceneStore]
  refine takeRequest_refused hs hr rfl ?_
  rw [show byteAt [number] 0 = number from rfl, sceneStoreOp_range hn]
  rfl

end

/-- Settles O31, by the origins that a recall gives and the entries that a store writes. -/
theorem scenesAreRecalledAndStored : Obligations.ScenesAreRecalledAndStored := by
  intro s tag n x p hs
  have hn : (BitVec.ofNat 8 n.val).toNat = n.val := by
    rw [BitVec.toNat_ofNat]
    omega
  refine ⟨fun hr => ?recalls, fun hr => ?stores, fun hx hr => exec_sceneRecall_range hs hr hx,
    fun hx hr => exec_sceneStore_range hs hr hx⟩
  case recalls => exact exec_sceneRecall hs hr hn
  case stores =>
    exact ⟨_, exec_sceneStore hs hr hn, rfl, storedScene_scenes n, rfl, rfl⟩

end Sys2Proof.Machine
end

section
/-! PROOFS. The requests RECALIBRATE, RESTART, HOLD and DORMANT (R176, R186, R188, R206, R210), and what every
entry to ENTERING leaves (R67, R188). -/

namespace Sys2Proof.Machine

/-! ## The idle due instant at the end of a command (R187) -/

section
variable {s u : State}

/-- R187: where its conditions do not hold, the idle due instant is gone. -/
theorem settle_idleDue_none (h : idleConditions u = false) : (settle s u).time.idleDue = none := by
  have hend : idleConditions (settle s u) = idleConditions u := by apply idleConditions_congr <;> simp
  have hfollows := (settle_settled s u).2
  rw [IdleFollows, hend, h] at hfollows
  simpa using hfollows

theorem idleConditions_of_power (h : u.time.power ≠ .active) : idleConditions u = false := by
  simp [idleConditions, h]

/-- Where the conditions and the flags stand and the idle conditions have ended, the end of the command removes
the idle due instant and nothing else. -/
theorem settle_removes_idleDue (hs : Settled s) (hc : ∀ f, conditionHolds u f = conditionHolds s f)
    (hflags : u.link.flags = s.link.flags) (hidle : idleConditions u = false) :
    settle s u = u.setTime { u.time with idleDue := none } := by
  have harise : ariseFlags s u = u :=
    foldl_keeps (fun t => t = u) (ariseFlag s) conditionFlags u rfl fun t f ht => by
      have hset : conditionHolds s f = true → flagSet u f = true := fun hf => by
        rw [flagSet, flagBits_of_flags hflags]
        exact (flagsStand_iff s).mp hs.1 f hf
      rw [ht, ariseFlag, hc]
      cases hf : conditionHolds s f
      · rfl
      · simp [hset hf]
  rw [settle, harise, settleIdle, hidle]
  rfl

end

/-! ## RECALIBRATE, RESTART, HOLD -/

section
variable {s : State} {tag : Byte}

theorem recalibrateReply_eq (r : Result) (s : State) :
    recalibrateReply r s =
      [BitVec.ofNat 8 r.code, if s.time.calib = .idle then 0#8 else 1#8,
        BitVec.ofNat 8 s.time.crystal.code] := by
  have hcode : BitVec.ofNat 8 (calibrationCode s.time.calib) =
      if s.time.calib = .idle then 0#8 else 1#8 := by
    cases s.time.calib <;> rfl
  simp [recalibrateReply, packReply, packParts, fitParts, u8, hcode]

/-- R176: an accepted RECALIBRATE begins a measurement, which ends the idle conditions. -/
theorem exec_recalibrate (hs : Settled s) (hr : RequestAt 27 tag [] s) (hp : s.time.power = .active)
    (hcal : s.time.calib = .idle) :
    exec (.recalibrate tag []) s =
      .next
        ((answered 27 tag [0#8, 1#8, BitVec.ofNat 8 s.time.crystal.code] s).setTime
          { s.time with calib := .running 0 0 0, idleDue := none }) := by
  have hact : (recalibrateReply .accepted (startCalibration s), startCalibration s) =
      ([0#8, 1#8, BitVec.ofNat 8 s.time.crystal.code], startCalibration s) := by
    rw [recalibrateReply_eq]
    rfl
  have hconditions : ∀ f, conditionHolds (startCalibration s) f = conditionHolds s f :=
    conditionHolds_setTime s _
  simp only [exec, execRecalibrate]
  rw [takeRequest_eq hr rfl ((if_pos (by simp [hp, hcal])).trans hact),
    answer_eq_answered 27 _ _ (startCalibration s) (not_dormant_of_requestAt hr)]
  refine congrArg _ (settle_removes_idleDue hs (fun f => ?conditions) rfl ?idle)
  case conditions => rw [conditionHolds_answered, hconditions]
  case idle => simp [idleConditions, activities, calibActive, answered, startCalibration]

/-- R176: a RECALIBRATE that is not accepted answers BUSY. -/
theorem exec_recalibrate_busy (hs : Settled s) (hr : RequestAt 27 tag [] s)
    (hbusy : s.time.power ≠ .active ∨ s.time.calib ≠ .idle) :
    exec (.recalibrate tag []) s =
      .next
        (answered 27 tag
          [5#8, if s.time.calib = .idle then 0#8 else 1#8, BitVec.ofNat 8 s.time.crystal.code] s) := by
  simp only [exec, execRecalibrate]
  refine takeRequest_refused hs hr rfl ?_
  have hrefused : ¬((decide (s.time.power = .active) && decide (s.time.calib = .idle)) = true) := by
    simpa [imp_iff_not_or] using hbusy
  rw [if_neg hrefused, recalibrateReply_eq]
  rfl

/-- A change of the Link Interface that keeps its flags leaves a settled state settled. -/
theorem settled_setLink (hs : Settled s) {x : Link} (hx : x.flags = s.link.flags) :
    Settled (s.setLink x) := by
  obtain ⟨hflags, hidle⟩ := hs
  rw [flagsStand_iff] at hflags
  refine ⟨(flagsStand_iff _).mpr fun f hf => ?_, hidle⟩
  rw [conditionHolds_setLink] at hf
  rw [flagSet, flagBits_of_flags (by exact hx)]
  exact hflags f hf

theorem exec_restart (hs : Settled s) (hr : RequestAt 29 tag [] s) :
    exec (.restart tag []) s =
      .next (answered 29 tag [0#8] (s.setLink { s.link with restartPending := true })) := by
  simp only [exec, execRestart]
  exact takeRequest_settled hr rfl rfl (settled_setLink hs rfl) (conditionHolds_setLink s _) rfl

/-- R206, R215: the hold is answered in four bytes. -/
theorem holdReply_eq (hi lo : Byte) {s : State} (h : s.link.hold = hi.toNat * 256 + lo.toNat) :
    holdReply s = [0#8, 0#8, 0#8, hi, lo] := by
  have hhi := hi.isLt
  have hlo := lo.isLt
  have hbytes : u32 s.link.hold = [0#8, 0#8, hi, lo] := by
    simp only [u32, u16, u8, h, List.cons_append, List.nil_append, List.cons.injEq, and_true]
    refine ⟨?_, ?_, ?_, ?_⟩ <;> apply BitVec.eq_of_toNat_eq <;> rw [BitVec.toNat_ofNat]
    · simp; omega
    · simp; omega
    · omega
    · omega
  simp [holdReply, packReply, packParts, fitParts, u8, Result.code, hbytes]

theorem exec_hold (hi lo : Byte) (hs : Settled s) (hr : RequestAt 30 tag [hi, lo] s) :
    exec (.hold tag [hi, lo]) s =
      .next
        (answered 30 tag [0#8, 0#8, 0#8, hi, lo]
          (s.setLink { s.link with hold := hi.toNat * 256 + lo.toNat })) := by
  simp only [exec, execHold]
  refine takeRequest_settled hr rfl ?_ (settled_setLink hs rfl) (conditionHolds_setLink s _) rfl
  have hhold : beNat [hi, lo] = hi.toNat * 256 + lo.toNat := by simp [beNat]
  simp only [hhold]
  rw [holdReply_eq hi lo rfl]

end

/-! ## The entry to ENTERING (R67, R188) -/

section
variable {s : State}

@[simp] theorem enterEntering_power : (enterEntering s).time.power = .entering := by
  simp [enterEntering]

theorem enterEntering_loads :
    OnlyLoads (enterEntering s) (s.setTime { s.time with power := .entering }) := by
  simp [OnlyLoads, enterEntering]

theorem enterEntering_same : SameDemands s (enterEntering s) := by
  have hdarken : SameDemands s (allLamps.foldl darken (s.setTime { s.time with power := .entering })) :=
    .of_eq (by simp) (by simp)
  exact hdarken.trans (reevaluate_same _ _)

theorem conditionHolds_enterEntering (f : Flag) :
    conditionHolds (enterEntering s) f = conditionHolds s f := by
  have hloads : OnlyLoads (s.setTime { s.time with power := .entering }) (enterEntering s) := by
    simp only [OnlyLoads, enterEntering_loads (s := s), and_self]
  rw [conditionHolds_of_loads hloads, conditionHolds_setTime]

/-- The end of a command that has made the part ENTERING: no idle due instant, and the lamps dark. -/
theorem settle_entering {u : State} (hs : Settled s) (hc : ∀ f, conditionHolds u f = conditionHolds s f)
    (hsame : SameDemands s u) (hpower : u.time.power = .entering)
    (hdark : ∀ i : Fin 6, (u.lamps.chans[i]).Dark) :
    ∃ t, settle s u = t ∧ t = afterEvent u t ∧ t.time.power = .entering ∧ t.time.idleDue = none ∧
      (∀ i : Fin 6, t.lamps.chans[i].Dark) ∧ OriginsKeptBut [] s t ∧ FlagsKeptBut [.loadShed] s t := by
  refine ⟨_, rfl, settle_eq_afterEvent s u, by simpa using hpower,
    settle_idleDue_none (idleConditions_of_power (by simp [hpower])), by simpa using hdark,
    fun ch _ => by rw [settle_origins, hsame.get],
    settle_flagsKept hs hc fun f hf => hsame.flags f (by simpa using hf)⟩

end

/-! ## DORMANT (R186, R188) -/

section
variable {s : State} {tag : Byte}

theorem judgeDormant_accepted (hp : s.time.power = .active) (hx : s.time.crystal ≠ .fault)
    (ha : activities s = [false, false, false, false, false, false]) : judgeDormant s = .accepted := by
  simp [judgeDormant, hp, hx, ha]

/-- R186: the result of a refusal. -/
theorem judgeDormant_refused
    (h : s.time.power ≠ .active ∨ s.time.crystal = .fault ∨ (activities s).any id = true) :
    judgeDormant s ≠ .accepted ∧
      BitVec.ofNat 8 (judgeDormant s).code =
        if s.time.power ≠ .active then 5#8 else if s.time.crystal = .fault then 8#8 else 5#8 := by
  unfold judgeDormant
  by_cases hp : s.time.power ≠ .active
  · simp [hp, Result.code]
  · by_cases hx : s.time.crystal = .fault
    · simp [hp, hx, Result.code]
    · have ha : (activities s).any id = true := (h.resolve_left hp).resolve_left hx
      simp [hp, hx, ha, Result.code]

/-- R186, R215: the reply to a refusal (log 10). -/
theorem dormantReply_refused {r : Result} (hr : r ≠ .accepted) (s : State) :
    dormantReply r s s =
      [BitVec.ofNat 8 r.code, BitVec.ofNat 8 s.time.power.code,
        BitVec.ofNat 8 ((activities s).zipIdx.map (fun a => bitOf a.1 a.2)).sum,
        BitVec.ofNat 8 s.time.crystal.code] := by
  simp [dormantReply, hr, packReply, packParts, fitParts, u8, set8]

theorem exec_dormant_refused (hs : Settled s) (hr : RequestAt 28 tag [] s)
    (h : s.time.power ≠ .active ∨ s.time.crystal = .fault ∨ (activities s).any id = true) :
    exec (.dormant tag []) s =
      .next
        (answered 28 tag
          [if s.time.power ≠ .active then 5#8 else if s.time.crystal = .fault then 8#8 else 5#8,
            BitVec.ofNat 8 s.time.power.code,
            BitVec.ofNat 8 ((activities s).zipIdx.map (fun a => bitOf a.1 a.2)).sum,
            BitVec.ofNat 8 s.time.crystal.code] s) := by
  obtain ⟨hrefused, hcode⟩ := judgeDormant_refused h
  simp only [exec, execDormant]
  refine takeRequest_refused hs hr rfl ?_
  simp only [if_neg hrefused]
  rw [dormantReply_refused hrefused, hcode]

/-- An accepted DORMANT: the part is ENTERING, and every lamp dark (R67, R186, R188). -/
theorem exec_dormant (hs : Settled s) (hr : RequestAt 28 tag [] s) (hp : s.time.power = .active)
    (hx : s.time.crystal ≠ .fault) (ha : activities s = [false, false, false, false, false, false]) :
    ∃ t, exec (.dormant tag []) s = .next t ∧ Replied 28 tag [0#8, 1#8] s t ∧
      t.time.power = .entering ∧ t.time.idleDue = none ∧ (∀ i : Fin 6, t.lamps.chans[i].Dark) ∧
      OriginsKeptBut [] s t ∧ FlagsKeptBut [.loadShed] s t ∧
      t = { afterWalk (afterRequest s t) t with
        time := { s.time with power := .entering, idleDue := none } } := by
  have hact : (dormantReply .accepted s (enterEntering s), enterEntering s) =
      ([0#8, 1#8], enterEntering s) := by
    rw [dormantReply, if_pos rfl, enterEntering_power]
    rfl
  have hentering : OnlyEntering (enterEntering s) s := by simp [OnlyEntering]
  have hpower := enterEntering_power (s := s)
  obtain ⟨t, hsettle, hevent, hp', hidle, hdark, horigins, hkept⟩ :=
    settle_entering (u := answered 28 tag [0#8, 1#8] (enterEntering s)) hs
      (fun f => by rw [conditionHolds_answered, conditionHolds_enterEntering])
      (enterEntering_same.trans (.of_eq rfl rfl)) hpower enterEntering_dark
  have hexec : exec (.dormant tag []) s = .next t := by
    simp only [exec, execDormant]
    rw [takeRequest_eq hr rfl (by simpa only [judgeDormant_accepted hp hx ha, if_true] using hact),
      answer_eq_answered 28 _ _ _ (by simp), hsettle]
  refine ⟨t, hexec, ?replied, hp', hidle, hdark, horigins, hkept, ?frame⟩
  case replied =>
    rw [hevent]
    refine ⟨?_, ?_, ?_⟩ <;> simp only [afterEvent, answered, State.setLink, hentering]
  case frame =>
    rw [hevent]
    simp only [afterWalk, afterRequest, afterEvent, answered, State.setLink, hentering, hpower, hidle]

end

/-- Settles O27: the requests that report or set one field, and the entry to ENTERING. -/
theorem recalibrateRestartHoldDormant : Obligations.RecalibrateRestartHoldDormant := by
  intro s tag hi lo hs
  refine ⟨exec_recalibrate hs, exec_recalibrate_busy hs, exec_restart hs, exec_hold hi lo hs,
    exec_dormant hs, exec_dormant_refused hs⟩

end Sys2Proof.Machine
end

section
/-! PROOFS. The close of an interval at a change of the power state (R2, R22, R190): its power state, pins,
conversions and origins, and with it the entry to DORMANT and the return to ACTIVE (R67, R187, R188, R191). -/

namespace Sys2Proof.Machine

/-! ## The hand-offs of an interval end and a wake (R190) -/

section
variable (c : Closed) (changed : Bool) (order : List HandOff) (s : State)

theorem meterHandOffs_pins : PinsStand s (meterHandOffs c changed order s) := by
  rw [meterHandOffs_eq]
  refine inOrder_keeps (PinsStand s) order _ s (.refl s) ?_
  exact mem_meterActs (P := fun f => ∀ t, PinsStand s t → PinsStand s (f t))
    (fun t h => h.then_pins (by simp)) fun _ =>
    ⟨fun t h => h.then_pins (by simp), fun t h => h.then_pins (by simp),
      fun t h => h.then_pins (by simp), fun t h => h.then_wake⟩

/-- An awake part is not woken, so that its pins keep their counts. -/
theorem meterHandOffs_awake (h : asleep s = false) :
    (meterHandOffs c changed order s).pins = s.pins ∧
      (meterHandOffs c changed order s).time = s.time := by
  rw [meterHandOffs_eq]
  refine inOrder_keeps (fun t => t.pins = s.pins ∧ t.time = s.time) order _ s ⟨rfl, rfl⟩ ?_
  refine mem_meterActs (P := fun f => ∀ t : State, t.pins = s.pins ∧ t.time = s.time →
      (f t).pins = s.pins ∧ (f t).time = s.time)
    (fun t ht => by simpa using ht) fun _ =>
    ⟨fun t ht => by simpa using ht, fun t ht => by simpa using ht, fun t ht => by simpa using ht,
      fun t ht => ?_⟩
  obtain ⟨hpins, htime⟩ := ht
  rw [wake_of_awake ((asleep_congr (s := s) (by rw [htime])).trans h)]
  exact ⟨hpins, htime⟩

theorem meterHandOffs_power :
    (meterHandOffs c changed order s).time.power =
      if changed = true ∧ asleep s = true then .leaving else s.time.power := by
  cases changed with
  | false =>
    obtain ⟨-, -, -, hpower⟩ := meterHandOffs_unchanged c order s
    rw [hpower, if_neg (by simp)]
  | true =>
    obtain ⟨-, -, hawake⟩ := meterHandOffs_changed c order s
    rw [(meterHandOffs_handedOn c true order s).power_of_awake hawake]
    simp

end

/-! ## The close of an interval -/

section
variable (temp : Int) (order : List HandOff) (start : Tick) (s : State)

/-- A close hands an interval on from a state that differs in the meter and the flags alone, or hands nothing
on. -/
theorem closeInterval_cases :
    ∃ u, OnlyLinkFlagsMeter s u ∧ u.meter.acc = .empty ∧ u.meter.intervalStart = start ∧
      ((u.meter.band = s.meter.band ∧ closeInterval temp order start s = u) ∨
        ∃ c, closeInterval temp order start s =
          meterHandOffs c (decide (u.meter.band ≠ s.meter.band)) order u) := by
  by_cases h : (intervalTicks s = 0 || s.meter.acc.count = 0) = true
  · exact ⟨nextInterval start s, by simp [OnlyLinkFlagsMeter], rfl, rfl, .inl ⟨rfl, if_pos h⟩⟩
  · simp only [Bool.or_eq_true, decide_eq_true_eq, not_or] at h
    obtain ⟨hticks, hcount⟩ := h
    have hmeter : ∀ c, (steppedInterval c start s).meter =
        { (meterSteps c s).meter with acc := .empty, intervalStart := start } := fun c => by
      simp [steppedInterval, nextInterval]
    refine ⟨steppedInterval (closeReadings s.meter (intervalTicks s) temp) start s,
      by simp [OnlyLinkFlagsMeter, steppedInterval], by rw [hmeter], by rw [hmeter],
      .inr ⟨closeReadings s.meter (intervalTicks s) temp, ?_⟩⟩
    rw [hmeter]
    exact closeInterval_metered temp order start hticks (Nat.pos_of_ne_zero hcount)

theorem closeInterval_begins :
    (closeInterval temp order start s).meter.acc = .empty ∧
      (closeInterval temp order start s).meter.intervalStart = start := by
  obtain ⟨u, -, hacc, hstart, ⟨-, heq⟩ | ⟨c, heq⟩⟩ := closeInterval_cases temp order start s
  · rw [heq]
    exact ⟨hacc, hstart⟩
  · rw [heq]
    simpa using ⟨hacc, hstart⟩

theorem closeInterval_origins : OriginsKeptBut [chHeater] s (closeInterval temp order start s) := by
  intro ch hch
  obtain ⟨u, hu, -, -, ⟨-, heq⟩ | ⟨c, heq⟩⟩ := closeInterval_cases temp order start s
  · rw [heq]
    simp [origins, hu]
  · rw [heq, (meterHandOffs_handedOn c _ order u).origins ch (by simpa using hch)]
    simp [origins, hu]

theorem closeInterval_pins : PinsStand s (closeInterval temp order start s) := by
  obtain ⟨u, hu, -, -, ⟨-, heq⟩ | ⟨c, heq⟩⟩ := closeInterval_cases temp order start s
  · rw [heq]
    exact .of_pins (by simp [hu])
  · rw [heq]
    exact .trans (.of_pins (by simp [hu])) (meterHandOffs_pins c _ order u)

/-- R22, R190: a change of the band wakes the part. -/
theorem closeInterval_power :
    (closeInterval temp order start s).time.power =
      if (closeInterval temp order start s).meter.band ≠ s.meter.band ∧ asleep s = true then .leaving
      else s.time.power := by
  obtain ⟨u, hu, -, -, ⟨hband, heq⟩ | ⟨c, heq⟩⟩ := closeInterval_cases temp order start s
  · rw [heq, if_neg (by simp [hband])]
    simp [hu]
  · have hmeter : (meterHandOffs c (decide (u.meter.band ≠ s.meter.band)) order u).meter = u.meter := by
      simp
    rw [heq, hmeter, meterHandOffs_power, asleep_congr (s := s) (t := u) (by simp [hu])]
    simp [hu]

theorem closeInterval_awake (h : asleep s = false) :
    (closeInterval temp order start s).pins = s.pins ∧
      (closeInterval temp order start s).time = s.time := by
  obtain ⟨u, hu, -, -, ⟨-, heq⟩ | ⟨c, heq⟩⟩ := closeInterval_cases temp order start s
  · rw [heq]
    simp [hu]
  · obtain ⟨hpins, htime⟩ := meterHandOffs_awake c (decide (u.meter.band ≠ s.meter.band)) order u
      ((asleep_congr (s := s) (by simp [hu])).trans h)
    rw [heq, hpins, htime]
    simp [hu]

/-- Without a change of the band no conversion is moved. -/
theorem closeInterval_conversions
    (h : (closeInterval temp order start s).meter.band = s.meter.band) :
    (closeInterval temp order start s).tanks.senderDue = s.tanks.senderDue ∧
      (closeInterval temp order start s).tanks.tempDue = s.tanks.tempDue ∧
      (closeInterval temp order start s).heater.cabinDue = s.heater.cabinDue := by
  obtain ⟨u, hu, -, -, ⟨-, heq⟩ | ⟨c, heq⟩⟩ := closeInterval_cases temp order start s
  · rw [heq]
    simp [hu]
  · rw [heq] at h ⊢
    have hband : u.meter.band = s.meter.band := by simpa using h
    rw [decide_eq_false (not_not.mpr hband), meterHandOffs_eq, meterActs, if_neg Bool.false_ne_true,
      inOrder_single]
    simp [hu]

end

/-! ## The entry to DORMANT (R188) -/

/-- What becoming DORMANT makes of the part before its interval closes. -/
def dormantBegun (s : State) : State :=
  let t := restartDebounce (s.setTime { s.time with power := .dormant })
  let t := t.setLink t.link.hunting
  let t := t.setTanks { t.tanks with senderDue := none, tempDue := t.ahead 128 }
  t.setHeater { t.heater with cabinDue := t.ahead 128 }

section
variable (input : MeterInput) (s : State)

theorem dormantBegun_power : (dormantBegun s).time.power = .dormant := by simp [dormantBegun]

theorem dormantBegun_meter : (dormantBegun s).meter = s.meter := by simp [dormantBegun]

theorem dormantBegun_table : (dormantBegun s).table = s.table := by simp [dormantBegun]

theorem dormantBegun_now : (dormantBegun s).now = s.now := by simp [dormantBegun, State.now]

theorem dormantBegun_conversions :
    (dormantBegun s).tanks.senderDue = none ∧ (dormantBegun s).tanks.tempDue = s.ahead 128 ∧
      (dormantBegun s).heater.cabinDue = s.ahead 128 := by
  simp [dormantBegun, State.ahead, State.now]

theorem dormantBegun_pins (i : Fin 16) : pinAt (dormantBegun s) i = (pinAt s i).clearCount := by
  simp [dormantBegun, restartDebounce, pinAt]

theorem becomeDormant_eq :
    becomeDormant input s =
      closeInterval input.temperature input.order s.now (dormantBegun s) := by
  rw [← dormantBegun_now]
  simp only [becomeDormant, dormantBegun]

/-- R190: a change of the band wakes the part that has just become DORMANT. -/
theorem becomeDormant_power :
    (becomeDormant input s).time.power =
      if (becomeDormant input s).meter.band = s.meter.band then .dormant else .leaving := by
  have hasleep : asleep (dormantBegun s) = true := by simp [asleep, dormantBegun_power]
  have hpower := closeInterval_power input.temperature input.order s.now (dormantBegun s)
  rw [← becomeDormant_eq, hasleep, dormantBegun_meter, dormantBegun_power] at hpower
  rw [hpower]
  simp only [and_true, ite_not]

/-- R75, R90, R100: what stays DORMANT converts no senders, and the temperatures at the long interval. -/
theorem becomeDormant_conversions (h : (becomeDormant input s).time.power = .dormant) :
    (becomeDormant input s).tanks.senderDue = none ∧
      (becomeDormant input s).tanks.tempDue = s.ahead 128 ∧
      (becomeDormant input s).heater.cabinDue = s.ahead 128 := by
  have hband : (becomeDormant input s).meter.band = s.meter.band := by
    by_contra hne
    rw [becomeDormant_power, if_neg hne] at h
    cases h
  rw [becomeDormant_eq, ← dormantBegun_meter s] at hband
  have hconversions := closeInterval_conversions _ _ _ _ hband
  obtain ⟨hsenders, htemps, hcabin⟩ := dormantBegun_conversions s
  rwa [← becomeDormant_eq, hsenders, htemps, hcabin] at hconversions

theorem becomeDormant_pins (i : Fin 16) : pinAt (becomeDormant input s) i = (pinAt s i).clearCount := by
  have hpins := closeInterval_pins input.temperature input.order s.now (dormantBegun s)
  rw [← becomeDormant_eq] at hpins
  rw [hpins.fixed (by rw [dormantBegun_pins, clearCount_twice]), dormantBegun_pins]

theorem becomeDormant_origins : OriginsKeptBut [chHeater] s (becomeDormant input s) := by
  have horigins := closeInterval_origins input.temperature input.order s.now (dormantBegun s)
  rw [← becomeDormant_eq] at horigins
  exact fun ch hch => (horigins ch hch).trans (origins_of_table (dormantBegun_table s) ch)

theorem becomeDormant_begins :
    (becomeDormant input s).meter.acc = .empty ∧
      (becomeDormant input s).meter.intervalStart = s.now := by
  rw [becomeDormant_eq]
  exact closeInterval_begins _ _ _ _

theorem becomeDormant_link :
    (becomeDormant input s).link.rx = .hunt ∧ (becomeDormant input s).link.received = [] ∧
      (becomeDormant input s).link.expected = 0 := by
  rw [becomeDormant_eq]
  simp [dormantBegun, Link.hunting]

end

/-! ## The return to ACTIVE (R191) -/

/-- The hand-offs of the return to ACTIVE. -/
def activeActs (input : MeterInput) : List (HandOff × (State → State)) :=
  [(.activeMeter, fun u => closeInterval input.temperature input.order u.now u),
    (.activeLamps, lampsRetarget), (.activeArbiter, arbitrate)]

section
variable (input : MeterInput) (s : State)

theorem becomeActive_eq :
    becomeActive input s =
      inOrder input.order (activeActs input) (s.setTime { s.time with power := .active }) := rfl

theorem mem_activeActs {P : (State → State) → Prop}
    (hmeter : P fun u => closeInterval input.temperature input.order u.now u) (hlamps : P lampsRetarget)
    (harbiter : P arbitrate) : ∀ a ∈ activeActs input, P a.2 := by
  intro a ha
  simp only [activeActs, List.mem_cons, List.not_mem_nil, or_false] at ha
  rcases ha with rfl | rfl | rfl
  exacts [hmeter, hlamps, harbiter]

/-- R191: an ACTIVE part is not woken: its pins and its clock stand, and the arbiter claims DRIVE alone. -/
theorem becomeActive_keeps :
    (becomeActive input s).pins = s.pins ∧
      (becomeActive input s).time = { s.time with power := .active } ∧
      OriginsKeptBut [chHeater, chDrive] s (becomeActive input s) := by
  rw [becomeActive_eq]
  refine inOrder_keeps (fun t => t.pins = s.pins ∧ t.time = { s.time with power := .active } ∧
    OriginsKeptBut [chHeater, chDrive] s t) input.order _ _ ⟨rfl, rfl, fun _ _ => rfl⟩ ?_
  refine mem_activeActs input (P := fun f => ∀ t : State, (t.pins = s.pins ∧
    t.time = { s.time with power := .active } ∧ OriginsKeptBut [chHeater, chDrive] s t) →
      (f t).pins = s.pins ∧ (f t).time = { s.time with power := .active } ∧
        OriginsKeptBut [chHeater, chDrive] s (f t)) ?meter ?lamps ?arbiter
  case meter =>
    rintro t ⟨hpins, htime, horigins⟩
    have hawake : asleep t = false := by simp [asleep, htime]
    obtain ⟨kpins, ktime⟩ := closeInterval_awake input.temperature input.order t.now t hawake
    refine ⟨kpins.trans hpins, ktime.trans htime, fun ch hch => ?_⟩
    have hheater : ch ∉ [chHeater] := fun h => hch (List.mem_of_mem_dropLast h)
    rw [closeInterval_origins _ _ _ _ ch hheater, horigins ch hch]
  case lamps =>
    rintro t ⟨hpins, htime, horigins⟩
    refine ⟨by simpa using hpins, by simpa using htime, fun ch hch => ?_⟩
    have hfold : origins (allLamps.foldl retarget t) ch = origins t ch := by simp [origins]
    rw [lampsRetarget, (reevaluate_same _ _).get, hfold, horigins ch hch]
  case arbiter =>
    rintro t ⟨hpins, htime, horigins⟩
    refine ⟨by simpa using hpins, by simpa using htime, fun ch hch => ?_⟩
    obtain ⟨karbiter, -, -, -⟩ := (ArbiterKeeps.refl t).arbitrate
    have hdrive : ch ∉ [chDrive] := fun h => hch (List.mem_of_mem_tail h)
    rw [karbiter ch hdrive, horigins ch hch]

/-- R2, R191: the interval begins anew with the change to ACTIVE. -/
theorem becomeActive_begins :
    (becomeActive input s).meter.intervalStart = (becomeActive input s).now ∧
      (becomeActive input s).meter.acc = .empty := by
  have hclose : ∀ t : State,
      (closeInterval input.temperature input.order t.now t).meter.intervalStart =
          (closeInterval input.temperature input.order t.now t).now ∧
        (closeInterval input.temperature input.order t.now t).meter.acc = .empty := fun t => by
    obtain ⟨hacc, hstart⟩ := closeInterval_begins input.temperature input.order t.now t
    exact ⟨by rw [hstart]; simp [State.now], hacc⟩
  rw [becomeActive_eq]
  refine inOrder_establishes (fun t => t.meter.intervalStart = t.now ∧ t.meter.acc = .empty) input.order
    _ (by simp [activeActs]) (List.mem_cons_self ..) hclose ?_
  exact mem_activeActs input (P := fun f => ∀ t : State, t.meter.intervalStart = t.now ∧
      t.meter.acc = .empty → (f t).meter.intervalStart = (f t).now ∧ (f t).meter.acc = .empty)
    (fun t _ => hclose t) (fun t h => by simpa [State.now] using h)
    (fun t h => by simpa [State.now] using h)

end

/-! ## IDLE_DUE, DORMANT_ENTRY and LEAVING_TO_ACTIVE -/

section
variable {s : State} {input : MeterInput}

theorem slowStep_entering (fastTime : Nat) (hp : s.time.power = .entering) (hq : linkQuiet s = true) :
    slowStep fastTime input s = becomeDormant input (slowAdvance input s) := by
  unfold slowStep
  simp only [hp, hq, if_true]

theorem slowStep_leaving (fastTime : Nat) (hp : s.time.power = .leaving) :
    slowStep fastTime input s = becomeActive input (slowAdvance input s) := by
  unfold slowStep
  simp only [hp]

/-- The idle due instant makes the part ENTERING with every lamp dark (R67, R187, R188). -/
theorem exec_idleDue (hs : Settled s) (hp : s.time.power = .active)
    (hdue : dueReached s.now s.time.idleDue = true) :
    ∃ t, exec .idleDue s = .next t ∧ t.time.power = .entering ∧ t.time.idleDue = none ∧
      (∀ i : Fin 6, t.lamps.chans[i].Dark) ∧ OriginsKeptBut [] s t ∧ FlagsKeptBut [.loadShed] s t ∧
      t = { afterWalk (afterEvent s t) t with
        time := { s.time with power := .entering, idleDue := none } } := by
  have hentering : OnlyEntering (enterEntering (touchIdle s)) (touchIdle s) := by simp [OnlyEntering]
  have hpower := enterEntering_power (s := touchIdle s)
  have htouched : SameDemands s (touchIdle s) := .of_eq (by simp) (by simp)
  obtain ⟨t, hsettle, hevent, hp', hidle, hdark, horigins, hkept⟩ :=
    settle_entering (u := enterEntering (touchIdle s)) hs
      (fun f => (conditionHolds_enterEntering f).trans (conditionHolds_setTime s _ f))
      (htouched.trans enterEntering_same) hpower enterEntering_dark
  have hframe : t = { afterWalk (afterEvent (touchIdle s) t) t with
      time := { (touchIdle s).time with power := .entering, idleDue := none } } := by
    rw [hevent]
    simp only [afterWalk, afterEvent, hentering, hpower, hidle]
  exact ⟨t, by simp [exec, execIdleDue, perform_eq, hp, hdue, hsettle], hp', hidle, hdark, horigins, hkept,
    hframe⟩

theorem exec_dormantEntry (hok : temperatureOk input.temperature = true)
    (hp : s.time.power = .entering) (hq : linkQuiet s = true) :
    exec (.dormantEntry input) s =
      .next (settle s (becomeDormant input (slowAdvance input s))) := by
  simp [exec, execDormantEntry, hok, perform_eq, hp, hq, slowStep_entering 0 hp hq]

theorem exec_leavingToActive (hok : temperatureOk input.temperature = true)
    (hp : s.time.power = .leaving) :
    exec (.leavingToActive input) s = .next (settle s (becomeActive input (slowAdvance input s))) := by
  simp [exec, execLeavingToActive, hok, perform_eq, hp, slowStep_leaving 0 hp]

end

/-- Settles O58: the entry to ENTERING, and the two slow steps that close an interval. -/
theorem enteringDormantAndLeaving : Obligations.EnteringDormantAndLeaving := by
  intro s input next hok hs
  have hadvance := slowAdvance_frame input s
  have htime := slowAdvance_time input s
  have hmeter := slowAdvance_meter input s
  have horigins : ∀ ch, origins (slowAdvance input s) ch = origins s ch :=
    origins_of_table (by simp)
  refine ⟨exec_idleDue hs, fun hp hq => ?dormant, fun hp => ?active⟩
  case dormant =>
    have hexec := exec_dormantEntry (s := s) hok hp hq
    generalize slowAdvance input s = a at hadvance htime hmeter horigins hexec
    have hband : a.meter.band = s.meter.band := by rw [hmeter]; rfl
    have hpins : ∀ i, pinAt a i = pinAt s i := fun i => by simp only [pinAt, hadvance]
    obtain ⟨hacc, hstart⟩ := becomeDormant_begins input a
    obtain ⟨hrx, hreceived, hexpected⟩ := becomeDormant_link input a
    refine ⟨_, hexec, ?time, ?power, ?conversions, ?rx, ?received, ?expected, ?start, ?acc, fun i => ?pins,
      fun ch hch => ?origins, ?_, ?_, ?_, ?_, ?_, ?_, ?_⟩
    case time => simpa using htime
    case power => simpa [hband] using becomeDormant_power input a
    case conversions => simpa [State.ahead, State.now] using becomeDormant_conversions input a
    case rx => simpa using hrx
    case received => simpa using hreceived
    case expected => simpa using hexpected
    case start => simpa [State.now] using hstart
    case acc => simpa using hacc
    case pins =>
      have hclear := becomeDormant_pins input a i
      rw [hpins] at hclear
      rw [← hclear]
      simp [pinAt]
    case origins => rw [settle_origins, becomeDormant_origins input a ch hch, horigins]
    all_goals simp [hadvance]
  case active =>
    have hexec := exec_leavingToActive (s := s) hok hp
    generalize slowAdvance input s = a at hadvance htime hmeter horigins hexec
    obtain ⟨hpins, hclock, hkept⟩ := becomeActive_keeps input a
    obtain ⟨hstart, hacc⟩ := becomeActive_begins input a
    refine ⟨_, hexec, ?time, ?power, ?start, ?acc, ?_, ?pins, ?_, ?_, ?_, ?_, ?_,
      fun ch hch => ?origins⟩
    case time => simpa using htime
    case power => simp [hclock]
    case start => simpa [State.now] using hstart
    case acc => simpa using hacc
    case pins => simp [hpins, hadvance]
    case origins => rw [settle_origins, hkept ch hch, horigins]
    all_goals simp [hadvance]

end Sys2Proof.Machine
end

section
/-! PROOFS. The heater through a re-evaluation (R40, R44, R71, R78, R82): what a walk and its hand-offs can
make of it, when a shed is flagged, and the origins that its record then holds. -/

namespace Sys2Proof.Machine

/-! ## What a walk makes of the heater (R40, R78) -/

/-- The heater of a grant handed to WAIT_GRANT (R78). -/
def litHeater (s : State) : Heater :=
  { s.heater with state := .starting, glowDue := some (s.ahead (s.params.glowTime * 16)) }

/-- The heater that a shed or the end of its demand makes purge (R81, R82). -/
def purgingHeater (s : State) : Heater :=
  { s.heater with
    state := .purging
    glowDue := none
    purgeDue := some (s.ahead (s.params.purgeTime * 16)) }

/-- From `s` to `t` device time and the parameters stand, and the heater is as it was, or has been granted
in WAIT_GRANT, or has been made to purge in a state in which THERMOSTAT is on its record. -/
structure HeaterMoves (s t : State) : Prop where
  time : t.time = s.time
  params : t.params = s.params
  heater : t.heater = s.heater ∨ (s.heater.state = .waitGrant ∧ t.heater = litHeater s) ∨
    (holdsThermostat s.heater.state = true ∧ t.heater = purgingHeater s)

namespace HeaterMoves
variable {s t u : State}

theorem of_eq (ht : t.time = s.time) (hp : t.params = s.params) (hh : t.heater = s.heater) :
    HeaterMoves s t := ⟨ht, hp, .inl hh⟩

theorem refl (s : State) : HeaterMoves s s := .of_eq rfl rfl rfl

/-- THERMOSTAT is on the record afterwards where it was before (R71). -/
theorem thermostat (h : HeaterMoves s t) :
    holdsThermostat t.heater.state = holdsThermostat s.heater.state := by
  rcases h.heater with hh | ⟨hw, hh⟩ | ⟨hs, hh⟩
  · rw [hh]
  · rw [hh, hw]; rfl
  · rw [hh, hs]; rfl

theorem trans (h : HeaterMoves s t) (k : HeaterMoves t u) : HeaterMoves s u := by
  have htime : t.time = s.time := h.time
  have hparams : t.params = s.params := h.params
  refine ⟨k.time.trans htime, k.params.trans hparams, ?_⟩
  rcases k.heater with kk | ⟨kw, kk⟩ | ⟨ks, kk⟩
  · rw [kk]; exact h.heater
  · rcases h.heater with hh | ⟨-, hh⟩ | ⟨-, hh⟩
    · refine .inr (.inl ⟨hh ▸ kw, ?_⟩)
      rw [kk]
      simp only [litHeater, State.ahead, State.now, hh, htime, hparams]
    · simp [hh, litHeater] at kw
    · simp [hh, purgingHeater] at kw
  · refine .inr (.inr ⟨h.thermostat ▸ ks, ?_⟩)
    rw [kk]
    rcases h.heater with hh | ⟨-, hh⟩ | ⟨-, hh⟩ <;>
      simp only [purgingHeater, litHeater, State.ahead, State.now, hh, htime, hparams]

/-- A heater without THERMOSTAT on its record is left alone. -/
theorem kept (h : HeaterMoves s t) (hs : holdsThermostat s.heater.state = false) :
    t.heater = s.heater := by
  rcases h.heater with hh | ⟨hw, -⟩ | ⟨hs', -⟩
  · exact hh
  · simp [hw, holdsThermostat] at hs
  · simp [hs] at hs'

/-- The origins that the sequencer holds follow (R71). -/
theorem heaterOrigins (h : HeaterMoves s t) : heaterOrigins t.heater = heaterOrigins s.heater := by
  have hfrost : t.heater.frostOrigin = s.heater.frostOrigin := by
    rcases h.heater with hh | ⟨-, hh⟩ | ⟨-, hh⟩ <;> rw [hh] <;> rfl
  simp only [Machine.heaterOrigins, h.thermostat, hfrost]

end HeaterMoves

/-- A shed record is HEATER's, which then purges, or leaves the heater alone. -/
theorem shedRecord_moves (s : State) (ch : Channel) : HeaterMoves s (shedRecord s ch) := by
  refine ⟨by simp, by simp, ?_⟩
  by_cases hc : (decide (ch = chHeater) &&
      (decide (heaterPhase s = .glow) || decide (heaterPhase s = .run))) = true
  · have hheater : (shedRecord s ch).heater = purgingHeater s := by
      simp only [shedRecord, if_pos hc]
      rfl
    have hphase : heaterPhase s ≠ .none := by
      rintro hnone
      simp [hnone] at hc
    refine .inr (.inr ⟨?_, hheater⟩)
    unfold heaterPhase at hphase
    cases hs : s.heater.state <;> simp [hs] at hphase <;> rfl
  · refine .inl ?_
    simp only [shedRecord, if_neg hc]
    simp

theorem shedWhile_moves (pick : State → Option Channel) (n : Nat) (s : State) :
    HeaterMoves s (shedWhile pick n s) := by
  induction n generalizing s with
  | zero => exact .refl s
  | succ n ih =>
    unfold shedWhile
    split
    · exact .refl s
    · exact .trans (shedRecord_moves s _) (ih _)

theorem walkStep2_moves (s : State) : HeaterMoves s (walkStep2 s) := by
  have hshed : HeaterMoves s (shedWhile pickOver 13 (shedWhile pickUnserved 13 s)) :=
    .trans (shedWhile_moves _ _ s) (shedWhile_moves _ _ _)
  unfold walkStep2
  exact ite_keeps (HeaterMoves s) _ _ _ (hshed.trans (.of_eq (by simp) (by simp) (by simp))) hshed

theorem walk_moves (s : State) : HeaterMoves s (walk s) :=
  .trans (t := walkStep1 s) (.of_eq (by simp) (by simp) (by simp))
    (.trans (walkStep2_moves _) (.of_eq (by simp) (by simp) (by simp [walk])))

/-- R78: of the hand-offs of a walk the heater takes its grant alone. -/
theorem heaterHandOff_moves (s : State) : HeaterMoves s (heaterHandOff s) := by
  unfold heaterHandOff
  split
  · next h =>
    simp only [Bool.and_eq_true, decide_eq_true_eq] at h
    exact ⟨rfl, rfl, .inr (.inl ⟨h.1, rfl⟩)⟩
  · exact .refl s

theorem handOff_moves (before again : List Channel) (s : State) :
    HeaterMoves s (handOff before again s) :=
  .trans (t := allLamps.foldl (lampHandOff before again) s) (.of_eq (by simp) (by simp) (by simp))
    (.trans (heaterHandOff_moves _) (.of_eq (by simp) (by simp) (by simp [handOff])))

theorem relist_moves (before s : State) : HeaterMoves s (relist before s) :=
  .of_eq (by simp) (by simp) (by simp)

theorem runWalk_moves (n : Nat) (before : List Channel) (s : State) :
    HeaterMoves s (runWalk n before s) := by
  induction n generalizing before s with
  | zero => exact .refl s
  | succ n ih =>
    have h := (walk_moves s).trans (handOff_moves before (regranted s) (walk s))
    unfold runWalk
    exact ite_keeps (HeaterMoves s) _ _ _ h (h.trans (.trans (relist_moves _ _) (ih _ _)))

theorem reevaluateAlways_moves (before s : State) : HeaterMoves s (reevaluateAlways before s) :=
  .trans (relist_moves before s) (runWalk_moves _ _ _)

theorem reevaluate_moves (before s : State) : HeaterMoves s (reevaluate before s) := by
  unfold reevaluate
  exact ite_keeps (HeaterMoves s) _ _ _ (relist_moves before s) (reevaluateAlways_moves before s)

theorem originEvent_moves (before s : State) : HeaterMoves s (originEvent before s) :=
  .trans (t := followLamps before s) (.of_eq (by simp) (by simp) (by simp)) (reevaluate_moves _ _)

/-- R72: a change that the table follows moves the heater as a walk does. -/
theorem heaterSettle_moves (before s : State) : HeaterMoves s (heaterSettle before s) := by
  have hsync : HeaterMoves s (syncHeater s) := .of_eq (by simp) (by simp) (by simp)
  unfold heaterSettle
  exact ite_keeps (HeaterMoves s) _ _ _ (hsync.trans (reevaluate_moves _ _))
    (hsync.trans (reevaluateAlways_moves _ _))

/-! ## A purge that a walk begins is a shed (R39, R40) -/

/-- From `s` to `t` LOAD_SHED stays as it stands with its mark, and a purge that begins has flagged it. -/
structure PurgeFlagged (s t : State) : Prop where
  marked : flagBits s .loadShed = ⟨true, true⟩ → flagBits t .loadShed = ⟨true, true⟩
  purged : t.heater.state = .purging →
    s.heater.state = .purging ∨ flagBits t .loadShed = ⟨true, true⟩

namespace PurgeFlagged
variable {s t u : State}

theorem trans (h : PurgeFlagged s t) (k : PurgeFlagged t u) : PurgeFlagged s u where
  marked hs := k.marked (h.marked hs)
  purged hu := by
    rcases k.purged hu with ht | hflag
    · exact (h.purged ht).imp_right k.marked
    · exact .inr hflag

theorem of_eq (hf : t.link.flags = s.link.flags) (hh : t.heater = s.heater) : PurgeFlagged s t where
  marked hs := (flagBits_of_flags hf _).trans hs
  purged ht := .inl (hh ▸ ht)

end PurgeFlagged

/-- Step 2 sheds nothing, or flags LOAD_SHED (R39). -/
theorem walk_purgeFlagged (s : State) : PurgeFlagged s (walk s) := by
  refine ⟨walk_shedFlag, fun hpurging => ?_⟩
  rcases walkStep2_sheds (walkStep1 s) with hkept | hshed
  · refine .inl ?_
    have hheater : (walk s).heater = s.heater := by simp [walk, hkept]
    exact hheater ▸ hpurging
  · refine .inr ?_
    rw [← hshed]
    exact flagBits_of_flags (by simp [walk]) _

theorem handOff_purgeFlagged (before again : List Channel) (s : State) :
    PurgeFlagged s (handOff before again s) := by
  have hflags : (handOff before again s).link.flags = s.link.flags := by simp
  refine ⟨fun hs => (flagBits_of_flags hflags _).trans hs, fun hpurging => .inl ?_⟩
  have hstate : (handOff before again s).heater = (heaterHandOff (allLamps.foldl
      (lampHandOff before again) s)).heater := by simp [handOff]
  have hlamps : (allLamps.foldl (lampHandOff before again) s).heater = s.heater := by simp
  rw [hstate] at hpurging
  unfold heaterHandOff at hpurging
  split at hpurging
  · simp at hpurging
  · exact hlamps ▸ hpurging

theorem runWalk_purgeFlagged (n : Nat) (before : List Channel) (s : State) :
    PurgeFlagged s (runWalk n before s) := by
  induction n generalizing before s with
  | zero => exact .of_eq rfl rfl
  | succ n ih =>
    have h := (walk_purgeFlagged s).trans (handOff_purgeFlagged before (regranted s) (walk s))
    unfold runWalk
    exact ite_keeps (PurgeFlagged s) _ _ _ h
      (h.trans (.trans (.of_eq (by simp) (by simp)) (ih _ _)))

theorem reevaluateAlways_purgeFlagged (before s : State) :
    PurgeFlagged s (reevaluateAlways before s) :=
  .trans (t := relist before s) (.of_eq (by simp) (by simp)) (runWalk_purgeFlagged _ _ _)

theorem reevaluate_purgeFlagged (before s : State) : PurgeFlagged s (reevaluate before s) := by
  unfold reevaluate
  exact ite_keeps (PurgeFlagged s) _ _ _ (.of_eq (by simp) (by simp))
    (reevaluateAlways_purgeFlagged before s)

theorem heaterSettle_purgeFlagged (before s : State) : PurgeFlagged s (heaterSettle before s) := by
  have hsync : PurgeFlagged s (syncHeater s) := .of_eq (by simp) (by simp)
  unfold heaterSettle
  exact ite_keeps (PurgeFlagged s) _ _ _ (hsync.trans (reevaluate_purgeFlagged _ _))
    (hsync.trans (reevaluateAlways_purgeFlagged _ _))

/-! ## The heater's record (R71, R72) -/

/-- A heater that purges already is left alone by what follows (R82). -/
theorem heaterSettle_heater_of_purging {before s : State} (hs : s.heater.state = .purging) :
    (heaterSettle before s).heater = s.heater := by
  have hsync : (syncHeater s).heater = s.heater := by simp
  have hwalked := reevaluateAlways_heater_of_purging (s := syncHeater s) (hsync ▸ hs) before
  unfold heaterSettle reevaluate
  unfold reevaluateAlways at hwalked ⊢
  refine ite_keeps (fun t : State => t.heater = s.heater) _ _ _ ?_ (hwalked.trans hsync)
  exact ite_keeps (fun t : State => t.heater = s.heater) _ _ _ (by simp) (hwalked.trans hsync)

/-- The record holds the origins of the state that the heater has come to (R71). -/
theorem heaterSettle_origins (before s : State) :
    origins (heaterSettle before s) chHeater = heaterOrigins (heaterSettle before s).heater := by
  have hsync : origins (syncHeater s) chHeater = heaterOrigins s.heater := by
    rw [syncHeater, origins_setOrigins, if_pos rfl]
  rw [(heaterSettle_moves before s).heaterOrigins, ← hsync]
  unfold heaterSettle
  exact ite_keeps (fun t : State => origins t chHeater = origins (syncHeater s) chHeater) _ _ _
    ((reevaluate_same _ _).get _) ((reevaluateAlways_same _ _).get _)

theorem heaterSettle_originsKept (before s : State) :
    OriginsKeptBut [chHeater] s (heaterSettle before s) := fun ch hch =>
  (heaterSettle_handedOn before s).origins ch (by simpa using hch)

theorem heaterSettle_flags (before s : State) :
    FlagsKeptBut [.loadShed] s (heaterSettle before s) := by
  intro f hf
  have hne : f ≠ .loadShed := by simpa using hf
  have hsync : flagBits (syncHeater s) f = flagBits s f := flagBits_of_flags (by simp) f
  rw [← hsync]
  unfold heaterSettle
  exact ite_keeps (fun t : State => flagBits t f = flagBits (syncHeater s) f) _ _ _
    ((reevaluate_same _ _).flags f hne) ((reevaluateAlways_same _ _).flags f hne)

end Sys2Proof.Machine
end

section
/-! PROOFS. The heater after a power-on reset (R88), the test at the end of its glow (R79, R83) and the end of
its purge (R82). -/

namespace Sys2Proof.Machine

/-! ## The state after reset (R88) -/

/-- Settles O4: a power-on reset keeps the queue alone, and nothing of the heater depends on it. -/
theorem powerOnResetOfTheHeater : Obligations.PowerOnResetOfTheHeater := by
  intro s
  have hrun : outputActive State.reset .heaterRun = false := by decide
  have hsensor : sensorLost State.reset = false := by decide
  exact ⟨State.reset.setPending s.pending, rfl, rfl, hrun, rfl, rfl, rfl, rfl, rfl, rfl, rfl, rfl, rfl,
    rfl, rfl, rfl, rfl, rfl, rfl, rfl, rfl, hsensor⟩

/-! ## An event of the heater at the end of its command -/

section
variable {s u t : State}

/-- No condition reads what the sequence of the heater changes. -/
theorem conditionHolds_of_flame (h : OnlyFlame s t) (f : Flag) :
    conditionHolds t f = conditionHolds s f := by
  have ha := eventActive_of_pins (s := s) (t := t) (by simp only [h])
  have hm := eventMapped_of_pins (s := s) (t := t) (by simp only [h])
  refine conditionHolds_of_units ?_ ha hm ?_ ?_ ?_ ?_ ?_ ?_ ?_ ?_ f <;> simp only [h]

/-- The frame of an event of the heater's sequence as one equation. -/
theorem eq_of_onlyFlame (ht : t = afterEvent u t) (h : OnlyFlame u s) :
    t = { afterWalk (afterEvent s t) t with
      heater :=
        { (afterWalk (afterEvent s t) t).heater with
          failed := t.heater.failed
          latch := t.heater.latch } } := by
  rw [ht]
  simp only [afterWalk, afterEvent, h]

theorem settle_heater (before s : State) : (settle before s).heater = s.heater := by simp

/-- A flag without a condition keeps its bits over the end of a command. -/
theorem flagBits_settle_of_unconditional (before : State) {f : Flag}
    (hf : conditionHolds u f = false) : flagBits (settle before u) f = flagBits u f := by
  rw [flagBits_settle, if_neg (by simp [hf])]

end

/-! ## The end of the glow (R79, R83) -/

section
variable {s : State}

/-- R83: the third failure flags HEATER_LOCKOUT, and no failure any other flag. -/
theorem flagBits_addFailure (s : State) (f : Flag) :
    flagBits (addFailure s) f =
      if f = .heaterLockout ∧ 2 ≤ s.heater.failed then ⟨true, true⟩ else flagBits s f := by
  by_cases hthird : 2 ≤ s.heater.failed
  · have hmin : min 3 (s.heater.failed + 1) = 3 := by omega
    simp only [addFailure, hmin, if_true, flagBits_raiseFlag, hthird, and_true, eq_comm]
    rfl
  · have hmin : min 3 (s.heater.failed + 1) ≠ 3 := by omega
    simp only [addFailure, if_neg hmin, hthird, and_false, if_false]
    rfl

/-- A start has failed (R79): the failure is counted, and the heater purges. -/
def failedStart (s : State) : State := heaterSettle s (enterPurging (addFailure s))

theorem failedStart_heater (s : State) :
    (failedStart s).heater = purgingHeater (addFailure s) :=
  heaterSettle_heater_of_purging (s := enterPurging (addFailure s)) rfl

theorem failedStart_flags {f : Flag} (hf : f ≠ .loadShed) :
    flagBits (failedStart s) f = flagBits (addFailure s) f :=
  heaterSettle_flags s (enterPurging (addFailure s)) f (by simpa using hf)

/-- The start has succeeded (R79): the heater runs. -/
def startedHeater (s : State) : Heater :=
  { s.heater with state := .running, glowDue := none, failed := 0 }

theorem glowEndOp_fails (hmapped : eventMapped s .heaterFlame = true)
    (hactive : eventActive s .heaterFlame = false) : glowEndOp s = failedStart s := by
  unfold glowEndOp
  rw [if_pos (by simp [hmapped, hactive])]
  rfl

theorem glowEndOp_starts
    (h : eventMapped s .heaterFlame = false ∨ eventActive s .heaterFlame = true) :
    glowEndOp s = heaterSettle s (s.setHeater (startedHeater s)) := by
  unfold glowEndOp
  rw [if_neg (by rcases h with h | h <;> simp [h])]
  rfl

theorem failedStart_outcome (s : State) :
    (failedStart s).heater.state = .purging ∧ (failedStart s).heater.glowDue = none ∧
      (failedStart s).heater.failed = min 3 (s.heater.failed + 1) ∧
      (failedStart s).heater.purgeDue = some (s.ahead (s.params.purgeTime * 16)) ∧
      (2 ≤ s.heater.failed → (failedStart s).heater.latch = true ∧
        flagBits (failedStart s) .heaterLockout = ⟨true, true⟩) ∧
      (s.heater.failed < 2 → (failedStart s).heater.latch = s.heater.latch ∧
        flagBits (failedStart s) .heaterLockout = flagBits s .heaterLockout) := by
  obtain ⟨hfailed, hlatched, hlatch⟩ := addFailure_heater (s := s)
  rw [failedStart_flags (by decide), failedStart_heater]
  refine ⟨rfl, rfl, hfailed, ?due, hlatched, fun hlt => ⟨hlatch hlt, ?flag⟩⟩
  case due => simp [purgingHeater, State.ahead, State.now]
  case flag => rw [flagBits_addFailure, if_neg (by omega)]

/-- A started heater runs on unless the walk that follows sheds it (R40). -/
theorem startedHeater_outcome (s : State) :
    let u := heaterSettle s (s.setHeater (startedHeater s))
    u.heater.glowDue = none ∧ u.heater.failed = 0 ∧ u.heater.latch = s.heater.latch ∧
      (u.heater.state = .running ∨
        (u.heater.state = .purging ∧ flagBits u .loadShed = ⟨true, true⟩)) := by
  intro u
  have hflagged := (heaterSettle_purgeFlagged s (s.setHeater (startedHeater s))).purged
  rcases (heaterSettle_moves s (s.setHeater (startedHeater s))).heater with hh | ⟨hw, -⟩ | ⟨-, hh⟩
  · rw [show u.heater = startedHeater s from hh]
    exact ⟨rfl, rfl, rfl, .inl rfl⟩
  · cases hw
  · have hheater : u.heater = purgingHeater (s.setHeater (startedHeater s)) := hh
    have hshed : flagBits u .loadShed = ⟨true, true⟩ :=
      (hflagged (hheater ▸ rfl)).resolve_left (by simp [startedHeater])
    rw [hheater]
    exact ⟨rfl, rfl, rfl, .inr ⟨rfl, hshed⟩⟩

theorem glowEndOp_glowDue (s : State) : (glowEndOp s).heater.glowDue = none := by
  obtain ⟨-, hfailed, -⟩ := failedStart_outcome s
  obtain ⟨hstarted, -⟩ := startedHeater_outcome s
  unfold glowEndOp
  exact ite_keeps (fun t : State => t.heater.glowDue = none) _ _ _ hfailed hstarted

theorem glowEndOp_origins (s : State) : OriginsKeptBut [chHeater] s (glowEndOp s) := by
  intro ch hch
  unfold glowEndOp
  refine ite_keeps (fun t : State => origins t ch = origins s ch) _ _ _ ?_
    (heaterSettle_originsKept s _ ch hch)
  rw [heaterSettle_originsKept s _ ch hch]
  simp [origins]

theorem glowEndOp_flags (s : State) :
    FlagsKeptBut [.loadShed, .heaterLockout] s (glowEndOp s) := by
  intro f hf
  simp only [List.mem_cons, List.not_mem_nil, or_false, not_or] at hf
  obtain ⟨hshed, hlockout⟩ := hf
  have hkept : f ∉ [Flag.loadShed] := by simpa using hshed
  unfold glowEndOp
  refine ite_keeps (fun t : State => flagBits t f = flagBits s f) _ _ _ ?_
    (heaterSettle_flags s _ f hkept)
  exact (failedStart_flags hshed).trans (by rw [flagBits_addFailure, if_neg (by simp [hlockout])])

/-- Settles O34: the two outcomes of the test, each through the walk that follows. -/
theorem glowEndTestsTheFlame : Obligations.GlowEndTestsTheFlame := by
  intro s hstarting hdue hs
  have hexec : exec .glowEnd s = .next (settle s (glowEndOp s)) := by
    simp [exec, execGlowEnd, perform_eq, hstarting, hdue]
  have hframe : OnlyFlame (glowEndOp s) s := by simp [OnlyFlame]
  have hconditions := conditionHolds_of_flame (glowEndOp_frame s)
  have hlockout : flagBits (settle s (glowEndOp s)) .heaterLockout =
      flagBits (glowEndOp s) .heaterLockout := flagBits_settle_of_unconditional s rfl
  have hshed : flagBits (settle s (glowEndOp s)) .loadShed = flagBits (glowEndOp s) .loadShed :=
    flagBits_settle_of_unconditional s rfl
  refine ⟨_, hexec, ?due, fun hmapped hactive => ?fails, fun hflame => ?starts, fun ch hch => ?origins,
    settle_flagsKept hs hconditions (glowEndOp_flags s),
    eq_of_onlyFlame (settle_eq_afterEvent s _) hframe⟩
  case due => rw [settle_heater, glowEndOp_glowDue]
  case fails =>
    obtain ⟨hstate, -, hfailed, hpurgeDue, hthird, hearlier⟩ := failedStart_outcome s
    rw [settle_heater, hlockout, glowEndOp_fails hmapped hactive]
    exact ⟨hstate, hfailed, hpurgeDue, hthird, hearlier⟩
  case starts =>
    obtain ⟨-, hfailed, hlatch, hstate⟩ := startedHeater_outcome s
    have hflag : flagBits (heaterSettle s (s.setHeater (startedHeater s))) .heaterLockout =
        flagBits s .heaterLockout := heaterSettle_flags s _ _ (by decide)
    rw [settle_heater, hlockout, hshed, glowEndOp_starts hflame]
    exact ⟨hfailed, hlatch, hstate, hflag⟩
  case origins => rw [settle_origins, glowEndOp_origins s ch hch]

end

/-! ## The end of the purge (R82) -/

section
variable {s : State}

/-- The heater that leaves its purge for a state. -/
def afterPurge (st : HeaterState) (s : State) : State :=
  s.setHeater { s.heater with state := st, purgeDue := none }

/-- The heater that leaves its purge with the demand: its record waits again (R36, R40, R82). -/
def waitsAgain (s : State) : State :=
  setGranted (afterPurge .waitGrant s) (s.table.granted.erase chHeater)

theorem purgeEndOp_lockout (h : 3 ≤ s.heater.failed) :
    purgeEndOp s = heaterSettle s (afterPurge .lockout s) := by
  unfold purgeEndOp
  rw [if_pos h]
  rfl

theorem purgeEndOp_demanded (h : s.heater.failed < 3) (hd : s.heater.demand = true) :
    purgeEndOp s = heaterSettle s (waitsAgain s) := by
  unfold purgeEndOp
  rw [if_neg (by omega), if_pos hd]
  rfl

theorem purgeEndOp_off (h : s.heater.failed < 3) (hd : s.heater.demand = false) :
    purgeEndOp s = heaterSettle s (afterPurge .off s) := by
  unfold purgeEndOp
  rw [if_neg (by omega), if_neg (by simp [hd])]
  rfl

/-- The three ways out of the purge as one: a change of the heater and of the lists, which the table
follows. -/
theorem purgeEndOp_eq (s : State) :
    ∃ u, purgeEndOp s = heaterSettle s u ∧ u.table.recs = s.table.recs ∧
      u.link.flags = s.link.flags := by
  by_cases hfailed : 3 ≤ s.heater.failed
  · exact ⟨_, purgeEndOp_lockout hfailed, rfl, rfl⟩
  · cases hd : s.heater.demand
    · exact ⟨_, purgeEndOp_off (by omega) hd, rfl, rfl⟩
    · exact ⟨_, purgeEndOp_demanded (by omega) hd, rfl, rfl⟩

/-- A heater in LOCKOUT or OFF stays there through the walk (R77, R82). -/
theorem afterPurge_kept {st : HeaterState} (hst : holdsThermostat st = false) (s : State) :
    (heaterSettle s (afterPurge st s)).heater = { s.heater with state := st, purgeDue := none } :=
  (heaterSettle_moves s (afterPurge st s)).kept hst

/-- A heater that waits again may be granted by the walk that follows, and shed by it (R40, R78). -/
theorem waitsAgain_outcome (s : State) :
    let u := heaterSettle s (waitsAgain s)
    (u.heater.state = .waitGrant ∧ u.heater.purgeDue = none) ∨
      (u.heater.state = .starting ∧ u.heater.purgeDue = none ∧
        u.heater.glowDue = some (s.ahead (s.params.glowTime * 16))) ∨
      (u.heater.state = .purging ∧ flagBits u .loadShed = ⟨true, true⟩) := by
  intro u
  have hflagged := (heaterSettle_purgeFlagged s (waitsAgain s)).purged
  rcases (heaterSettle_moves s (waitsAgain s)).heater with hh | ⟨-, hh⟩ | ⟨-, hh⟩
  · exact .inl (by rw [show u.heater = _ from hh]; exact ⟨rfl, rfl⟩)
  · exact .inr (.inl (by rw [show u.heater = _ from hh]; exact ⟨rfl, rfl, rfl⟩))
  · have hpurging : u.heater.state = .purging := by rw [show u.heater = _ from hh]; rfl
    exact .inr (.inr ⟨hpurging, (hflagged hpurging).resolve_left (by simp [waitsAgain, afterPurge])⟩)

/-- Settles O35: the three rows of R82, each through the walk that follows. -/
theorem purgeEndLeavesThePurge : Obligations.PurgeEndLeavesThePurge := by
  intro s hpurging hdue hs
  have hexec : exec .purgeEnd s = .next (settle s (purgeEndOp s)) := by
    simp [exec, execPurgeEnd, perform_eq, hpurging, hdue]
  have hframe : OnlyLoads (purgeEndOp s) s := by simp [OnlyLoads]
  have hconditions := conditionHolds_of_loads (purgeEndOp_frame s)
  obtain ⟨u, hop, hrecs, hflags⟩ := purgeEndOp_eq s
  have hown : origins (purgeEndOp s) chHeater = heaterOrigins (purgeEndOp s).heater := by
    rw [hop]
    exact heaterSettle_origins s u
  refine ⟨_, hexec, fun hfailed => ?lockout, fun hfailed hdemand => ?again, fun hfailed hdemand => ?off,
    ?own, fun ch hch => ?others, settle_flagsKept hs hconditions fun f hf => ?flags,
    eq_of_onlyLoads (settle_eq_afterEvent s _) hframe⟩
  case lockout =>
    rw [settle_heater, purgeEndOp_lockout hfailed, afterPurge_kept rfl]
    exact ⟨rfl, rfl⟩
  case again =>
    rw [settle_heater, flagBits_settle_of_unconditional s rfl, purgeEndOp_demanded hfailed hdemand]
    exact waitsAgain_outcome s
  case off =>
    have hheater := afterPurge_kept (st := .off) rfl s
    rw [settle_heater, settle_origins, hown, purgeEndOp_off hfailed hdemand, hheater]
    exact ⟨rfl, rfl, rfl⟩
  case own => rw [settle_origins, settle_heater, hown]
  case others =>
    rw [settle_origins, hop, heaterSettle_originsKept s u ch hch, origins, hrecs]
    rfl
  case flags => rw [hop, heaterSettle_flags s u f hf, flagBits_of_flags hflags]

end

end Sys2Proof.Machine
end

section
/-! PROOFS. The modes, the thermostat and the demand of the heater (R73 to R76): what a change of an input of
the sequencer leaves, HEAT_MODE (R87) and the cabin conversion (R75). -/

namespace Sys2Proof.Machine

/-! ## A change of an input (R73) -/

section
variable (afresh : Bool) (before s : State)

/-- The heater with the ceiling and the effective mode that its inputs give it (R73, R74). -/
def modedHeater : Heater :=
  { s.heater with
    ceiling := ceilingOf s.meter.band
    effective := (requestedMode s.heater).inf (ceilingOf s.meter.band) }

/-- R73: everything is recomputed, the sequence acts, and the table follows. `afresh`: the first PRESENT
conversion (R76). -/
def inputChanged : State := heaterSettle before (heaterAct (heaterRecompute afresh s))

theorem heaterRecompute_heater :
    (heaterRecompute afresh s).heater =
      { modedHeater s with
        thermostat := thermostatTest s.params afresh (modedHeater s)
        demand := demandOf
          { modedHeater s with thermostat := thermostatTest s.params afresh (modedHeater s) } } := rfl

/-- Without a setpoint the thermostat is SATISFIED (R76). -/
theorem thermostatTest_off (p : Params) {h : Heater} (hoff : h.effective = .off) :
    thermostatTest p afresh h = .satisfied := by
  simp only [thermostatTest, hoff, setpointOf]

/-- The modes and the thermostat after a change of an input, and the demand and the origins that follow
(R71, R73, R74, R76). -/
theorem inputChanged_heater :
    let u := inputChanged afresh before s
    u.heater.ceiling = ceilingOf s.meter.band ∧
      u.heater.effective = (requestedMode s.heater).inf (ceilingOf s.meter.band) ∧
      u.heater.thermostat = thermostatTest s.params afresh (modedHeater s) ∧
      (u.heater.effective = .off → u.heater.thermostat = .satisfied) ∧
      u.heater.demand = demandOf u.heater ∧ origins u chHeater = heaterOrigins u.heater := by
  intro u
  have heffective : u.heater.effective = (modedHeater s).effective := by
    simp [u, inputChanged, heaterRecompute_heater]
  have hthermostat : u.heater.thermostat = thermostatTest s.params afresh (modedHeater s) := by
    simp [u, inputChanged, heaterRecompute_heater]
  refine ⟨?ceiling, heffective, hthermostat, fun hoff => ?satisfied, ?demand, heaterSettle_origins _ _⟩
  case ceiling => simp [u, inputChanged, heaterRecompute_heater, modedHeater]
  case satisfied => rw [hthermostat, thermostatTest_off afresh s.params (heffective ▸ hoff)]
  case demand =>
    simp [u, inputChanged, heaterRecompute_heater, demandOf]

theorem inputChanged_originsKept : OriginsKeptBut [chHeater] s (inputChanged afresh before s) := by
  intro ch hch
  rw [inputChanged, heaterSettle_originsKept _ _ ch hch]
  simp [origins]

theorem inputChanged_flags : FlagsKeptBut [.loadShed] s (inputChanged afresh before s) := by
  intro f hf
  rw [inputChanged, heaterSettle_flags _ _ f hf]
  exact flagBits_of_flags (by simp) f

end

/-! ## A request at the end of its command -/

/-- What a request leaves whose effect keeps the conditions, the power state and the link but for flags. -/
theorem settled_answer {kind : Nat} {tag : Byte} {p reply : List Byte} {s v t : State} {l : List Flag}
    (hs : Settled s) (hr : RequestAt kind tag p s) (hpower : v.time.power = s.time.power)
    (hlink : v.link.inbox = s.link.inbox ∧ v.link.replies = s.link.replies ∧ v.link.tx = s.link.tx)
    (hc : ∀ f, conditionHolds v f = conditionHolds s f) (hb : FlagsKeptBut l s v)
    (ht : t = settle s (answer (BitVec.ofNat 8 kind) tag reply v)) :
    Replied kind tag reply s t ∧ t.table = v.table ∧ t.heater = v.heater ∧ FlagsKeptBut l s t ∧
      t = afterEvent (answered kind tag reply v) t := by
  have hawake : v.time.power ≠ .dormant := hpower ▸ not_dormant_of_requestAt hr
  rw [answer_eq_answered _ _ _ _ hawake] at ht
  refine ⟨?replied, by simp [ht, answered], by simp [ht, answered],
    ht ▸ settle_flagsKept hs (fun f => (conditionHolds_answered _ _ _ _ f).trans (hc f)) hb,
    ht ▸ settle_eq_afterEvent s _⟩
  refine ⟨?_, ?_, ?_⟩ <;> simp [ht, answered, hlink]

/-! ## HEAT_MODE (R73, R87) -/

section
variable {s : State} {tag code : Byte} {m : HeatMode}

/-- A heater report reads the heater, the parameters and the time (R87). -/
theorem heaterReport_congr {s t : State} (hh : t.heater = s.heater) (hp : t.params = s.params)
    (hn : t.now = s.now) : heaterReport t = heaterReport s := by
  simp only [heaterReport, heaterItems, heaterTicks, hh, hp, hn]

theorem setHostMode_eq (m : HeatMode) (s : State) :
    setHostMode m s = inputChanged false s (s.setHeater { s.heater with hostMode := m }) := rfl

/-- No condition reads what a HOST mode changes. -/
theorem conditionHolds_setHostMode (m : HeatMode) (s : State) (f : Flag) :
    conditionHolds (setHostMode m s) f = conditionHolds s f := by
  have ha := eventActive_of_pins (s := s) (t := setHostMode m s) (by simp)
  have hm := eventMapped_of_pins (s := s) (t := setHostMode m s) (by simp)
  refine conditionHolds_of_units ?_ ha hm ?_ ?_ ?_ ?_ ?_ ?_ ?_ ?_ f <;> simp

/-- The frame of HEAT_MODE as one equation. -/
theorem eq_of_onlyHostMode {reply : List Byte} {s v t : State} (h : OnlyHostMode v s)
    (hmode : v.heater.hostMode = m) (ht : t = afterEvent (answered 6 tag reply v) t) :
    t = { afterWalk (afterRequest s t) t with
      heater :=
        { (afterWalk (afterRequest s t) t).heater with
          hostMode := m
          ceiling := t.heater.ceiling
          effective := t.heater.effective
          thermostat := t.heater.thermostat
          demand := t.heater.demand } } := by
  subst hmode
  rw [ht]
  simp only [afterWalk, afterRequest, afterEvent, answered, State.setLink, h]

/-- A HEAT_MODE of a mode's code sets the HOST mode and answers with the report after it. -/
theorem exec_heatMode_mode (hr : RequestAt 6 tag [code] s) (hcode : code.toNat = m.code) :
    exec (.heatMode tag [code]) s =
      .next (settle s (answer 6#8 tag (packReply .accepted (heaterReport (setHostMode m s)))
        (setHostMode m s))) := by
  simp only [exec, execHeatMode]
  refine takeRequest_eq hr rfl ?_
  rw [show byteAt [code] 0 = code from rfl, heatOp_mode hcode]
  rfl

/-- Settles O30: the HOST mode as a change of an input, with its report, and the two codes that set
nothing. -/
theorem heatModeSetsTheHostMode : Obligations.HeatModeSetsTheHostMode := by
  intro s tag code m hr hs
  refine ⟨fun hcode => ?mode, fun h255 => ?unchanged, fun hlo h255 => ?range⟩
  case mode =>
    have hexec := exec_heatMode_mode hr hcode
    obtain ⟨hceiling, heffective, -, hoff, hdemand, hown⟩ :=
      inputChanged_heater false s (s.setHeater { s.heater with hostMode := m })
    have horigins := inputChanged_originsKept false s (s.setHeater { s.heater with hostMode := m })
    have hflags := inputChanged_flags false s (s.setHeater { s.heater with hostMode := m })
    rw [← setHostMode_eq] at hceiling heffective hoff hdemand hown horigins hflags
    have hmode : (setHostMode m s).heater.hostMode = m := by
      rw [setHostMode_eq, inputChanged]
      simp
    have hlink : (setHostMode m s).link.inbox = s.link.inbox ∧
        (setHostMode m s).link.replies = s.link.replies ∧ (setHostMode m s).link.tx = s.link.tx := by
      simp
    have hpower : (setHostMode m s).time.power = s.time.power := by simp
    have hframe : OnlyHostMode (setHostMode m s) s := by simp [OnlyHostMode]
    have hconditions := conditionHolds_setHostMode m s
    generalize setHostMode m s = v at *
    generalize ht : settle s (answer 6#8 tag _ v) = t at hexec
    obtain ⟨hreply, htable, hheater, hkept, heq⟩ :=
      settled_answer hs hr hpower hlink hconditions hflags ht.symm
    have hreport : heaterReport t = heaterReport v :=
      heaterReport_congr hheater (by rw [heq]; rfl) (by rw [heq]; rfl)
    refine ⟨t, hexec, hreport ▸ hreply, ?_, ?_, ?_, ?_, ?_, ?_, fun ch hch => ?_, hkept,
      eq_of_onlyHostMode hframe hmode heq⟩
    · rw [hheater, hmode]
    · rw [hheater, hceiling]; rfl
    · rw [hheater, heffective]; rfl
    · rw [hheater]; exact hoff
    · rw [hheater]; exact hdemand
    · rw [origins_of_table htable, hheater, hown]
    · rw [origins_of_table htable, horigins ch hch]; rfl
  case unchanged =>
    simp only [exec, execHeatMode]
    refine takeRequest_refused hs hr rfl ?_
    rw [show byteAt [code] 0 = code from rfl, heatOp_unchanged h255]
    rfl
  case range =>
    simp only [exec, execHeatMode]
    refine takeRequest_refused hs hr rfl ?_
    rw [show byteAt [code] 0 = code from rfl, heatOp_range hlo h255]
    rfl

end

/-! ## The cabin conversion (R75, R76) -/

section
variable {s : State} {temp : Int}

/-- What a conversion makes of the sensor, the reading and the next conversion (R75). -/
def convertedHeater (temp : Int) (s : State) : Heater :=
  { s.heater with
    sensor := if railTemperature temp then .absent else .present
    reading := if railTemperature temp then s.heater.reading else some temp
    cabinDue := s.ahead (conversionTicks s) }

/-- A conversion is a change of an input; after UNREAD or ABSENT the thermostat is tested afresh (R76). -/
theorem cabinConvert_eq (temp : Int) (s : State) :
    cabinConvert temp s =
      inputChanged (!railTemperature temp && decide (s.heater.sensor ≠ .present)) s
        (s.setHeater (convertedHeater temp s)) := by
  unfold cabinConvert
  by_cases hrail : railTemperature temp = true
  · simp only [hrail, if_true, convertedHeater, Bool.not_true, Bool.false_and]
    rfl
  · simp only [hrail, Bool.false_eq_true, if_false, convertedHeater, Bool.not_false, Bool.true_and]
    rfl

/-- The heater's input fields after a conversion are those that it has taken. -/
theorem cabinConvert_inputs (temp : Int) (s : State) :
    (cabinConvert temp s).heater.sensor = (convertedHeater temp s).sensor ∧
      (cabinConvert temp s).heater.reading = (convertedHeater temp s).reading ∧
      (cabinConvert temp s).heater.cabinDue = (convertedHeater temp s).cabinDue := by
  rw [cabinConvert_eq, inputChanged]
  simp

theorem railTemperature_iff : railTemperature temp = true ↔ temp = -400 ∨ temp = 850 := by
  simp [railTemperature]

/-- R76: one test of the thermostat against the setpoint, with a reading of a PRESENT sensor. -/
theorem thermostatTest_present {p : Params} {afresh : Bool} {h : Heater} {sp : Int}
    (hsp : setpointOf p h.effective = some sp) (hsensor : h.sensor = .present)
    (hreading : h.reading = some temp) :
    thermostatTest p afresh h =
      if temp ≤ sp - p.thermostatHysteresis then .calling
      else if afresh || decide (sp + p.thermostatHysteresis ≤ temp) then .satisfied
      else h.thermostat := by
  simp only [thermostatTest, hsp, hsensor, hreading]

/-- Only SENSOR_LOST reads the heater, of which it reads the sensor (R202). -/
theorem conditionHolds_setHeater {f : Flag} (hf : f ≠ .sensorLost) (s : State) (x : Heater) :
    conditionHolds (s.setHeater x) f = conditionHolds s f := by
  cases f with
  | sensorLost => exact absurd rfl hf
  | _ => rfl

theorem conditionHolds_cabinConvert {f : Flag} (hf : f ≠ .sensorLost) (temp : Int) (s : State) :
    conditionHolds (cabinConvert temp s) f = conditionHolds s f := by
  rw [← conditionHolds_setHeater hf s (cabinConvert temp s).heater]
  have ha := eventActive_of_pins (s := s.setHeater (cabinConvert temp s).heater)
    (t := cabinConvert temp s) (by simp)
  have hm := eventMapped_of_pins (s := s.setHeater (cabinConvert temp s).heater)
    (t := cabinConvert temp s) (by simp)
  refine conditionHolds_of_units ?_ ha hm ?_ ?_ ?_ ?_ ?_ ?_ ?_ ?_ f <;> simp

/-- The frame of a cabin conversion as one equation. -/
theorem eq_of_onlyCabin {s v t : State} (h : OnlyCabin v s) (ht : t = afterEvent v t) :
    t = { afterWalk (afterEvent s t) t with
      heater :=
        { t.heater with
          hostMode := s.heater.hostMode
          schedMode := s.heater.schedMode
          frostOrigin := s.heater.frostOrigin
          failed := s.heater.failed
          latch := s.heater.latch } } := by
  rw [ht]
  simp only [afterWalk, afterEvent, h]

/-- Settles O33: the conversion as a change of an input, and the test of the thermostat on its reading. -/
theorem cabinConversionDecidesTheThermostat : Obligations.CabinConversionDecidesTheThermostat := by
  intro s temp hok hdue hs
  have hexec : exec (.cabinConversion temp) s = .next (settle s (cabinConvert temp s)) := by
    simp [exec, execCabinConversion, perform_eq, hok, hdue]
  have hframe : OnlyCabin (cabinConvert temp s) s := by simp [OnlyCabin]
  obtain ⟨hsensor, hreading, hcabin⟩ := cabinConvert_inputs temp s
  obtain ⟨-, heffective, hthermostat, hoff, hdemand, hown⟩ := inputChanged_heater
    (!railTemperature temp && decide (s.heater.sensor ≠ .present)) s
    (s.setHeater (convertedHeater temp s))
  have horigins := inputChanged_originsKept
    (!railTemperature temp && decide (s.heater.sensor ≠ .present)) s
    (s.setHeater (convertedHeater temp s))
  have hflags := inputChanged_flags (!railTemperature temp && decide (s.heater.sensor ≠ .present)) s
    (s.setHeater (convertedHeater temp s))
  rw [← cabinConvert_eq] at heffective hthermostat hoff hdemand hown horigins hflags
  refine ⟨_, hexec, ?cabin, fun hrail => ?absent, fun hlo hhi => ?present, ?effective, ?off, ?demand,
    ?own, fun ch hch => ?others, fun f hf => ?flags, eq_of_onlyCabin hframe (settle_eq_afterEvent s _)⟩
  case cabin => rw [settle_heater, hcabin]; rfl
  case absent =>
    have hrail := railTemperature_iff.mpr hrail
    rw [settle_heater, hsensor, hreading]
    simp [convertedHeater, hrail]
  case present =>
    have hrail : railTemperature temp = false := by
      rw [← Bool.not_eq_true, railTemperature_iff]
      exact not_or.mpr ⟨hlo, hhi⟩
    rw [settle_heater, hsensor, hreading]
    refine ⟨by simp [convertedHeater, hrail], by simp [convertedHeater, hrail], fun sp hsp => ?_⟩
    rw [heffective] at hsp
    have htest := thermostatTest_present (p := s.params) (temp := temp)
      (afresh := decide (s.heater.sensor ≠ .present))
      (h := modedHeater (s.setHeater (convertedHeater temp s))) hsp
      (by simp [modedHeater, convertedHeater, hrail]) (by simp [modedHeater, convertedHeater, hrail])
    rw [hrail, Bool.not_false, Bool.true_and] at hthermostat
    rw [show (cabinConvert temp s).heater.thermostat = _ from hthermostat.trans htest]
    refine ⟨fun hcold => if_pos hcold, fun hwarm hdone => ?_, fun hwarm hbelow hkept => ?_⟩
    · rw [if_neg (by omega), if_pos (by simpa [or_comm] using hdone)]
    · rw [if_neg (by omega), if_neg (by simp [hkept]; omega)]
      rfl
  case effective => rw [settle_heater, heffective]; rfl
  case off => rw [settle_heater]; exact hoff
  case demand => rw [settle_heater]; exact hdemand
  case own => rw [settle_origins, settle_heater, hown]
  case others => rw [settle_origins, horigins ch hch]; rfl
  case flags =>
    simp only [List.mem_cons, List.not_mem_nil, or_false, not_or] at hf
    exact flagBits_settle_of_kept hs.1 (conditionHolds_cabinConvert hf.2 temp s)
      (hflags f (by simpa using hf.1))

end

end Sys2Proof.Machine
end

section
/-! PROOFS. FLAG_CLEAR (R84, R99, R203): the flags that its numbers name, what clearing them leaves, and the
end of LOCKOUT with the clear of HEATER_LOCKOUT. -/

namespace Sys2Proof.Machine

/-! ## The flags that the numbers name (R203) -/

theorem ofNumber_eq_some {n : Nat} {f : Flag} : Flag.ofNumber n = some f ↔ n = f.number := by
  have hself : Flag.ofNumber f.number = some f := by cases f <;> rfl
  refine ⟨fun h => ?_, fun h => h ▸ hself⟩
  have hpos : n ≠ 0 := by
    rintro rfl
    cases h
  have hpos' : f.number ≠ 0 := by cases f <;> decide
  rw [Flag.ofNumber, if_neg hpos] at h
  rw [Flag.ofNumber, if_neg hpos'] at hself
  have hlt : n - 1 < allFlags.length := (List.getElem?_eq_some_iff.mp h).1
  have hindex := (List.getElem?_inj hlt (by decide)).mp (h.trans hself.symm)
  omega

theorem ofNumber_isSome {n : Nat} : (Flag.ofNumber n).isSome = true ↔ 1 ≤ n ∧ n ≤ 21 := by
  have hlength : allFlags.length = 21 := rfl
  unfold Flag.ofNumber
  split
  · next h => simp [h]
  · next h =>
    rw [isSome_getElem?, hlength]
    omega

theorem mem_flagsNamed {p : List Byte} {f : Flag} :
    f ∈ flagsNamed p ↔ ∃ b ∈ p, b.toNat = f.number := by
  simp only [flagsNamed, List.mem_eraseDups, List.mem_filterMap, ofNumber_eq_some]

theorem flagClearOp_accepted {p : List Byte} (h : ∀ b ∈ p, 1 ≤ b.toNat ∧ b.toNat ≤ 21) (s : State) :
    flagClearOp p s = (.accepted, (flagsNamed p).foldl clearNamed s) := by
  unfold flagClearOp
  rw [if_pos (List.all_eq_true.mpr fun b hb => ofNumber_isSome.mpr (h b hb))]

theorem flagClearOp_range {p : List Byte} (h : ∃ b ∈ p, b.toNat = 0 ∨ 21 < b.toNat) (s : State) :
    flagClearOp p s = (.range, s) := by
  obtain ⟨b, hb, hout⟩ := h
  unfold flagClearOp
  rw [if_neg fun hall => ?_]
  have hsome := ofNumber_isSome.mp (List.all_eq_true.mp hall b hb)
  omega

/-- The list of set flags reads the flags alone. -/
theorem flagList_congr {s t : State} (h : ∀ f, flagBits t f = flagBits s f) :
    flagList t = flagList s := by
  have hset : setFlags t = setFlags s := by
    unfold setFlags
    exact List.filter_congr fun f _ => by rw [flagSet, flagSet, h]
  simp only [flagList, hset, h]

/-! ## Clearing flags (R99, R203) -/

/-- From `s` to `t` the flags of a list have been cleared, but not those whose condition holds, and with
PUMP_FAULT its latch; nothing else has changed. -/
structure FlagsCleared (fs : List Flag) (s t : State) : Prop where
  frame : t = { s with
    link := { s.link with flags := t.link.flags }
    tanks := { s.tanks with pumpFault := t.tanks.pumpFault } }
  flags : ∀ g, flagBits t g =
    if g ∈ fs ∧ flagSet s g = true ∧ conditionHolds s g = false then ⟨false, false⟩ else flagBits s g
  fault : t.tanks.pumpFault =
    (s.tanks.pumpFault && !(decide (.pumpFault ∈ fs) && flagSet s .pumpFault))

namespace FlagsCleared
variable {fs : List Flag} {f : Flag} {s t u : State}

/-- No condition reads what a clear changes. -/
theorem conditions (h : FlagsCleared fs s t) (g : Flag) : conditionHolds t g = conditionHolds s g := by
  rw [h.frame]
  exact conditionHolds_congr rfl rfl rfl rfl rfl rfl rfl rfl rfl g

theorem nil (s : State) : FlagsCleared [] s s := ⟨rfl, by simp, by simp⟩

theorem cons (h : FlagsCleared [f] s t) (k : FlagsCleared fs t u) : FlagsCleared (f :: fs) s u where
  frame := by
    rw [k.frame, h.frame]
  flags g := by
    rw [k.flags, h.conditions]
    by_cases hnow : g = f ∧ flagSet s g = true ∧ conditionHolds s g = false
    · have hclear : flagBits t g = ⟨false, false⟩ := by rw [h.flags, if_pos (by simpa using hnow)]
      rw [hclear, ite_self, if_pos ⟨by simp [hnow.1], hnow.2⟩]
    · have hkept : flagBits t g = flagBits s g := by rw [h.flags, if_neg (by simpa using hnow)]
      simp only [flagSet, hkept, List.mem_cons, or_and_right] at hnow ⊢
      simp only [hnow, false_or]
  fault := by
    have hset : flagSet t .pumpFault =
        (flagSet s .pumpFault && !decide (Flag.pumpFault = f)) := by
      rw [flagSet, h.flags]
      by_cases hf : Flag.pumpFault = f <;> cases hs : flagSet s .pumpFault <;>
        simp_all [flagSet, conditionHolds]
    have hbool : ∀ p d e x : Bool,
        (p && !(d && x) && !(e && (x && !d))) = (p && !((d || e) && x)) := by decide
    rw [k.fault, h.fault, hset]
    simpa only [List.mem_cons, List.not_mem_nil, or_false, Bool.decide_or] using hbool _ _ _ _

/-- Nothing that stands between commands is lost by a clear (R187, R202). -/
theorem settled (h : FlagsCleared fs s t) (hs : Settled s) : Settled t := by
  obtain ⟨hflags, hidle⟩ := hs
  rw [flagsStand_iff] at hflags
  refine ⟨(flagsStand_iff t).mpr fun g hg => ?_, ?_⟩
  · rw [h.conditions] at hg
    rw [flagSet, h.flags, if_neg (by simp [hg])]
    exact hflags g hg
  · rw [h.frame]
    exact hidle

end FlagsCleared

/-- Of the latch flags FLAG_CLEAR hands HEATER_LOCKOUT and PUMP_FAULT to their owners (R203). -/
theorem kind_latch {f : Flag} : f.kind = .latch ↔ f = .pumpFault ∨ f = .heaterLockout := by
  cases f <;> decide

theorem clearFlag_cleared {f : Flag} (hf : f ≠ .pumpFault) {s : State} (hset : flagSet s f = true)
    (hc : conditionHolds s f = false) : FlagsCleared [f] s (clearFlag s f) where
  frame := rfl
  flags g := by
    rw [flagBits_clearFlag]
    by_cases hg : f = g
    · subst hg; simp [hset, hc]
    · simp [hg, Ne.symm hg]
  fault := by simp [Ne.symm hf]

/-- A flag whose condition holds, or that is clear, is left as it is (R203). -/
theorem self_cleared {f : Flag} {s : State} (h : flagSet s f = false ∨ conditionHolds s f = true) :
    FlagsCleared [f] s s where
  frame := rfl
  flags g := by
    rw [if_neg]
    rintro ⟨hg, hset, hc⟩
    rw [List.mem_singleton.mp hg] at hset hc
    simp [hset, hc] at h
  fault := by
    by_cases hf : Flag.pumpFault = f
    · subst hf
      have hset : flagSet s .pumpFault = false := h.resolve_right (by simp [conditionHolds])
      simp [hset]
    · simp [hf]

/-- R99: the clear of PUMP_FAULT takes its latch with it. -/
theorem pumpFault_cleared {s : State} (hset : flagSet s .pumpFault = true) :
    FlagsCleared [.pumpFault] s (pumpFaultClear (clearFlag s .pumpFault)) where
  frame := rfl
  flags g := by
    have hbits : flagBits (pumpFaultClear (clearFlag s .pumpFault)) g =
        flagBits (clearFlag s .pumpFault) g := rfl
    have hc : conditionHolds s .pumpFault = false := rfl
    rw [hbits, flagBits_clearFlag]
    by_cases hg : Flag.pumpFault = g
    · subst hg; simp [hset, hc]
    · simp [hg, Ne.symm hg]
  fault := by simp [hset, pumpFaultClear]

/-- One flag named, by its kind (R203). -/
theorem clearNamed_cleared {f : Flag} (hf : f ≠ .heaterLockout) (s : State) :
    FlagsCleared [f] s (clearNamed s f) := by
  unfold clearNamed
  split
  · next hset =>
    have hpump : f.kind ≠ .latch → f ≠ .pumpFault := fun hkind heq => hkind (heq ▸ rfl)
    split
    · next hkind =>
      refine clearFlag_cleared (hpump (by simp [hkind])) hset ?_
      rw [← Bool.not_eq_true]
      intro hc
      simp [conditionHolds_kind hc] at hkind
    · next hkind =>
      split
      · next hc => exact self_cleared (.inr hc)
      · next hc => exact clearFlag_cleared (hpump (by simp [hkind])) hset (by simpa using hc)
    · next hkind =>
      obtain rfl : f = .pumpFault := (kind_latch.mp hkind).resolve_right hf
      exact pumpFault_cleared hset
  · next hset => exact self_cleared (.inl (by simpa using hset))

theorem foldClearNamed_cleared {fs : List Flag} (hfs : Flag.heaterLockout ∉ fs) (s : State) :
    FlagsCleared fs s (fs.foldl clearNamed s) := by
  induction fs generalizing s with
  | nil => exact .nil s
  | cons f fs ih =>
    obtain ⟨hf, hrest⟩ := List.ne_and_not_mem_of_not_mem_cons hfs
    exact .cons (clearNamed_cleared (Ne.symm hf) s) (ih hrest _)

section
variable {s : State} {tag : Byte} {p : List Byte}

theorem flagClear_length (hlo : 1 ≤ p.length) (hhi : p.length ≤ 21) :
    lengthAllowed 17 p.length = true := by
  simp [lengthAllowed, hlo, hhi]

/-- FLAG_CLEAR without HEATER_LOCKOUT leaves the cleared state with its answer. -/
theorem exec_flagClear {u : State} (hr : RequestAt 17 tag p s)
    (hlength : lengthAllowed 17 p.length = true) (hs : Settled s)
    (hop : flagClearOp p s = (.accepted, u)) (hu : FlagsCleared (flagsNamed p) s u) :
    exec (.flagClear tag p) s = .next (answered 17 tag (0#8 :: flagList u) u) := by
  simp only [exec, execFlagClear]
  refine takeRequest_settled hr hlength ?_ (hu.settled hs) hu.conditions (by rw [hu.frame])
  rw [hop]
  rfl

/-- The first clause of R203: flags named, with HEATER_LOCKOUT not among them. -/
theorem flagClear_named (hr : RequestAt 17 tag p s) (hlength : lengthAllowed 17 p.length = true)
    (hs : Settled s) (hp : ∀ b ∈ p, 1 ≤ b.toNat ∧ b.toNat ≤ 21 ∧ b.toNat ≠ 9) :
    ∃ t, exec (.flagClear tag p) s = .next t ∧ Replied 17 tag (0#8 :: flagList t) s t ∧
      (∀ f, flagBits t f =
        if (∃ b ∈ p, b.toNat = f.number) ∧ flagSet s f = true ∧ conditionHolds s f = false then
          ⟨false, false⟩
        else flagBits s f) ∧
      t.tanks.pumpFault =
        (s.tanks.pumpFault && !(p.any (fun b => decide (b.toNat = 8)) && flagSet s .pumpFault)) ∧
      t = { afterRequest s t with tanks := { s.tanks with pumpFault := t.tanks.pumpFault } } := by
  have hnames : ∀ b ∈ p, 1 ≤ b.toNat ∧ b.toNat ≤ 21 := fun b hb => by
    obtain ⟨hpos, hle, -⟩ := hp b hb
    exact ⟨hpos, hle⟩
  have hop := flagClearOp_accepted hnames s
  have hlockout : Flag.heaterLockout ∉ flagsNamed p := fun hmem => by
    obtain ⟨b, hb, hnine⟩ := mem_flagsNamed.mp hmem
    obtain ⟨-, -, hne⟩ := hp b hb
    exact hne hnine
  have hcleared := foldClearNamed_cleared hlockout s
  generalize (flagsNamed p).foldl clearNamed s = u at hop hcleared
  have hpump : decide (Flag.pumpFault ∈ flagsNamed p) = p.any (fun b => decide (b.toNat = 8)) := by
    rw [Bool.eq_iff_iff]
    simp [mem_flagsNamed, Flag.number]
  have hlist : flagList (answered 17 tag (0#8 :: flagList u) u) = flagList u := flagList_congr fun _ => rfl
  refine ⟨_, exec_flagClear hr hlength hs hop hcleared, ?reply, fun f => ?flags, ?fault, ?frame⟩
  case reply =>
    rw [hlist, hcleared.frame]
    exact ⟨rfl, rfl, rfl⟩
  case flags =>
    simp only [← mem_flagsNamed]
    exact hcleared.flags f
  case fault => rw [← hpump]; exact hcleared.fault
  case frame =>
    rw [hcleared.frame]
    rfl

end

/-! ## The clear of HEATER_LOCKOUT (R84) -/

section
variable {s : State}

/-- The state in which the latch and the failed-start count are cleared, and the flag with them. -/
def unlatched (s : State) : State :=
  (clearFlag s .heaterLockout).setHeater { s.heater with latch := false, failed := 0 }

/-- The effect of the clear: LOCKOUT ends, and the demand may raise the heater anew (R77, R84). -/
def lockoutCleared (s : State) : State :=
  if s.heater.state = .lockout then
    heaterSettle (clearFlag s .heaterLockout)
      (heaterAct ((unlatched s).setHeater { (unlatched s).heater with state := .off }))
  else unlatched s

theorem flagClearOp_lockout (hset : flagSet s .heaterLockout = true) (hlatch : s.heater.latch = true) :
    flagClearOp [9#8] s = (.accepted, lockoutCleared s) := by
  have hnamed : flagsNamed [9#8] = [.heaterLockout] := by decide
  have hclear : clearNamed s .heaterLockout = lockoutClear (clearFlag s .heaterLockout) := by
    unfold clearNamed
    rw [if_pos hset]
    rfl
  have hcleared : lockoutClear (clearFlag s .heaterLockout) = lockoutCleared s := by
    unfold lockoutClear
    rw [if_pos (by simpa using hlatch)]
    rfl
  rw [flagClearOp_accepted (by simp), hnamed, List.foldl_cons, List.foldl_nil, hclear, hcleared]

/-- Of OFF the demand makes WAIT_GRANT or leaves it (R77). -/
theorem heaterAct_of_off {u : State} (h : u.heater.state = .off) :
    (heaterAct u).heater.state = .off ∨ (heaterAct u).heater.state = .waitGrant := by
  cases hdemand : u.heater.demand
  · exact .inl (by simp [heaterAct, h, hdemand])
  · exact .inr (by simp [heaterAct, h, hdemand])

/-- A walk does not lead to LOCKOUT (R82). -/
theorem HeaterMoves.not_lockout {u v : State} (h : HeaterMoves u v) (hu : u.heater.state ≠ .lockout) :
    v.heater.state ≠ .lockout := by
  rcases h.heater with hh | ⟨-, hh⟩ | ⟨-, hh⟩
  · rwa [hh]
  · simp [hh, litHeater]
  · simp [hh, purgingHeater]

theorem lockoutCleared_frame (s : State) : OnlyFlame s (lockoutCleared s) := by
  unfold lockoutCleared
  split <;> simp [OnlyFlame, unlatched]

theorem lockoutCleared_heater (s : State) :
    (lockoutCleared s).heater.latch = false ∧ (lockoutCleared s).heater.failed = 0 ∧
      (s.heater.state ≠ .lockout → (lockoutCleared s).heater.state = s.heater.state) ∧
      (lockoutCleared s).heater.state ≠ .lockout := by
  by_cases hlocked : s.heater.state = .lockout
  · rw [lockoutCleared, if_pos hlocked]
    refine ⟨by simp [unlatched], by simp [unlatched], fun hne => absurd hlocked hne, ?_⟩
    refine (heaterSettle_moves _ _).not_lockout ?_
    rcases heaterAct_of_off (u := (unlatched s).setHeater { (unlatched s).heater with state := .off }) rfl
      with h | h <;> simp [h]
  · rw [lockoutCleared, if_neg hlocked]
    exact ⟨rfl, rfl, fun _ => rfl, hlocked⟩

theorem lockoutCleared_flags (s : State) :
    flagBits (lockoutCleared s) .heaterLockout = ⟨false, false⟩ ∧
      FlagsKeptBut [.heaterLockout, .loadShed] s (lockoutCleared s) := by
  have hunlatched : ∀ f, flagBits (unlatched s) f =
      if Flag.heaterLockout = f then ⟨false, false⟩ else flagBits s f :=
    fun f => flagBits_clearFlag s .heaterLockout f
  have hkept : FlagsKeptBut [.loadShed] (unlatched s) (lockoutCleared s) := by
    intro f hf
    unfold lockoutCleared
    refine ite_keeps (fun t : State => flagBits t f = flagBits (unlatched s) f) _ _ _ ?_ rfl
    rw [heaterSettle_flags _ _ f hf]
    exact flagBits_of_flags (by simp) f
  refine ⟨by rw [hkept _ (by decide), hunlatched, if_pos rfl], fun f hf => ?_⟩
  simp only [List.mem_cons, List.not_mem_nil, or_false, not_or] at hf
  rw [hkept f (by simpa using hf.2), hunlatched, if_neg (Ne.symm hf.1)]

theorem lockoutCleared_originsKept (s : State) : OriginsKeptBut [chHeater] s (lockoutCleared s) := by
  intro ch hch
  unfold lockoutCleared
  refine ite_keeps (fun t : State => origins t ch = origins s ch) _ _ _ ?_ rfl
  rw [heaterSettle_originsKept _ _ ch hch]
  simp [origins, unlatched]

/-- The end of a command that clears no flag whose condition holds adds no flag. -/
theorem flagBits_settle_of_stands {before u : State}
    (h : ∀ f, conditionHolds u f = true → conditionHolds before f = true ∧ flagSet u f = true)
    (f : Flag) : flagBits (settle before u) f = flagBits u f := by
  rw [flagBits_settle, if_neg]
  rintro ⟨hc, hlost⟩
  obtain ⟨hbefore, hset⟩ := h f hc
  simp [hbefore, hset] at hlost

/-- The frame of a request within the heater's sequence as one equation. -/
theorem eq_of_onlyFlame_answered {kind : Nat} {tag : Byte} {reply : List Byte} {v t : State}
    (h : OnlyFlame v s) (ht : t = afterEvent (answered kind tag reply v) t) :
    t = { afterWalk (afterRequest s t) t with
      heater :=
        { (afterWalk (afterRequest s t) t).heater with
          latch := t.heater.latch
          failed := t.heater.failed } } := by
  rw [ht]
  simp only [afterWalk, afterRequest, afterEvent, answered, State.setLink, h]

/-- The second clause: HEATER_LOCKOUT named while its latch is set (R84). -/
theorem flagClear_lockout {tag : Byte} (hr : RequestAt 17 tag [9#8] s) (hs : Settled s)
    (hset : flagSet s .heaterLockout = true) (hlatch : s.heater.latch = true) :
    ∃ t, exec (.flagClear tag [9#8]) s = .next t ∧ Replied 17 tag (0#8 :: flagList t) s t ∧
      flagBits t .heaterLockout = ⟨false, false⟩ ∧ t.heater.latch = false ∧
      t.heater.failed = 0 ∧ (s.heater.state ≠ .lockout → t.heater.state = s.heater.state) ∧
      t.heater.state ≠ .lockout ∧ FlagsKeptBut [.heaterLockout, .loadShed] s t ∧
      OriginsKeptBut [chHeater] s t ∧
      t = { afterWalk (afterRequest s t) t with
        heater := { (afterWalk (afterRequest s t) t).heater with latch := false, failed := 0 } } := by
  have hop := flagClearOp_lockout hset hlatch
  obtain ⟨hlatched, hfailed, hstate, hopen⟩ := lockoutCleared_heater s
  obtain ⟨hclear, hflags⟩ := lockoutCleared_flags s
  have horigins := lockoutCleared_originsKept s
  have hconditions := conditionHolds_of_flame (lockoutCleared_frame s)
  have hframe : OnlyFlame (lockoutCleared s) s := by
    simp only [OnlyFlame, lockoutCleared_frame s, and_self]
  generalize lockoutCleared s = v at *
  have hexec : exec (.flagClear tag [9#8]) s =
      .next (settle s (answer 17#8 tag (0#8 :: flagList v) v)) := by
    simp only [exec, execFlagClear]
    refine takeRequest_eq hr rfl ?_
    rw [hop]
    rfl
  have hstands : ∀ f, conditionHolds v f = true → conditionHolds s f = true ∧ flagSet v f = true := by
    intro f hf
    have hheld := hconditions f ▸ hf
    have hkind := conditionHolds_kind hf
    refine ⟨hheld, ?_⟩
    rw [flagSet, hflags f (by rintro hmem; fin_cases hmem <;> cases hkind)]
    exact (flagsStand_iff s).mp hs.1 f hheld
  have hawake : v.time.power ≠ .dormant := by
    simpa only [hframe] using not_dormant_of_requestAt hr
  have hbits : ∀ f, flagBits (settle s (answer 17#8 tag (0#8 :: flagList v) v)) f = flagBits v f := by
    intro f
    rw [show answer 17#8 tag (0#8 :: flagList v) v = answered 17 tag (0#8 :: flagList v) v from
      answer_eq_answered 17 tag _ v hawake]
    refine flagBits_settle_of_stands (fun g hg => ?_) f
    exact hstands g (by rwa [conditionHolds_answered] at hg)
  generalize ht : settle s (answer 17#8 tag (0#8 :: flagList v) v) = t at hexec hbits
  obtain ⟨hreply, htable, hheater, hkept, heq⟩ := settled_answer hs hr (by simp only [hframe])
    (by simp only [hframe, and_self]) hconditions hflags ht.symm
  refine ⟨t, hexec, (flagList_congr hbits).symm ▸ hreply, (hbits _).trans hclear, ?_, ?_, ?_, ?_, hkept,
    fun ch hch => ?_, ?_⟩
  · rw [hheater, hlatched]
  · rw [hheater, hfailed]
  · rw [hheater]; exact hstate
  · rw [hheater]; exact hopen
  · rw [origins_of_table htable, horigins ch hch]
  · have hequation := eq_of_onlyFlame_answered hframe heq
    rwa [hheater, hlatched, hfailed] at hequation

/-- Settles O21: the flags that the numbers name, HEATER_LOCKOUT by itself, and a number that names none. -/
theorem flagClearByKind : Obligations.FlagClearByKind := by
  intro s tag p hr hlo hhi hs
  have hlength := flagClear_length hlo hhi
  refine ⟨flagClear_named hr hlength hs, fun hp hset hlatch => ?lockout, fun hout => ?range⟩
  case lockout =>
    subst hp
    exact flagClear_lockout hr hs hset hlatch
  case range =>
    simp only [exec, execFlagClear]
    refine takeRequest_refused hs hr hlength ?_
    rw [flagClearOp_range hout]
    rfl

end

end Sys2Proof.Machine
end

section
/-! PROOFS. A heater that starts, runs or purges goes on doing one of the three through every operation but
the end of its purge and the power-on reset (R78 to R82). One lemma for each operation that can change its
state. -/

namespace Sys2Proof.Machine

/-- STARTING, RUNNING or PURGING: the heater has been lit, and its purge is not over. -/
def HeaterState.Lit (x : HeaterState) : Prop := x = .starting ∨ x = .running ∨ x = .purging

theorem HeaterMoves.lit {s t : State} (k : HeaterMoves s t) (h : s.heater.state.Lit) :
    t.heater.state.Lit := by
  rcases k.heater with hh | ⟨-, hh⟩ | ⟨-, hh⟩
  · rwa [hh]
  · exact hh ▸ .inl rfl
  · exact hh ▸ .inr (.inr rfl)

section
variable {s : State} (h : s.heater.state.Lit)

/-! ## The sequence and the table (R72, R77 to R84) -/

@[simp] theorem enterPurging_lit (s : State) : (enterPurging s).heater.state.Lit := .inr (.inr rfl)

include h

@[simp] theorem shedRecord_lit (ch : Channel) : (shedRecord s ch).heater.state.Lit :=
  (shedRecord_moves s ch).lit h

@[simp] theorem reevaluate_lit (before : State) : (reevaluate before s).heater.state.Lit :=
  (reevaluate_moves before s).lit h

@[simp] theorem reevaluateAlways_lit (before : State) :
    (reevaluateAlways before s).heater.state.Lit := (reevaluateAlways_moves before s).lit h

@[simp] theorem originEvent_lit (before : State) : (originEvent before s).heater.state.Lit :=
  (originEvent_moves before s).lit h

@[simp] theorem heaterSettle_lit (before : State) : (heaterSettle before s).heater.state.Lit :=
  (heaterSettle_moves before s).lit h

/-- A demand that ends makes a lit heater purge (R81). -/
@[simp] theorem heaterAct_lit : (heaterAct s).heater.state.Lit := by
  rcases h with hs | hs | hs <;> cases hd : s.heater.demand <;>
    simp [heaterAct, hs, hd, HeaterState.Lit, enterPurging]

@[simp] theorem heaterFollow_lit (before : State) : (heaterFollow before s).heater.state.Lit := by
  simp [heaterFollow, h]

@[simp] theorem setSchedMode_lit (m : HeatMode) : (setSchedMode m s).heater.state.Lit :=
  heaterFollow_lit (by exact h) s

@[simp] theorem setHostMode_lit (m : HeatMode) : (setHostMode m s).heater.state.Lit :=
  heaterFollow_lit (by exact h) s

@[simp] theorem setFrostOrigin_lit (b : Bool) : (setFrostOrigin b s).heater.state.Lit := by
  unfold setFrostOrigin
  split
  · exact h
  · exact heaterFollow_lit (by exact h) s

@[simp] theorem bandToHeater_lit : (bandToHeater s).heater.state.Lit := heaterFollow_lit h s

@[simp] theorem heatOp_lit {set : HeatMode → State → State}
    (hset : ∀ m, (set m s).heater.state.Lit) (code : Byte) :
    (heatOp set code s).2.heater.state.Lit := by
  unfold heatOp
  repeat' split
  all_goals simp [h, hset]

@[simp] theorem cabinConvert_lit (t : Int) : (cabinConvert t s).heater.state.Lit := by
  rw [cabinConvert_eq]
  simp [inputChanged, h, convertedHeater]

omit h in
/-- The test at the end of the glow leads to RUNNING or to the purge (R79). -/
@[simp] theorem glowEndOp_lit (s : State) : (glowEndOp s).heater.state.Lit := by
  unfold glowEndOp
  split
  · simp
  · exact heaterSettle_lit (.inr (.inl rfl)) s

@[simp] theorem flameLoss_lit : (flameLoss s).heater.state.Lit := by
  unfold flameLoss
  split <;> simp [h]

/-- A lit heater is not in LOCKOUT, so that the clear of the latch leaves its state (R84). -/
@[simp] theorem lockoutClear_lit : (lockoutClear s).heater.state.Lit := by
  have hopen : s.heater.state ≠ .lockout := by
    rcases h with hs | hs | hs <;> simp [hs]
  unfold lockoutClear
  simp only [hopen, if_false]
  split <;> simp [h]

/-- A restart makes a lit heater purge, or leaves its purge (R89). -/
@[simp] theorem heaterRestart_lit : (heaterRestart s).heater.state.Lit := by
  simp only [heaterRestart]
  split <;> simp [h]

/-! ## Loads and lamps -/

@[simp] theorem recomputeBudget_lit : (recomputeBudget s).heater.state.Lit :=
  reevaluate_lit (by exact h) s

@[simp] theorem bandToTable_lit : (bandToTable s).heater.state.Lit :=
  reevaluate_lit (by exact h) s

@[simp] theorem overdrawCheck_lit (current : Int) : (overdrawCheck current s).heater.state.Lit := by
  have hshed : ∀ t : State, t.heater.state.Lit → (overdrawShed t).heater.state.Lit := fun t ht => by
    unfold overdrawShed
    split <;> simp [ht]
  have hrelease : ∀ t : State, t.heater.state.Lit → (releaseHolds t).heater.state.Lit := fun t ht => by
    unfold releaseHolds
    split
    · exact reevaluateAlways_lit (by exact ht) t
    · exact ht
  unfold overdrawCheck
  repeat' split
  · exact hshed _ h
  · exact h
  · exact hrelease _ h
  · exact h

@[simp] theorem enforcePumpGuard_lit : (enforcePumpGuard s).heater.state.Lit := by
  unfold enforcePumpGuard
  split <;> simp [h]

@[simp] theorem loadDemandOp_lit (k : Origin) (channel level : Byte) :
    (loadDemandOp k channel level s).2.heater.state.Lit := by
  simp only [loadDemandOp]
  repeat' split
  all_goals simp [h]

@[simp] theorem withdrawSilentHost_lit : (withdrawSilentHost s).heater.state.Lit := by
  simp [withdrawSilentHost, h]

@[simp] theorem lampsFollowCap_lit : (lampsFollowCap s).heater.state.Lit := by
  simp [lampsFollowCap, h]

@[simp] theorem lampsFollowDraw_lit : (lampsFollowDraw s).heater.state.Lit :=
  reevaluate_lit (by exact h) s

@[simp] theorem lampsRetarget_lit : (lampsRetarget s).heater.state.Lit := by
  simp [lampsRetarget, h]

@[simp] theorem lampsDark_lit : (lampsDark s).heater.state.Lit := by
  simp [lampsDark, h]

@[simp] theorem fadeEndOp_lit (i : Fin 6) : (fadeEndOp i s).heater.state.Lit := by
  simp [fadeEndOp, h]

@[simp] theorem wallPress_lit (i : Fin 6) : (wallPress i s).heater.state.Lit := by
  simp only [wallPress]
  split <;> simp [h]

@[simp] theorem entryDoor_lit (rising : Bool) : (entryDoor rising s).heater.state.Lit := by
  unfold entryDoor
  repeat' split
  all_goals simp [h]

@[simp] theorem entryWithdraw_lit : (entryWithdraw s).heater.state.Lit := by
  unfold entryWithdraw
  split <;> simp [h]

@[simp] theorem sceneRecallOp_lit (number : Byte) : (sceneRecallOp number s).2.heater.state.Lit := by
  unfold sceneRecallOp
  split <;> simp [h]

@[simp] theorem sceneSelectEdge_lit (rising : Bool) :
    (sceneSelectEdge rising s).heater.state.Lit := by
  simp only [sceneSelectEdge]
  repeat' split
  all_goals simp [h]

/-! ## Motions -/

@[simp] theorem releaseStage_lit : (releaseStage s).heater.state.Lit := by
  simp [releaseStage, h]

@[simp] theorem endMotion_lit : (endMotion s).heater.state.Lit := by
  unfold endMotion
  repeat' split
  all_goals simp [h]

@[simp] theorem completeOwner_lit (r : MotionResult) : (completeOwner r s).heater.state.Lit := by
  unfold completeOwner
  repeat' split
  all_goals simp [h]

@[simp] theorem claim_lit (o : Owner) (k : Origin) : (claim o k s).heater.state.Lit := by
  simp [claim, h]

@[simp] theorem takeSlot_lit (a : Actuator) (i : Fin 16) : (takeSlot a i s).heater.state.Lit := by
  simp only [takeSlot]
  split <;> simp [h]

@[simp] theorem takeOverride_lit (a : Actuator) : (takeOverride a s).heater.state.Lit := by
  unfold takeOverride
  split <;> simp [h]

@[simp] theorem takeClaimant_lit (o : Owner) : (takeClaimant o s).heater.state.Lit := by
  unfold takeClaimant
  repeat' split
  all_goals simp [h]

@[simp] theorem arbitrateN_lit (n : Nat) : (arbitrateN n s).heater.state.Lit := by
  induction n generalizing s with
  | zero => exact h
  | succ n ih =>
    unfold arbitrateN
    repeat' split
    · exact h
    · exact ih (takeClaimant_lit h _)
    · exact h

@[simp] theorem arbitrate_lit : (arbitrate s).heater.state.Lit := arbitrateN_lit h _

@[simp] theorem postMotion_lit (a : Actuator) (act : MoveAction) (target : Nat) (notify : Bool)
    (origin : MoveOrigin) : (postMotion a act target notify origin s).2.2.heater.state.Lit := by
  simp only [postMotion]
  repeat' split
  all_goals simp [h]

@[simp] theorem postCodes_lit (ring action : Byte) (target : Nat) (notify : Option Bool)
    (origin : MoveOrigin) : (postCodes ring action target notify origin s).2.2.heater.state.Lit := by
  unfold postCodes
  split <;> simp [h]

@[simp] theorem switchPost_lit (a : Actuator) (act : MoveAction) :
    (switchPost a act s).heater.state.Lit := by
  simp [switchPost, h]

@[simp] theorem cancelSlot_lit (i : Fin 16) : (cancelSlot i s).heater.state.Lit := by
  unfold cancelSlot
  split <;> simp [h]

@[simp] theorem cancelOne_lit (i : Fin 16) : (cancelOne i s).2.heater.state.Lit := by
  unfold cancelOne
  split <;> simp [h]

@[simp] theorem cancelAll_lit (a : Actuator) : (cancelAll a s).heater.state.Lit :=
  arbitrate_lit (foldl_keeps (fun t : State => t.heater.state.Lit) _ _ _ h fun _ i ht => cancelSlot_lit ht i)

@[simp] theorem raiseOverride_lit (a : Actuator) (c : OverrideCause) :
    (raiseOverride a c s).heater.state.Lit := by
  simp only [raiseOverride]
  repeat' split
  all_goals simp [h]

@[simp] theorem raiseIfOut_lit (a : Actuator) : (raiseIfOut s a).heater.state.Lit := by
  unfold raiseIfOut
  split <;> simp [h]

@[simp] theorem raiseAllOut_lit : (raiseAllOut s).heater.state.Lit := by
  simp [raiseAllOut, h]

@[simp] theorem raiseIfLeft_lit (before : State) (a : Actuator) :
    (raiseIfLeft before s a).heater.state.Lit := by
  unfold raiseIfLeft
  split <;> simp [h]

@[simp] theorem stowWatch_lit (before : State) : (stowWatch before s).heater.state.Lit := by
  simp [stowWatch, h]

@[simp] theorem testDestination_lit : (testDestination s).heater.state.Lit := by
  unfold testDestination
  repeat' split
  all_goals simp [h]

@[simp] theorem positionFollow_lit (before : State) : (positionFollow before s).heater.state.Lit :=
  arbitrate_lit (stowWatch_lit (testDestination_lit h) before)

@[simp] theorem awningEdgeFollow_lit (rising : Bool) (before : State) :
    (awningEdgeFollow rising before s).heater.state.Lit := by
  unfold awningEdgeFollow
  split <;> simp [h]

@[simp] theorem brakeEndOp_lit : (brakeEndOp s).heater.state.Lit := by
  unfold brakeEndOp
  split
  · simp [h]
  · exact arbitrate_lit (releaseStage_lit h)

@[simp] theorem gapEndOp_lit : (gapEndOp s).heater.state.Lit := by
  simp only [gapEndOp]
  split
  · exact arbitrate_lit h
  · exact h

@[simp] theorem driveMs_lit (x : MotorSample) : (driveMs x s).heater.state.Lit := by
  simp [driveMs, h]

@[simp] theorem stallOp_lit : (stallOp s).heater.state.Lit := by
  unfold stallOp
  repeat' split
  all_goals simp [h]

@[simp] theorem emergencyStop_lit : (emergencyStop s).heater.state.Lit := by
  simp [emergencyStop, h]

@[simp] theorem ignitionAbort_lit : (ignitionAbort s).heater.state.Lit := by
  unfold ignitionAbort
  repeat' split
  all_goals simp [h]

@[simp] theorem stepPress_lit : (stepPress s).heater.state.Lit := by
  unfold stepPress
  split <;> simp [h]

@[simp] theorem doorStep_lit (rising : Bool) : (doorStep rising s).heater.state.Lit := by
  unfold doorStep
  split <;> simp [h]

@[simp] theorem windJudge_lit (speed : Nat) : (windJudge speed s).heater.state.Lit := by
  simp only [windJudge]
  repeat' split
  · exact raiseOverride_lit (by exact h) _ _
  all_goals exact h

@[simp] theorem windowEndOp_lit : (windowEndOp s).heater.state.Lit := by
  unfold windowEndOp
  split <;> simp [h]

@[simp] theorem presentBraking_lit : (presentBraking s).heater.state.Lit := by
  unfold presentBraking
  split <;> simp [h]

/-! ## Tanks -/

@[simp] theorem senderConvert_lit (raw : Fin 3 → Nat) : (senderConvert raw s).heater.state.Lit := by
  simp [senderConvert, h]

@[simp] theorem tankParamsFollow_lit : (tankParamsFollow s).heater.state.Lit := by
  simp [tankParamsFollow, h]

@[simp] theorem pumpEdge_lit (rising : Bool) : (pumpEdge rising s).heater.state.Lit := by
  unfold pumpEdge
  repeat' split
  all_goals simp [h]

@[simp] theorem pumpExpire_lit : (pumpExpire s).heater.state.Lit := by
  simp [pumpExpire, h]

@[simp] theorem syncPad_lit (k : FrostTank) : (syncPad k s).heater.state.Lit := by
  simp [syncPad, h]

@[simp] theorem syncHeaterFrost_lit : (syncHeaterFrost s).heater.state.Lit := by
  simp [syncHeaterFrost, h]

@[simp] theorem frostDemands_lit (order : List HandOff) : (frostDemands order s).heater.state.Lit := by
  unfold frostDemands
  refine inOrder_keeps (fun t => t.heater.state.Lit) _ _ _ h fun a ha t ht => ?_
  simp only [List.mem_cons, List.not_mem_nil, or_false] at ha
  rcases ha with rfl | rfl | rfl <;> simp [ht]

@[simp] theorem frostFollow_lit (before : State) (order : List HandOff) :
    (frostFollow before order s).heater.state.Lit := by
  simp only [frostFollow]
  split <;> simp [h]

@[simp] theorem temperatureConvert_lit (fresh grey : Int) (order : List HandOff) :
    (temperatureConvert fresh grey order s).heater.state.Lit := by
  unfold temperatureConvert
  exact frostFollow_lit (by exact h) s order

@[simp] theorem drainOpenOp_lit (order : List HandOff) : (drainOpenOp order s).heater.state.Lit := by
  unfold drainOpenOp
  split <;> simp [h]

@[simp] theorem drainCloseOp_lit (order : List HandOff) : (drainCloseOp order s).heater.state.Lit := by
  unfold drainCloseOp
  split
  · exact frostFollow_lit (by exact h) s order
  · exact h

@[simp] theorem dangerOp_lit (k : FrostTank) (order : List HandOff) :
    (dangerOp k order s).heater.state.Lit := by
  unfold dangerOp
  split <;> simp [h]

@[simp] theorem autoDrainFollow_lit (order : List HandOff) :
    (autoDrainFollow order s).heater.state.Lit := by
  unfold autoDrainFollow
  split <;> simp [h]

/-! ## Meter and power states -/

@[simp] theorem meterHandOffs_lit (c : Closed) (changed : Bool) (order : List HandOff) :
    (meterHandOffs c changed order s).heater.state.Lit := by
  rw [meterHandOffs_eq]
  refine inOrder_keeps (fun t => t.heater.state.Lit) order _ s h ?_
  exact mem_meterActs (P := fun f => ∀ t, t.heater.state.Lit → (f t).heater.state.Lit)
    (fun t ht => overdrawCheck_lit ht _) fun _ => ⟨fun t ht => bandToTable_lit ht,
      fun t ht => lampsFollowCap_lit ht, fun t ht => bandToHeater_lit ht, fun t ht => by simp [ht]⟩

@[simp] theorem closeInterval_lit (t : Int) (order : List HandOff) (start : Tick) :
    (closeInterval t order start s).heater.state.Lit := by
  simp only [closeInterval]
  split <;> simp [h]

@[simp] theorem becomeDormant_lit (input : MeterInput) : (becomeDormant input s).heater.state.Lit := by
  simp only [becomeDormant]
  exact closeInterval_lit (by simp [h]) _ _ _

@[simp] theorem becomeActive_lit (input : MeterInput) : (becomeActive input s).heater.state.Lit := by
  unfold becomeActive
  refine inOrder_keeps (fun t => t.heater.state.Lit) _ _ _ h fun a ha t ht => ?_
  simp only [List.mem_cons, List.not_mem_nil, or_false] at ha
  rcases ha with rfl | rfl | rfl <;> simp [ht]

@[simp] theorem enterEntering_lit : (enterEntering s).heater.state.Lit :=
  lampsDark_lit h

@[simp] theorem slowStep_lit (fastTime : Nat) (input : MeterInput) :
    (slowStep fastTime input s).heater.state.Lit := by
  unfold slowStep
  repeat' split
  all_goals simp [h]

/-- The instants of the heater move, its state stays (R85). -/


@[simp] theorem setTimeOp_lit (new : Tick) (input : MeterInput) :
    (setTimeOp new input s).heater.state.Lit := by
  simp [setTimeOp, h]

/-! ## Schedule -/

@[simp] theorem runAction_lit (a : SchedAction) : (runAction a s).2.heater.state.Lit := by
  cases a with
  | load | scene | move | note => simp [runAction, h]
  | heat mode => exact heatOp_lit h (setSchedMode_lit h) mode

@[simp] theorem fireEntry_lit (i : Fin 16) : (fireEntry i s).heater.state.Lit := by
  simp only [fireEntry]
  repeat' split
  all_goals simp [h]

@[simp] theorem fireAll_lit : (fireAll s).heater.state.Lit :=
  foldl_keeps (fun t => t.heater.state.Lit) fireIfReached _ _ h fun t i ht => by
    unfold fireIfReached
    split <;> simp [ht]

@[simp] theorem timeSetOp_lit (new : Tick) (input : MeterInput) :
    (timeSetOp new input s).heater.state.Lit := by
  simp [timeSetOp, h]

@[simp] theorem schedWriteOp_lit (i : Fin 16) (due : Tick) (period : Nat) (a : SchedAction)
    (notify : Bool) : (schedWriteOp i due period a notify s).heater.state.Lit := by
  simp only [schedWriteOp]
  split <;> simp [h]

/-! ## Pins -/

@[simp] theorem ignitionEdge_lit (rising : Bool) (order : List HandOff) :
    (ignitionEdge rising order s).heater.state.Lit := by
  unfold ignitionEdge
  split
  · refine arbitrate_lit (inOrder_keeps (fun t => t.heater.state.Lit) _ _ _ h fun a ha t ht => ?_)
    simp only [List.mem_cons, List.not_mem_nil, or_false] at ha
    rcases ha with rfl | rfl | rfl <;> simp [ht]
  · simp [h]

@[simp] theorem doorEdge_lit (rising : Bool) (order : List HandOff) :
    (doorEdge rising order s).heater.state.Lit := by
  unfold doorEdge
  refine inOrder_keeps (fun t => t.heater.state.Lit) _ _ _ h fun a ha t ht => ?_
  simp only [List.mem_cons, List.not_mem_nil, or_false] at ha
  rcases ha with rfl | rfl <;> simp [ht]

@[simp] theorem edgeAct_lit (before : State) (e : InputEvent) (rising : Bool)
    (order : List HandOff) : (edgeAct before e rising order s).heater.state.Lit := by
  unfold edgeAct
  repeat' split
  all_goals simp [h]

@[simp] theorem limitMapping_lit (before : State) (e : InputEvent) :
    (limitMapping before e s).heater.state.Lit := by
  unfold limitMapping
  split <;> simp [h]

@[simp] theorem mappingAct_lit (before : State) (e : InputEvent) :
    (mappingAct before e s).heater.state.Lit := by
  unfold mappingAct
  repeat' split
  all_goals simp [h]

@[simp] theorem formEvent_lit (i : Fin 16) (e : InputEvent) (order : List HandOff)
    (before : State) : (formEvent i e order before s).heater.state.Lit := by
  simp only [formEvent]
  repeat' split
  all_goals simp [h]

@[simp] theorem changeBinding_lit (i : Fin 16) (b : PinBinding) (order : List HandOff) :
    (changeBinding i b order s).heater.state.Lit := by
  unfold changeBinding
  split <;> simp [h]

@[simp] theorem joinOp_lit (i : Fin 16) (samples : List Bool) (order : List HandOff) :
    (joinOp i samples order s).heater.state.Lit := by
  unfold joinOp
  split <;> simp [h]

@[simp] theorem debounceOp_lit (i : Fin 16) (samples : List Bool) (order : List HandOff) :
    (debounceOp i samples order s).heater.state.Lit := by
  unfold debounceOp
  split <;> simp [h]

@[simp] theorem pulseOp_lit (i : Fin 16) (level : Bool) : (pulseOp i level s).heater.state.Lit := by
  simp [pulseOp, h]

@[simp] theorem releaseForm_lit (i : Fin 16) (old : Pin) (order : List HandOff) (before : State) :
    (releaseForm i old order before s).heater.state.Lit := by
  unfold releaseForm
  split <;> simp [h]

@[simp] theorem pinMapOp_lit (i : Fin 16) (new : Pin) (level : Bool) (order : List HandOff) :
    (pinMapOp i new level order s).heater.state.Lit := by
  simp only [pinMapOp]
  repeat' split
  all_goals simp [h]

/-! ## Parameters, flags and the restart -/

@[simp] theorem entryChannelWrite_lit : (entryChannelWrite s).heater.state.Lit := by
  unfold entryChannelWrite
  split <;> simp [h]

@[simp] theorem paramFollow_lit (id : Nat) (order : List HandOff) (before : State) :
    (paramFollow id order before s).heater.state.Lit := by
  refine paramFollow_cases (fun t => t.heater.state.Lit) id order before s ?_ ?_ ?_ ?_ ?_ ?_ ?_ ?_ ?_ ?_ ?_
      ?_ ?_ ?_ ?_ <;> (try intro i) <;> simp [h]

@[simp] theorem writeParam_lit (id : Nat) (v : Int) (order : List HandOff) :
    (writeParam id v order s).2.heater.state.Lit := by
  simp only [writeParam]
  split
  · have hold : (if id = 54 then entryChannelWrite s else s).heater.state.Lit := by
      split <;> simp [h]
    generalize (if id = 54 then entryChannelWrite s else s) = u at hold ⊢
    simpa using paramFollow_lit (s := u.setParams (u.params.put id v)) hold id order u
  · exact h

@[simp] theorem writeParams_lit (order : List HandOff) (ps : List (Nat × Int)) :
    (writeParams order ps s).2.heater.state.Lit := by
  induction ps generalizing s with
  | nil => exact h
  | cons a ps ih => exact ih (writeParam_lit h _ _ _)

@[simp] theorem ownerClear_lit (f : Flag) : (ownerClear f s).heater.state.Lit := by
  unfold ownerClear
  split <;> simp [h]

@[simp] theorem clearNamed_lit (f : Flag) : (clearNamed s f).heater.state.Lit := by
  unfold clearNamed
  repeat' split
  all_goals simp [h]

@[simp] theorem flagClearOp_lit (numbers : List Byte) :
    (flagClearOp numbers s).2.heater.state.Lit := by
  unfold flagClearOp
  split
  · exact foldl_keeps (fun t => t.heater.state.Lit) clearNamed _ _ h fun _ f ht => clearNamed_lit ht f
  · exact h

@[simp] theorem presentAll_lit (order : List HandOff) : (presentAll order s).heater.state.Lit := by
  unfold presentAll
  refine inOrder_keeps (fun t => t.heater.state.Lit) _ _ _ h fun a ha t ht => ?_
  simp only [List.mem_cons, List.not_mem_nil, or_false] at ha
  rcases ha with rfl | rfl | rfl <;> simp [tanksRestart, ht]

@[simp] theorem restartOverrides_lit : (restartOverrides s).heater.state.Lit := by
  unfold restartOverrides
  split <;> simp [h]

@[simp] theorem restartOp_lit (order : List HandOff) : (restartOp order s).heater.state.Lit := by
  have hcleared : (restartCleared s).heater.state.Lit := by
    simpa [restartCleared] using h
  have hpresented := presentAll_lit hcleared order
  rw [restartOp_eq]
  exact arbitrate_lit (restartOverrides_lit (by simp [hpresented]))

end

/-! ## Every command (R81) -/

section
variable {s t : State}

theorem perform_lit {e : Bool} {u : State} (h : perform s e u = .next t) (hs : s.heater.state.Lit)
    (hu : u.heater.state.Lit) : t.heater.state.Lit := by
  rcases perform_cases h with h | h
  · rwa [h]
  · rwa [h, settle_heater]

theorem takeRequest_lit {kind : Nat} {tag : Byte} {p : List Byte} {act : State → List Byte × State}
    (h : takeRequest kind tag p act s = .next t) (hs : s.heater.state.Lit)
    (hact : (act s).2.heater.state.Lit) : t.heater.state.Lit := by
  refine perform_lit h hs ?_
  split
  · simpa using hact
  · simpa using hs

/-- A frame that arrives, or is discarded, does not act on the heater but for its next conversion. -/
theorem receiveFrame_heaterState (bytes : List Byte) (s : State) :
    ((receiveFrame bytes s).getD s).heater.state = s.heater.state := by
  unfold receiveFrame
  split <;> simp

theorem discardFrame_heaterState (bytes : List Byte) (framing : Bool) (s : State) :
    ((discardFrame bytes framing s).getD s).heater.state = s.heater.state := by
  unfold discardFrame
  repeat' split
  all_goals simp

/-- Only the end of its purge and the power-on reset take a lit heater out. -/
theorem exec_lit {c : Instr} (h : exec c s = .next t) (hreset : c ≠ .powerOnReset)
    (hpurge : c ≠ .purgeEnd) (hs : s.heater.state.Lit) : t.heater.state.Lit := by
  cases c with
  | powerOnReset => exact absurd rfl hreset
  | purgeEnd => exact absurd rfl hpurge
  | summary | paramWrite | paramRead | loadDemand | loadQuery | moveQuery | movePost | schedRead
  | pinRead | tankQuery | meterQuery | timeQuery | sceneRecall | sceneStore | flagClear | drainOpen
  | accountFull | restart | hold =>
    simp only [exec, execSummary, execParamWrite, execParamRead, execLoadDemand, execLoadQuery,
      execMoveQuery, execMovePost, execSchedRead, execPinRead, execTankQuery, execMeterQuery,
      execTimeQuery, execSceneRecall, execSceneStore, execFlagClear, execDrainOpen, execAccountFull,
      execRestart, execHold] at h
    exact takeRequest_lit h hs (by simp [hs])
  | heatMode tag p =>
    simp only [exec, execHeatMode] at h
    exact takeRequest_lit h hs (heatOp_lit hs (setHostMode_lit hs) _)
  | moveCancel | schedWrite | schedFree | pinMap | drainClose | recalibrate | dormant | accountSet =>
    simp only [exec, execMoveCancel, execSchedWrite, execSchedFree, execPinMap, execDrainClose,
      execRecalibrate, execDormant, execAccountSet] at h
    refine takeRequest_lit h hs ?_
    repeat' split
    all_goals simp [hs]
  | noticeMask tag p =>
    simp only [exec, execNoticeMask] at h
    refine takeRequest_lit h hs ?_
    split
    · next u hu =>
      simp only [noticeMaskOp] at hu
      split at hu
      · cases hu; simp [hs]
      · cases hu
    · exact hs
  | timeSet tag p input =>
    simp only [exec, execTimeSet] at h
    split at h
    · exact takeRequest_lit h hs (by simp [hs])
    · cases h
  | noticeBegin =>
    simp only [exec, execNoticeBegin] at h
    split at h
    · exact perform_lit h hs hs
    · exact perform_lit h hs (by simp [hs])
  | validFrame bytes => exact perform_lit h hs (receiveFrame_heaterState bytes s ▸ hs)
  | frameDiscard bytes framing => exact perform_lit h hs (discardFrame_heaterState bytes framing s ▸ hs)
  | deviceTimeAdvance edge input =>
    simp only [exec, execDeviceTimeAdvance] at h
    split at h
    · split at h
      · exact perform_lit h hs (by simp [hs])
      · exact perform_lit h hs (slowStep_lit hs _ input)
    · cases h
  | intervalEnd | cabinConversion | senderConversion | temperatureConversion | dormantEntry
  | leavingToActive =>
    simp only [exec, execIntervalEnd, execCabinConversion, execSenderConversion,
      execTemperatureConversion, execDormantEntry, execLeavingToActive] at h
    split at h
    · exact perform_lit h hs (by simp [hs])
    · cases h
  | motorStall => exact perform_lit h hs (arbitrate_lit (stowWatch_lit (stallOp_lit hs) s))
  | idleDue => exact perform_lit h hs (enterEntering_lit (by exact hs))
  | hostSilence => exact perform_lit h hs (withdrawSilentHost_lit (by exact hs))
  | startByte | receiveTimeout | transmitEnd | restartPerform | holdEnd | fadeEnd | entryHoldEnd | glowEnd
  | dangerDue | pumpRunExpiry | grantWaitExpiry | settleEnd | backoffEnd | retryWaitEnd
  | motionTimeout | destinationReached | brakeHoldEnd | gapTimerEnd | driveMillisecond | windWindowEnd
  | windPulse | pinJoin | debounceComplete | scheduleFire | calibrationEnd | calibrationNoSteps
  | unknownKindRequest =>
    exact perform_lit h hs (by simp [hs])

/-- Settles O11: a lit heater stays lit, and the end of a purge acts in PURGING alone. -/
theorem theHeaterStopsOnlyThroughAPurge : Obligations.TheHeaterStopsOnlyThroughAPurge := by
  intro s t c h hreset hstate
  have hlit : s.heater.state.Lit := hstate.imp_right .inl
  by_cases hpurge : c = .purgeEnd
  · subst hpurge
    have hpurging : s.heater.state ≠ .purging := by
      rcases hstate with hs | hs <;> simp [hs]
    have hkept : t = s := by
      simpa [exec, execPurgeEnd, perform, hpurging, eq_comm] using h
    exact hkept ▸ hlit
  · exact exec_lit h hreset hpurge hlit

end

end Sys2Proof.Machine
end

section
/-! PROOFS. What the demands of the Tank and Frost Unit leave (R97, R98, R102, R105, R190): the pump under its
guard, and the pads and the heater's FROST origin after the hand-offs of a move of the frost controllers,
whatever their order. -/

namespace Sys2Proof.Machine

/-! ## The demands of listed records -/

/-- From `s` to `t` every record but those of `l` keeps its origins, and every flag but LOAD_SHED its bits. -/
structure DemandsMoved (l : List Channel) (s t : State) : Prop where
  origins : OriginsKeptBut l s t
  flags : FlagsKeptBut [.loadShed] s t

namespace DemandsMoved
variable {l l' : List Channel} {s t u : State}

theorem refl (l : List Channel) (s : State) : DemandsMoved l s s := ⟨fun _ _ => rfl, fun _ _ => rfl⟩

theorem trans (h : DemandsMoved l s t) (k : DemandsMoved l t u) : DemandsMoved l s u where
  origins ch hch := (k.origins ch hch).trans (h.origins ch hch)
  flags f hf := (k.flags f hf).trans (h.flags f hf)

theorem mono (h : DemandsMoved l s t) (hl : l ⊆ l') : DemandsMoved l' s t where
  origins ch hch := h.origins ch fun hm => hch (hl hm)
  flags := h.flags

/-- A change that leaves the records and the flags alone. -/
theorem of_eq (hr : t.table.recs = s.table.recs) (hf : t.link.flags = s.link.flags) :
    DemandsMoved l s t where
  origins ch _ := by simp only [Machine.origins, hr]
  flags f _ := flagBits_of_flags hf f

theorem of_same (h : SameDemands s t) : DemandsMoved l s t where
  origins ch _ := h.get ch
  flags f hf := h.flags f (by simpa using hf)

end DemandsMoved

section
variable (s : State)

theorem setOrigins_moved (ch : Channel) (o : OriginSet) : DemandsMoved [ch] s (setOrigins s ch o) where
  origins c hc := by rw [origins_setOrigins, if_neg fun heq => hc (by simp [heq])]
  flags f _ := flagBits_of_flags (by simp) f

/-! ## The pump under its guard (R97, R98) -/

theorem OriginSet.isEmpty_iff (o : OriginSet) : o.isEmpty = true ↔ o = .empty := by
  obtain ⟨host, schedule, switch, scene, entry, frost, thermostat, motion, override⟩ := o
  simp [OriginSet.isEmpty, allOrigins, OriginSet.get, OriginSet.empty]

/-- A record that the lists agree with is not granted without an origin (R30). -/
theorem not_granted_of_empty {s : State} {ch : Channel} (h : s.table.Agrees)
    (ho : origins s ch = .empty) : isGranted s ch = false := by
  have hidle : demanded s ch = false := by simp [demanded, (OriginSet.isEmpty_iff _).mpr ho]
  rw [← Bool.not_eq_true, isGranted_iff]
  intro hg
  have hdemanded := (agrees_iff_within.mp h).within ch (List.mem_append_right _ hg)
  simp [hidle] at hdemanded

theorem pumpGuard_congr {s t : State} (hrecs : t.tanks.recs = s.tanks.recs)
    (hfresh : t.tanks.fresh = s.tanks.fresh) (hfault : t.tanks.pumpFault = s.tanks.pumpFault)
    (hparams : t.params = s.params) : pumpGuard t = pumpGuard s := by
  simp only [pumpGuard, guardDry, guardDrained, guardFault, guardGrey, hrecs, hfresh, hfault, hparams]

/-- R98, log 31: under the guard the pump has no origin, whether it had one or not. -/
theorem enforcePumpGuard_origins :
    origins (enforcePumpGuard s) chPump = if pumpGuard s then .empty else origins s chPump := by
  unfold enforcePumpGuard
  cases hguard : pumpGuard s with
  | false => rfl
  | true =>
    cases hdemanded : demanded s chPump with
    | true => exact (originEvent_setOrigins s chPump .empty).1
    | false =>
      have hempty : (origins s chPump).isEmpty = true := by simpa [demanded] using hdemanded
      exact (OriginSet.isEmpty_iff _).mp hempty

theorem enforcePumpGuard_moved : DemandsMoved [chPump] s (enforcePumpGuard s) := by
  unfold enforcePumpGuard
  exact ite_keeps (DemandsMoved [chPump] s) _ _ _
    ((setOrigins_moved s chPump .empty).trans (.of_same (originEvent_same s _))) (.refl _ s)

/-! ## The demands of the frost controllers (R102) -/

theorem syncPad_moved (k : FrostTank) : DemandsMoved [padChannel k] s (syncPad k s) :=
  (setOrigins_moved s _ _).trans (.of_same (reevaluate_same s _))

theorem padChannel_ne {k k' : FrostTank} (h : k ≠ k') : padChannel k ≠ padChannel k' := by
  cases k <;> cases k' <;> simp_all [padChannel, chFreshPad, chGreyPad]

theorem frostCtl_of_tanks {s t : State} (hf : t.tanks.fresh = s.tanks.fresh)
    (hg : t.tanks.grey = s.tanks.grey) (k : FrostTank) : frostCtl t k = frostCtl s k := by
  cases k with
  | fresh => exact hf
  | grey => exact hg

theorem syncPad_origins (k : FrostTank) :
    origins (syncPad k s) (padChannel k) = padOrigins (frostCtl s k).state := by
  unfold syncPad
  rw [(reevaluate_same s _).get, origins_setOrigins, if_pos rfl]

/-- R102: a change of the heater's FROST origin is a change of an input of the sequencer (R73). -/
theorem setFrostOrigin_moved (b : Bool) : DemandsMoved [chHeater] s (setFrostOrigin b s) := by
  unfold setFrostOrigin
  refine ite_keeps (DemandsMoved [chHeater] s) _ _ _ (.refl _ s) ?_
  exact .trans (t := s.setHeater { s.heater with frostOrigin := b }) (.of_eq rfl rfl)
    ⟨inputChanged_originsKept false s _, inputChanged_flags false s _⟩

theorem setFrostOrigin_frostOrigin (b : Bool) : (setFrostOrigin b s).heater.frostOrigin = b := by
  unfold setFrostOrigin
  split
  · assumption
  · simp [heaterFollow]

/-- The hand-offs of a move of the controllers. -/
def frostActs : List (HandOff × (State → State)) :=
  [(.padFresh, syncPad .fresh), (.padGrey, syncPad .grey), (.frostHeater, syncHeaterFrost)]

theorem frostDemands_eq (order : List HandOff) : frostDemands order s = inOrder order frostActs s := rfl

/-- What the pads' hand-offs and the heater's keep, every hand-off of the list keeps. -/
theorem frostActs_keep {Q : State → Prop} (hpad : ∀ k t, Q t → Q (syncPad k t))
    (hheater : ∀ t, Q t → Q (syncHeaterFrost t)) : ∀ a ∈ frostActs, ∀ t, Q t → Q (a.2 t) := by
  intro a ha
  simp only [frostActs, List.mem_cons, List.not_mem_nil, or_false] at ha
  rcases ha with rfl | rfl | rfl
  · exact hpad .fresh
  · exact hpad .grey
  · exact hheater

theorem frostDemands_moved (order : List HandOff) :
    DemandsMoved [chFreshPad, chGreyPad, chHeater] s (frostDemands order s) := by
  rw [frostDemands_eq]
  refine inOrder_keeps (DemandsMoved _ s) order frostActs s (.refl _ s) (frostActs_keep ?pad ?heater)
  case pad => exact fun k t ht => ht.trans ((syncPad_moved t k).mono (by cases k <;> simp [padChannel]))
  case heater => exact fun t ht => ht.trans ((setFrostOrigin_moved t _).mono (by simp))

/-- The pad's record has the origins that its controller's state places (R102). -/
def PadFollows (k : FrostTank) (t : State) : Prop :=
  origins t (padChannel k) = padOrigins (frostCtl t k).state

/-- The heater's FROST origin stands where a controller's state places it (R102). -/
def HeaterFrostFollows (t : State) : Prop :=
  t.heater.frostOrigin = (asksFrost t.tanks.fresh.state || asksFrost t.tanks.grey.state)

theorem syncPad_padFollows (k : FrostTank) : PadFollows k (syncPad k s) := by
  unfold PadFollows
  rw [syncPad_origins, frostCtl_of_tanks (s := s) (t := syncPad k s) (by simp) (by simp)]

/-- Whatever the order, each pad follows its controller. -/
theorem frostDemands_padFollows (order : List HandOff) (k : FrostTank) :
    PadFollows k (frostDemands order s) := by
  have hpad : ∀ k' t, PadFollows k t → PadFollows k (syncPad k' t) := by
    intro k' t ht
    by_cases hk : k' = k
    · exact hk ▸ syncPad_padFollows t k'
    · have hch : padChannel k ∉ [padChannel k'] := by simpa using padChannel_ne (Ne.symm hk)
      unfold PadFollows at ht ⊢
      rw [(syncPad_moved t k').origins _ hch, frostCtl_of_tanks (s := t) (by simp) (by simp), ht]
  have hheater : ∀ t, PadFollows k t → PadFollows k (syncHeaterFrost t) := by
    intro t ht
    have hch : padChannel k ∉ [chHeater] := by cases k <;> decide
    unfold PadFollows at ht ⊢
    rw [syncHeaterFrost, (setFrostOrigin_moved t _).origins _ hch,
      frostCtl_of_tanks (s := t) (by simp) (by simp), ht]
  obtain ⟨h, hmem⟩ : ∃ h, (h, syncPad k) ∈ frostActs := by
    cases k with
    | fresh => exact ⟨.padFresh, by simp [frostActs]⟩
    | grey => exact ⟨.padGrey, by simp [frostActs]⟩
  exact inOrder_establishes (PadFollows k) order (acts := frostActs) (a := (h, syncPad k)) s
    (by decide) hmem (fun t => syncPad_padFollows t k) (frostActs_keep hpad hheater)

theorem frostDemands_heaterFrostFollows (order : List HandOff) :
    HeaterFrostFollows (frostDemands order s) := by
  have hest : ∀ t, HeaterFrostFollows (syncHeaterFrost t) := by
    intro t
    unfold HeaterFrostFollows syncHeaterFrost
    rw [setFrostOrigin_frostOrigin]
    simp
  have hpad : ∀ k t, HeaterFrostFollows t → HeaterFrostFollows (syncPad k t) := by
    intro k t ht
    simpa [HeaterFrostFollows] using ht
  exact inOrder_establishes HeaterFrostFollows order (acts := frostActs)
    (a := (.frostHeater, syncHeaterFrost)) s (by decide) (by simp [frostActs]) hest
    (frostActs_keep hpad fun t _ => hest t)

/-! ## What follows a move of the controllers (R102, R190) -/

/-- What the hand-offs of a move leave, where `s` is the state in which the controllers have moved. -/
structure FrostFollowed (s t : State) : Prop where
  origins : OriginsKeptBut [chFreshPad, chGreyPad, chHeater, chPump] s t
  pads : ∀ k, PadFollows k t
  heater : HeaterFrostFollows t
  pump : pumpGuard s = true → Machine.origins t chPump = .empty

/-- It reads the records, the heater's FROST origin and the controllers alone. -/
theorem FrostFollowed.congr {s t u : State} (h : FrostFollowed s t) (hr : u.table.recs = t.table.recs)
    (hh : u.heater.frostOrigin = t.heater.frostOrigin) (hf : u.tanks.fresh = t.tanks.fresh)
    (hg : u.tanks.grey = t.tanks.grey) : FrostFollowed s u := by
  have horigins : ∀ ch, Machine.origins u ch = Machine.origins t ch := fun ch => by
    simp only [Machine.origins, hr]
  refine ⟨fun ch hch => (horigins ch).trans (h.origins ch hch), fun k => ?pads, ?heater,
    fun hguard => (horigins _).trans (h.pump hguard)⟩
  case pads =>
    have hpad := h.pads k
    unfold PadFollows at hpad ⊢
    rw [horigins, frostCtl_of_tanks hf hg, hpad]
  case heater =>
    have hheater := h.heater
    unfold HeaterFrostFollows at hheater ⊢
    rw [hh, hf, hg, hheater]

theorem FrostFollowed.freshPad {s t : State} (h : FrostFollowed s t) :
    Machine.origins t chFreshPad = padOrigins t.tanks.fresh.state := h.pads .fresh

/-- The hand-offs before the wake, after the pump's withdrawal (log 46). -/
theorem frostDemands_followed (order : List HandOff) :
    FrostFollowed s (frostDemands order (enforcePumpGuard s)) := by
  have hpump := (enforcePumpGuard_moved s).mono
    (l' := [chFreshPad, chGreyPad, chHeater, chPump]) (by simp)
  have hdemands := frostDemands_moved (enforcePumpGuard s) order
  refine ⟨(hpump.trans (hdemands.mono (by simp))).origins, frostDemands_padFollows _ order,
    frostDemands_heaterFrostFollows _ order, fun hguard => ?_⟩
  rw [hdemands.origins chPump (by decide), enforcePumpGuard_origins, if_pos hguard]

variable (before : State) (order : List HandOff)

theorem frostFollow_followed : FrostFollowed s (frostFollow before order s) := by
  have h := frostDemands_followed s order
  simp only [frostFollow]
  exact ite_keeps (FrostFollowed s) _ _ _ (h.congr (by simp) (by simp) (by simp) (by simp)) h

theorem frostFollow_flags : FlagsKeptBut [.loadShed] s (frostFollow before order s) := by
  have hpump := (enforcePumpGuard_moved s).flags
  have hdemands := (frostDemands_moved (enforcePumpGuard s) order).flags
  intro f hf
  have hkept := (hdemands f hf).trans (hpump f hf)
  simp only [frostFollow]
  exact ite_keeps (fun t : State => flagBits t f = flagBits s f) _ _ _
    ((flagBits_of_flags (by simp) f).trans hkept) hkept

/-- R102, R190: an escalation wakes the part. -/
theorem frostFollow_power :
    (frostFollow before order s).time.power =
      if escalated before s && asleep s then .leaving else s.time.power := by
  have hpower : (frostDemands order (enforcePumpGuard s)).time.power = s.time.power := by simp
  simp only [frostFollow]
  cases escalated before s with
  | false => simp
  | true => simp only [if_true, Bool.true_and, wake_power, asleep_congr hpower, hpower]

/-- Only a wake from DORMANT touches the pins (R162, R190). -/
theorem frostFollow_pins (h : s.time.power ≠ .dormant ∨ escalated before s = false) :
    (frostFollow before order s).pins = s.pins := by
  have hpins : (frostDemands order (enforcePumpGuard s)).pins = s.pins := by simp
  have hpower : (frostDemands order (enforcePumpGuard s)).time.power = s.time.power := by simp
  simp only [frostFollow]
  generalize frostDemands order (enforcePumpGuard s) = t at *
  rcases h with h | h
  · refine ite_keeps (fun u : State => u.pins = s.pins) _ _ _ ?_ hpins
    rw [← hpins]
    unfold wake
    split <;> simp_all
  · simpa [h] using hpins

/-- No condition reads what the demands and a wake change. -/
theorem conditionHolds_frostFollow (f : Flag) :
    conditionHolds (frostFollow before order s) f = conditionHolds s f := by
  have hpins : (frostDemands order (enforcePumpGuard s)).pins = s.pins := by simp
  have hactive : ∀ e, eventActive (frostFollow before order s) e = eventActive s e := by
    intro e
    simp only [frostFollow]
    exact ite_keeps (fun t : State => eventActive t e = eventActive s e) _ _ _
      ((eventActive_wake _ e).trans (eventActive_of_pins hpins e)) (eventActive_of_pins hpins e)
  have hmapped : ∀ e, eventMapped (frostFollow before order s) e = eventMapped s e := by
    intro e
    simp only [frostFollow]
    exact ite_keeps (fun t : State => eventMapped t e = eventMapped s e) _ _ _
      ((eventMapped_wake _ e).trans (eventMapped_of_pins hpins e)) (eventMapped_of_pins hpins e)
  refine conditionHolds_of_units ?_ hactive hmapped ?_ ?_ ?_ ?_ ?_ ?_ ?_ ?_ f <;> simp

end

end Sys2Proof.Machine
end

section
/-! PROOFS. A record without origins is in neither list after a re-evaluation, whatever the lists held before it
(R30). -/

namespace Sys2Proof.Machine

/-- The record of `ch` is IDLE: it has no origin, and stands in neither list (R30). -/
structure RecordIdle (ch : Channel) (s : State) : Prop where
  undemanded : demanded s ch = false
  not_waiting : ch ∉ s.table.waiting
  not_granted : ch ∉ s.table.granted

section
variable {ch c : Channel} {s t : State}

/-- Demands that stand and lists that do not take the channel in. -/
theorem RecordIdle.follow (h : RecordIdle ch s) (hs : SameDemands s t)
    (hw : ch ∉ t.table.waiting) (hg : ch ∉ t.table.granted) : RecordIdle ch t :=
  ⟨(demanded_of_same hs ch).trans h.undemanded, hw, hg⟩

theorem RecordIdle.ne_of_demanded (h : RecordIdle ch s) (hc : demanded s c = true) : ch ≠ c := by
  rintro rfl
  simp [h.undemanded] at hc

theorem RecordIdle.ne_of_granted (h : RecordIdle ch s) (hc : c ∈ s.table.granted) : ch ≠ c := by
  rintro rfl
  exact h.not_granted hc

/-! ## The lists of one record (R38, R40, R42) -/

theorem putInOrder_idle (h : RecordIdle ch s) (hne : ch ≠ c) : RecordIdle ch (putInOrder s c) :=
  h.follow (putInOrder_same s c) (by simp [(putInOrder_waiting s c).mem_iff, hne, h.not_waiting])
    (by simpa using h.not_granted)

theorem foldPutInOrder_idle {l : List Channel} (h : RecordIdle ch s) (hl : ch ∉ l) :
    RecordIdle ch (l.foldl putInOrder s) := by
  induction l generalizing s with
  | nil => exact h
  | cons a l ih =>
    obtain ⟨hne, hl⟩ := List.ne_and_not_mem_of_not_mem_cons hl
    exact ih (putInOrder_idle h hne) hl

theorem startWaiting_idle (h : RecordIdle ch s) (hne : ch ≠ c) : RecordIdle ch (startWaiting s c) :=
  putInOrder_idle
    (h.follow (setRec_same s c { s.table.recs[c] with waitStart := some s.now } rfl) h.not_waiting
      h.not_granted) hne

theorem enterIfNew_idle (h : RecordIdle ch s) (c : Channel) : RecordIdle ch (enterIfNew s c) := by
  unfold enterIfNew
  split
  · next hc =>
    simp only [Bool.and_eq_true] at hc
    exact startWaiting_idle h (h.ne_of_demanded hc.1.1.1)
  · exact h

theorem grant_idle (h : RecordIdle ch s) (hne : ch ≠ c) : RecordIdle ch (grant s c) :=
  h.follow (grant_same s c) (fun hw => h.not_waiting (List.mem_of_mem_erase hw))
    (by simp [h.not_granted, hne])

theorem grantIfZero_idle (h : RecordIdle ch s) (c : Channel) : RecordIdle ch (grantIfZero s c) := by
  unfold grantIfZero
  split
  · next hc =>
    simp only [Bool.and_eq_true] at hc
    exact grant_idle h (h.ne_of_demanded hc.1.1)
  · exact h

theorem shedRecord_idle (h : RecordIdle ch s) (hne : ch ≠ c) : RecordIdle ch (shedRecord s c) := by
  have hsame := shedRecord_same s c
  unfold shedRecord at hsame ⊢
  split at hsame
  · next hburning =>
    rw [if_pos hburning]
    exact h.follow hsame h.not_waiting h.not_granted
  · next hother =>
    rw [if_neg hother]
    refine startWaiting_idle ?_ hne
    have herased : RecordIdle ch (setGranted s (s.table.granted.erase c)) :=
      h.follow (setGranted_same s _) h.not_waiting fun hg => h.not_granted (List.mem_of_mem_erase hg)
    exact herased.follow (setRec_same _ c _ rfl) herased.not_waiting herased.not_granted

/-! ## The walk and the re-evaluation (R37 to R41) -/

theorem shedWhile_idle {pick : State → Option Channel}
    (hpick : ∀ u c, pick u = some c → c ∈ candidates u) (n : Nat) (h : RecordIdle ch s) :
    RecordIdle ch (shedWhile pick n s) := by
  induction n generalizing s with
  | zero => exact h
  | succ n ih =>
    unfold shedWhile
    split
    · exact h
    · next c hc =>
      exact ih (shedRecord_idle h (h.ne_of_granted (mem_candidates.mp (hpick s c hc)).1))

theorem walkStep2_idle (h : RecordIdle ch s) : RecordIdle ch (walkStep2 s) := by
  have hshed := shedWhile_idle (fun u c hc => pickOver_candidate hc) 13
    (shedWhile_idle (fun u c hc => (pickUnserved_candidate hc).1) 13 h)
  unfold walkStep2
  refine ite_keeps (RecordIdle ch) _ _ _ ?_ hshed
  exact ⟨hshed.undemanded, hshed.not_waiting, hshed.not_granted⟩

theorem walkStep3_idle {l : List Channel} (h : RecordIdle ch s) (hl : ch ∉ l) :
    RecordIdle ch (walkStep3 l s) := by
  induction l generalizing s with
  | nil => exact h
  | cons a l ih =>
    obtain ⟨hne, hl⟩ := List.ne_and_not_mem_of_not_mem_cons hl
    unfold walkStep3
    repeat' split
    · exact ih h hl
    · exact ih (grant_idle h hne) hl
    · exact h
    · exact ih h hl

theorem walk_idle (h : RecordIdle ch s) : RecordIdle ch (walk s) := by
  have h1 : RecordIdle ch (walkStep1 s) :=
    foldl_keeps (RecordIdle ch) grantIfZero channels s h fun _ c ht => grantIfZero_idle ht c
  have h2 := walkStep2_idle h1
  exact walkStep3_idle h2 h2.not_waiting

/-- Once it has no origin a record leaves the lists, and none of the others brings it back (R30). -/
theorem relist_idle (before : State) (h : demanded s ch = false) : RecordIdle ch (relist before s) := by
  have hdrop : RecordIdle ch (dropIdle s) :=
    ⟨(demanded_of_same (dropIdle_same s) ch).trans h, by simp [dropIdle, h], by simp [dropIdle, h]⟩
  have hmoved : RecordIdle ch (moveReclassed before (dropIdle s)) := by
    unfold moveReclassed
    simp only
    refine foldPutInOrder_idle (foldPutInOrder_idle (hdrop.follow (setWaiting_same _ _) ?_ ?_) ?_) ?_
    · exact fun hw => hdrop.not_waiting (List.mem_of_mem_filter hw)
    · exact hdrop.not_granted
    · simp [hdrop.not_waiting]
    · simp [hdrop.not_waiting]
  exact foldl_keeps (RecordIdle ch) enterIfNew channels _ hmoved fun _ c ht => enterIfNew_idle ht c

theorem runWalk_idle (n : Nat) (before : List Channel) (h : RecordIdle ch s) :
    RecordIdle ch (runWalk n before s) := by
  induction n generalizing before s with
  | zero => exact h
  | succ n ih =>
    have hwalked := walk_idle h
    have hhand : RecordIdle ch (handOff before (regranted s) (walk s)) :=
      hwalked.follow (handOff_same _ _ _) (by simpa using hwalked.not_waiting)
        (by simpa using hwalked.not_granted)
    unfold runWalk
    exact ite_keeps (RecordIdle ch) _ _ _ hhand (ih _ (relist_idle _ hhand.undemanded))

theorem reevaluate_idle (before : State) (h : demanded s ch = false) :
    RecordIdle ch (reevaluate before s) := by
  have hlists := relist_idle before h
  unfold reevaluate
  exact ite_keeps (RecordIdle ch) _ _ _ hlists (runWalk_idle _ _ hlists)

/-- A withdrawal of every origin as one event leaves the record IDLE (R30, R31). -/
theorem originEvent_idle (s : State) (ch : Channel) :
    RecordIdle ch (originEvent s (setOrigins s ch .empty)) := by
  refine reevaluate_idle s ((demanded_of_same (followLamps_same s _) ch).trans ?_)
  rw [demanded, origins_setOrigins, if_pos rfl]
  rfl

end

end Sys2Proof.Machine
end

section
/-! PROOFS. The tank senders and the pump (R90 to R99): what one conversion makes of one tank record, the pump
under its guard afterwards, and the end of the pump's longest run. -/

namespace Sys2Proof.Machine

/-! ## One tank record (R90, R92 to R94) -/

section
variable {p : Params} {i : Fin 3} {raw : Nat} {ignition : Bool} {t : TankRec}

/-- R92: the window with one more level, the oldest of 8 removed first. -/
def TankRec.entered (t : TankRec) (level : Nat) : List Nat :=
  (if t.window.length < 8 then t.window else t.window.drop 1) ++ [level]

theorem railSender_iff : railSender raw = true ↔ raw = 0 ∨ raw = 4095 := by
  simp [railSender]

/-- R90: a rail reading forms no level. -/
theorem TankRec.convert_rail (h : railSender raw = true) :
    t.convert p i ignition raw = { t with raw := raw, sender := .absent } := by
  simp only [TankRec.convert, if_pos h]

/-- R93: while IGNITION_ON is active no level enters the window. -/
theorem TankRec.convert_driving (h : railSender raw = false) :
    t.convert p i true raw = { t with raw := raw, sender := .present } := by
  simp [TankRec.convert, h]

/-- R92: a level enters the window of a parked tank. -/
theorem TankRec.convert_parked (h : railSender raw = false) :
    t.convert p i false raw =
      { t with
        raw := raw
        sender := .present
        window := t.entered (levelOf p i raw)
        source := if (t.entered (levelOf p i raw)).length = 8 then .parked else t.source } := by
  simp [TankRec.convert, h, TankRec.enter, TankRec.entered]

/-- What one conversion makes of the raw value, the sender, the window and the source. -/
theorem TankRec.convert_fields (p : Params) (i : Fin 3) (ignition : Bool) (raw : Nat) (t : TankRec) :
    let u := t.convert p i ignition raw
    u.raw = raw ∧
      (railSender raw = true → u.sender = .absent ∧ u.window = t.window) ∧
      (railSender raw = false → u.sender = .present ∧
        u.window = if ignition then t.window else t.entered (levelOf p i raw)) ∧
      (u.window.length = 8 → ignition = false → railSender raw = false → u.source = .parked) ∧
      (u.source ≠ .parked → u.source = t.source) ∧ u.threshold = t.threshold := by
  cases hrail : railSender raw with
  | true => simp [TankRec.convert_rail hrail]
  | false =>
    cases ignition with
    | true => simp [TankRec.convert_driving hrail]
    | false => simp +contextual [TankRec.convert_parked hrail]

/-- R94: the decision reads the level in use, and changes the threshold state alone. -/
theorem TankRec.judge_fields (p : Params) (i : Fin 3) (t : TankRec) :
    let u := t.judge p i
    u.raw = t.raw ∧ u.sender = t.sender ∧ u.window = t.window ∧ u.source = t.source := by
  unfold TankRec.judge
  repeat' split
  all_goals exact ⟨rfl, rfl, rfl, rfl⟩

theorem TankRec.judge_levelInUse (p : Params) (i : Fin 3) (t : TankRec) :
    levelInUse (t.judge p i) = levelInUse t := by
  obtain ⟨-, -, hwindow, hsource⟩ := TankRec.judge_fields p i t
  simp only [levelInUse, filteredLevel, hwindow, hsource]

theorem TankRec.judge_unknown (h : levelInUse t = none) : t.judge p i = t := by
  simp only [TankRec.judge, h]

/-- R94: the threshold state that a known level decides. -/
theorem TankRec.judge_threshold {l : Nat} (h : levelInUse t = some l) :
    (t.judge p i).threshold =
      if thresholdSets p i l then true else if thresholdClears p i l then false else t.threshold := by
  simp only [TankRec.judge, h]
  split
  · rfl
  · split <;> rfl

end

/-! ## The three senders (R90, R98) -/

section
variable {s : State} (raw : Fin 3 → Nat)

/-- The senders have been converted and the threshold states decided. -/
def sendersRead (raw : Fin 3 → Nat) (s : State) : State :=
  judgeTanks (s.setTanks
    { s.tanks with
      recs := vmap (fun i x => x.convert s.params i (eventActive s .ignitionOn) (raw i)) s.tanks.recs
      senderDue := some (s.ahead 16) })

theorem senderConvert_eq (s : State) : senderConvert raw s = enforcePumpGuard (sendersRead raw s) := rfl

theorem sendersRead_tankRec (s : State) (i : Fin 3) :
    tankRec (sendersRead raw s) i =
      ((tankRec s i).convert s.params i (eventActive s .ignitionOn) (raw i)).judge s.params i := by
  simp [sendersRead, judgeTanks, tankRec]

/-- One tank record after a conversion and the decision on its threshold state (R90, R92 to R94). -/
theorem sendersRead_tank (s : State) (i : Fin 3) :
    let u := tankRec (sendersRead raw s) i
    u.raw = raw i ∧
      (railSender (raw i) = true → u.sender = .absent ∧ u.window = (tankRec s i).window) ∧
      (railSender (raw i) = false → u.sender = .present ∧
        u.window = if eventActive s .ignitionOn then (tankRec s i).window
          else (tankRec s i).entered (levelOf s.params i (raw i))) ∧
      (u.window.length = 8 → eventActive s .ignitionOn = false → railSender (raw i) = false →
        u.source = .parked) ∧
      (u.source ≠ .parked → u.source = (tankRec s i).source) ∧
      (∀ l, levelInUse u = some l → u.threshold =
        if thresholdSets s.params i l then true
        else if thresholdClears s.params i l then false else (tankRec s i).threshold) ∧
      (levelInUse u = none → u.threshold = (tankRec s i).threshold) := by
  rw [sendersRead_tankRec]
  obtain ⟨hraw, hrail, hpresent, hparked, hheld, hkept⟩ := TankRec.convert_fields s.params i
    (eventActive s .ignitionOn) (raw i) (tankRec s i)
  generalize (tankRec s i).convert s.params i (eventActive s .ignitionOn) (raw i) = v at *
  obtain ⟨hraw', hsender', hwindow', hsource'⟩ := TankRec.judge_fields s.params i v
  simp only [hraw', hsender', hwindow', hsource', TankRec.judge_levelInUse]
  refine ⟨hraw, hrail, hpresent, hparked, hheld, fun l hl => ?_, fun hunknown => ?_⟩
  · rw [TankRec.judge_threshold hl, hkept]
  · rw [TankRec.judge_unknown hunknown, hkept]

/-- The senders touch their own level flags and SENSOR_LOST (R94, R95). -/
theorem conditionHolds_sendersRead {f : Flag}
    (hf : f ∉ [Flag.sensorLost, .freshLow, .greyFull, .blackFull]) :
    conditionHolds (sendersRead raw s) f = conditionHolds s f := by
  cases f with
  | sensorLost | freshLow | greyFull | blackFull => simp at hf
  | _ => rfl

theorem conditionHolds_senderConvert {f : Flag}
    (hf : f ∉ [Flag.sensorLost, .freshLow, .greyFull, .blackFull]) :
    conditionHolds (senderConvert raw s) f = conditionHolds s f := by
  rw [senderConvert_eq, conditionHolds_of_loads (enforcePumpGuard_frame _),
    conditionHolds_sendersRead raw hf]

theorem senderConvert_moved (s : State) : DemandsMoved [chPump] s (senderConvert raw s) :=
  .trans (t := sendersRead raw s) (.of_eq rfl rfl) (enforcePumpGuard_moved _)

/-- The frame of a conversion of the senders as one equation. -/
theorem eq_of_onlySenders {u t : State} (h : OnlySenders u s) (ht : t = afterEvent u t) :
    t = { afterWalk (afterEvent s t) t with
      tanks :=
        { (afterWalk (afterEvent s t) t).tanks with
          recs := t.tanks.recs
          senderDue := t.tanks.senderDue } } := by
  rw [ht]
  simp only [afterWalk, afterEvent, h]

/-- The pump after a conversion: withdrawn while its guard holds (R98, log 31), and left alone otherwise. -/
theorem senderConvert_pump (s : State) :
    let u := senderConvert raw s
    (pumpGuard u = true →
        origins u chPump = OriginSet.empty ∧ (ListsAgree s → isGranted u chPump = false)) ∧
      (pumpGuard u = false → origins u chPump = origins s chPump) := by
  intro u
  have hguard : pumpGuard u = pumpGuard (sendersRead raw s) := by
    refine pumpGuard_congr ?_ ?_ ?_ ?_ <;> simp [u, senderConvert_eq]
  have horigins : origins u chPump =
      if pumpGuard (sendersRead raw s) then .empty else origins s chPump :=
    enforcePumpGuard_origins (sendersRead raw s)
  rw [hguard]
  refine ⟨fun hholds => ?holds, fun hclear => ?clear⟩
  case holds =>
    rw [if_pos hholds] at horigins
    exact ⟨horigins, fun hlists =>
      not_granted_of_empty (senderConvert_agrees (listsAgree_iff.mp hlists) raw) horigins⟩
  case clear => rw [horigins, hclear]; rfl

end

/-! ## The pump's longest run (R99) -/

section
variable (s : State)

theorem pumpExpire_origins :
    origins (pumpExpire s) chPump = .empty ∧ OriginsKeptBut [chPump] s (pumpExpire s) :=
  originEvent_setOrigins s chPump .empty

theorem pumpExpire_idle : RecordIdle chPump (pumpExpire s) := by
  obtain ⟨hdemanded, hwaiting, hgranted⟩ := originEvent_idle s chPump
  exact ⟨hdemanded, hwaiting, hgranted⟩

theorem flagBits_pumpExpire (f : Flag) (hf : f ≠ .loadShed) :
    flagBits (pumpExpire s) f = if f = .pumpFault then ⟨true, true⟩ else flagBits s f := by
  have hkept : flagBits (originEvent s (setOrigins s chPump .empty)) f = flagBits s f :=
    ((originEvent_same s _).flags f hf).trans (flagBits_of_flags (by simp) f)
  rw [pumpExpire, flagBits_raiseFlag]
  simp only [eq_comm (a := Flag.pumpFault)]
  split
  · rfl
  · exact (flagBits_of_flags rfl f).trans hkept

/-- No condition reads the latch or the pump's record. -/
theorem conditionHolds_pumpExpire (f : Flag) :
    conditionHolds (pumpExpire s) f = conditionHolds s f := by
  have ha := eventActive_of_pins (s := s) (t := pumpExpire s) (by simp)
  have hm := eventMapped_of_pins (s := s) (t := pumpExpire s) (by simp)
  refine conditionHolds_of_units ?_ ha hm ?_ ?_ ?_ ?_ ?_ ?_ ?_ ?_ f <;> simp

variable {s}

/-- The frame of the pump's expiry as one equation. -/
theorem eq_of_onlyPumpFault {u t : State} (h : OnlyPumpFault u s) (hfault : u.tanks.pumpFault = true)
    (ht : t = afterEvent u t) :
    t = { afterWalk (afterEvent s t) t with
      tanks := { (afterWalk (afterEvent s t) t).tanks with pumpFault := true } } := by
  rw [ht]
  simp only [afterWalk, afterEvent, h, ← hfault]

end

/-! ## The obligation -/

/-- SENDER_CONVERSION with readings of the converter, once it is due. -/
theorem exec_senderConversion {s : State} {fresh grey black : Nat} (hfresh : fresh ≤ 4095)
    (hgrey : grey ≤ 4095) (hblack : black ≤ 4095) (hdue : dueReached s.now s.tanks.senderDue = true) :
    exec (.senderConversion fresh grey black) s =
      .next (settle s
        (senderConvert (fun i => if i = 0 then fresh else if i = 1 then grey else black) s)) := by
  simp [exec, execSenderConversion, perform_eq, senderOk, hfresh, hgrey, hblack, hdue]

/-- Settles O36: each tank record through its conversion, and the pump's withdrawals. -/
theorem tankSendersAndPumpExpiry : Obligations.TankSendersAndPumpExpiry := by
  refine ⟨?senders, ?expiry⟩
  case senders =>
    intro s fresh grey black hfresh hgrey hblack hdue hs
    have hexec := exec_senderConversion hfresh hgrey hblack hdue
    generalize hraw : (fun i : Fin 3 => if i = 0 then fresh else if i = 1 then grey else black) = raw
      at hexec
    have hframe : OnlySenders (senderConvert raw s) s := by simp [OnlySenders]
    have hmoved := senderConvert_moved raw s
    obtain ⟨hholds, hclear⟩ := senderConvert_pump raw s
    have hguard : pumpGuard (settle s (senderConvert raw s)) = pumpGuard (senderConvert raw s) := by
      refine pumpGuard_congr ?_ ?_ ?_ ?_ <;> simp
    refine ⟨_, hexec, fun i => ?tank, ?senderDue, fun hg => ?holds, fun hg => ?clear,
      fun ch hch => ?senderOthers, fun f hf => ?senderFlags,
      eq_of_onlySenders hframe (settle_eq_afterEvent s _)⟩
    case tank =>
      have htank : tankRec (settle s (senderConvert raw s)) i = tankRec (sendersRead raw s) i := by
        simp [tankRec, senderConvert_eq]
      have hread := sendersRead_tank raw s i
      intro x
      have hx : raw i = x := by rw [← hraw]
      rw [hx] at hread
      rw [htank]
      clear_value x
      generalize tankRec (sendersRead raw s) i = u at hread ⊢
      obtain ⟨hvalue, hrail, hpresent, hparked, hheld, hknown, hunknown⟩ := hread
      have hlevel : 0 < x → x < 4095 → railSender x = false := fun hlo hhi => by
        rw [← Bool.not_eq_true, railSender_iff]
        omega
      refine ⟨hvalue, fun h => hrail (railSender_iff.mpr h), fun hlo hhi => hpresent (hlevel hlo hhi),
        fun hfull hoff hlo hhi => hparked hfull hoff (hlevel hlo hhi), hheld, fun l hl => ?_, hunknown⟩
      rw [hknown l hl]
      exact ⟨fun hset => if_pos hset, fun hset hclears => by simp [hset, hclears]⟩
    case senderDue => simp [senderConvert]
    case holds =>
      obtain ⟨hnone, hgranted⟩ := hholds (hguard ▸ hg)
      exact ⟨(settle_origins s _ _).trans hnone, fun hl => by simpa [isGranted] using hgranted hl⟩
    case clear => rw [settle_origins, hclear (hguard ▸ hg)]
    case senderOthers => rw [settle_origins, hmoved.origins ch hch]
    case senderFlags =>
      simp only [List.mem_cons, List.not_mem_nil, or_false, not_or] at hf
      obtain ⟨hlost, hfresh, hgrey, hblack, hshed⟩ := hf
      exact flagBits_settle_of_kept hs.1
        (conditionHolds_senderConvert raw (by simp [hlost, hfresh, hgrey, hblack]))
        (hmoved.flags f (by simpa using hshed))
  case expiry =>
    intro s hdue hs
    have hexec : exec .pumpRunExpiry s = .next (settle s (pumpExpire s)) := by
      simp [exec, execPumpRunExpiry, perform_eq, hdue]
    have hframe : OnlyPumpFault (pumpExpire s) s := by simp [OnlyPumpFault]
    obtain ⟨hown, hothers⟩ := pumpExpire_origins s
    obtain ⟨-, hwaiting, hgranted⟩ := pumpExpire_idle s
    refine ⟨_, hexec, ?own, ?granted, ?waiting, ?latch, ?due, ?guard, ?relay, ?flag, fun ch hch => ?others,
      fun f hf => ?flags, eq_of_onlyPumpFault hframe rfl (settle_eq_afterEvent s _)⟩
    case own => rw [settle_origins, hown]
    case granted => simpa [isGranted] using hgranted
    case waiting => simpa [isWaiting] using hwaiting
    case latch => simp [pumpExpire]
    case due => simp [pumpExpire]
    case guard => simp [pumpGuard, guardFault, pumpExpire]
    case relay => simpa [outputActive, isGranted] using hgranted
    case flag =>
      exact flagBits_settle_of_raised (by rw [flagBits_pumpExpire s _ (by decide), if_pos rfl])
    case others => rw [settle_origins, hothers ch hch]
    case flags =>
      simp only [List.mem_cons, List.not_mem_nil, or_false, not_or] at hf
      exact flagBits_settle_of_kept hs.1 (conditionHolds_pumpExpire s f)
        (by rw [flagBits_pumpExpire s f hf.2, if_neg hf.1])

end Sys2Proof.Machine
end

section
/-! PROOFS. The frost controllers at one conversion (R101, R103, R104): the fixed steps from each state to a
state at rest, the cold run, and an absent sensor. -/

namespace Sys2Proof.Machine

/-! ## The fixed steps of R101 -/

/-- The temperatures of R101 ascend (R109). -/
structure FrostAscends (p : Params) : Prop where
  release : p.dangerRelease < p.guardEntry
  guard : p.guardEntry < p.guardExit
  between : p.guardExit < p.watchEntry
  watch : p.watchEntry < p.watchExit

section
variable {p : Params} {x : Int} {st st' : FrostState}

/-- Where WATCH comes to rest. -/
def restFromWatch (p : Params) (x : Int) : FrostState :=
  if x ≤ p.guardEntry then .guard else if p.watchExit ≤ x then .safe else .watch

/-- Where GUARD comes to rest. -/
def restFromGuard (p : Params) (x : Int) : FrostState :=
  if p.guardExit ≤ x then restFromWatch p x else .guard

/-- Where each state comes to rest. -/
def restFrom (p : Params) (x : Int) : FrostState → FrostState
  | .safe => if x ≤ p.watchEntry then restFromWatch p x else .safe
  | .watch => restFromWatch p x
  | .guard => restFromGuard p x
  | .danger => if p.dangerRelease ≤ x then restFromGuard p x else .danger
  | .drained => .drained

/-- A state to which no rule applies is kept. -/
theorem frostMove_of_none (h : frostRule p st x = none) (n : Nat) : frostMove p x n st = st := by
  cases n with
  | zero => rfl
  | succ n => simp only [frostMove, h]

theorem frostMove_of_some (h : frostRule p st x = some st') (n : Nat) :
    frostMove p x (n + 1) st = frostMove p x n st' := by
  simp only [frostMove, h]

/-- From WATCH one step is enough: GUARD and SAFE, so entered, are at rest. -/
theorem frostMove_watch (h : FrostAscends p) (n : Nat) :
    frostMove p x (n + 1) .watch = restFromWatch p x ∧ frostRule p (restFromWatch p x) x = none := by
  obtain ⟨-, hguard, hbetween, hwatch⟩ := h
  unfold restFromWatch
  by_cases hcold : x ≤ p.guardEntry
  · have hrest : frostRule p .guard x = none := if_neg (by omega)
    have hstep : frostRule p .watch x = some .guard := if_pos hcold
    rw [if_pos hcold, frostMove_of_some hstep, frostMove_of_none hrest]
    exact ⟨rfl, hrest⟩
  · by_cases hwarm : p.watchExit ≤ x
    · have hrest : frostRule p .safe x = none := if_neg (by omega)
      have hstep : frostRule p .watch x = some .safe := by simp [frostRule, hcold, hwarm]
      rw [if_neg hcold, if_pos hwarm, frostMove_of_some hstep, frostMove_of_none hrest]
      exact ⟨rfl, hrest⟩
    · have hrest : frostRule p .watch x = none := by simp [frostRule, hcold, hwarm]
      rw [if_neg hcold, if_neg hwarm, frostMove_of_none hrest]
      exact ⟨rfl, hrest⟩

theorem frostMove_guard (h : FrostAscends p) (n : Nat) :
    frostMove p x (n + 2) .guard = restFromGuard p x ∧ frostRule p (restFromGuard p x) x = none := by
  unfold restFromGuard
  by_cases hwarm : p.guardExit ≤ x
  · have hstep : frostRule p .guard x = some .watch := if_pos hwarm
    rw [if_pos hwarm, frostMove_of_some hstep]
    exact frostMove_watch h n
  · have hrest : frostRule p .guard x = none := if_neg hwarm
    rw [if_neg hwarm, frostMove_of_none hrest]
    exact ⟨rfl, hrest⟩

/-- R101: from every state the rules come to rest within three steps. -/
theorem frostMove_rests (h : FrostAscends p) (st : FrostState) (n : Nat) :
    frostMove p x (n + 3) st = restFrom p x st ∧ frostRule p (restFrom p x st) x = none := by
  cases st with
  | safe =>
    by_cases hcool : x ≤ p.watchEntry
    · have hstep : frostRule p .safe x = some .watch := if_pos hcool
      rw [restFrom, if_pos hcool, frostMove_of_some hstep]
      exact frostMove_watch h (n + 1)
    · have hrest : frostRule p .safe x = none := if_neg hcool
      rw [restFrom, if_neg hcool, frostMove_of_none hrest]
      exact ⟨rfl, hrest⟩
  | watch => exact frostMove_watch h (n + 2)
  | guard => exact frostMove_guard h (n + 1)
  | danger =>
    by_cases hmild : p.dangerRelease ≤ x
    · have hstep : frostRule p .danger x = some .guard := if_pos hmild
      rw [restFrom, if_pos hmild, frostMove_of_some hstep]
      exact frostMove_guard h n
    · have hrest : frostRule p .danger x = none := if_neg hmild
      rw [restFrom, if_neg hmild, frostMove_of_none hrest]
      exact ⟨rfl, hrest⟩
  | drained => exact ⟨frostMove_of_none rfl _, rfl⟩

/-- The states that the rules of R101 enter. -/
def FrostState.Mild (st : FrostState) : Prop := st ≠ .danger ∧ st ≠ .drained

theorem restFromWatch_mild (p : Params) (x : Int) : (restFromWatch p x).Mild := by
  unfold restFromWatch FrostState.Mild
  repeat' split
  all_goals exact ⟨by decide, by decide⟩

theorem restFromGuard_mild (p : Params) (x : Int) : (restFromGuard p x).Mild :=
  ite_keeps FrostState.Mild _ _ _ (restFromWatch_mild p x) ⟨by decide, by decide⟩

/-- No rule of R101 enters DANGER or DRAINED. -/
theorem restFrom_mild_or_kept (p : Params) (x : Int) (st : FrostState) :
    (restFrom p x st).Mild ∨ restFrom p x st = st := by
  cases st with
  | safe => exact .inl (ite_keeps FrostState.Mild _ _ _ (restFromWatch_mild p x) ⟨by decide, by decide⟩)
  | watch => exact .inl (restFromWatch_mild p x)
  | guard => exact .inl (restFromGuard_mild p x)
  | danger =>
    exact ite_keeps (fun u => FrostState.Mild u ∨ u = .danger) _ _ _
      (.inl (restFromGuard_mild p x)) (.inr rfl)
  | drained => exact .inr rfl

/-- A controller that comes to rest in DANGER or DRAINED was there. -/
theorem restFrom_severe {severe : FrostState} (hsevere : ¬ severe.Mild) (h : restFrom p x st = severe) :
    st = severe := by
  rcases restFrom_mild_or_kept p x st with hmild | hkept
  · exact absurd (h ▸ hmild) hsevere
  · exact hkept.symm.trans h

theorem drained_severe : ¬ FrostState.drained.Mild := fun h => h.2 rfl

theorem danger_severe : ¬ FrostState.danger.Mild := fun h => h.1 rfl

end

/-! ## One controller at one conversion (R101, R103, R104) -/

section
variable {p : Params} {now : Tick} {x : Int} {c : FrostCtl}

/-- R103: the cold run decides the danger due instant, and nothing else. -/
theorem coldRun_eq (p : Params) (now : Tick) (x : Int) (c : FrostCtl) :
    coldRun p now x c =
      { c with
        dangerDue :=
          if c.state = .guard ∧ x ≤ p.dangerTemperature then
            if c.dangerDue.isSome then c.dangerDue
            else some (now + BitVec.ofNat 32 (p.drainDelay * 16))
          else none } := by
  unfold coldRun
  by_cases hcold : c.state = .guard ∧ x ≤ p.dangerTemperature
  · rw [if_pos (by simp [hcold]), if_pos hcold]
    split <;> rfl
  · rw [if_neg (by simpa using hcold), if_neg hcold]

/-- R104: an absent sensor is treated as GUARD at least. -/
theorem FrostCtl.convert_rail (h : railTemperature x = true) :
    let u := c.convert p now x
    u.sensor = .absent ∧ u.reading = c.reading ∧ u.dangerDue = none ∧
      u.state = if c.state.code < 2 then .guard else c.state := by
  intro u
  have hlost : u = c.lost := if_pos h
  rw [hlost]
  refine ⟨rfl, rfl, rfl, ?_⟩
  cases hstate : c.state <;> simp [FrostCtl.lost, hstate, FrostState.code]

/-- R101, R103: a PRESENT sensor takes the controller to its state at rest, with its cold run. -/
theorem FrostCtl.convert_present (hp : FrostAscends p) (h : railTemperature x = false) :
    let u := c.convert p now x
    u.sensor = .present ∧ u.reading = some x ∧ u.state = restFrom p x c.state ∧
      u.dangerDue =
        if u.state = .guard ∧ x ≤ p.dangerTemperature then
          if c.dangerDue.isSome then c.dangerDue
          else some (now + BitVec.ofNat 32 (p.drainDelay * 16))
        else none := by
  obtain ⟨hrests, -⟩ := frostMove_rests (x := x) hp c.state 1
  rw [FrostCtl.convert, if_neg (by simp [h]), coldRun_eq]
  exact ⟨rfl, rfl, hrests, rfl⟩

/-- A conversion enters neither DANGER nor DRAINED. -/
theorem FrostCtl.convert_severe (hp : FrostAscends p) {severe : FrostState} (hsevere : ¬ severe.Mild)
    (h : (c.convert p now x).state = severe) : c.state = severe := by
  cases hrail : railTemperature x with
  | true =>
    obtain ⟨-, -, -, hstate⟩ := FrostCtl.convert_rail (p := p) (now := now) (c := c) hrail
    rw [hstate] at h
    split at h
    · exact absurd (h ▸ ⟨by decide, by decide⟩) hsevere
    · exact h
  | false =>
    obtain ⟨-, -, hstate, -⟩ := FrostCtl.convert_present (now := now) (c := c) hp hrail
    exact restFrom_severe hsevere (hstate.symm.trans h)

end

end Sys2Proof.Machine
end

section
/-! PROOFS. The commands that move the frost controllers (R100, R103, R105 to R107): the flags, the next
conversion and the frame at the end of one, and each command from there. -/

namespace Sys2Proof.Machine

/-! ## The end of a command that moves the controllers -/

section
variable {s c u t : State} {l : List Flag}

/-- A flag keeps its bits over the end of a command that has kept them, unless its condition has arisen. -/
theorem flagBits_settle_unless_arisen {f : Flag} (hs : FlagsStand s)
    (hc : conditionHolds u f = true → conditionHolds s f = true) (hb : flagBits u f = flagBits s f) :
    flagBits (settle s u) f = flagBits s f := by
  rw [flagBits_settle, if_neg, hb]
  rintro ⟨hholds, hlost⟩
  have hset := (flagsStand_iff s).mp hs f (hc hholds)
  rw [flagSet, ← hb] at hset
  simp [hc hholds, flagSet, hset] at hlost

/-- While a condition holds, its flag is set at the end of a command (R202). -/
theorem flagSet_settle {f : Flag} (before : State) (hc : conditionHolds u f = true) :
    flagSet (settle before u) f = true :=
  (flagsStand_iff _).mp (settle_settled before u).1 f (by rwa [conditionHolds_settle])

theorem frostDanger_iff (s : State) : conditionHolds s .frostDanger = true ↔
    s.tanks.fresh.state = .danger ∨ s.tanks.grey.state = .danger := by
  simp [conditionHolds]

theorem drained_iff (s : State) : conditionHolds s .drained = true ↔ s.tanks.fresh.state = .drained := by
  simp [conditionHolds]

/-- Of the tank unit's conditions only these read the controllers (R95, R103, R105). -/
theorem conditionHolds_setTanks {f : Flag} (hf : f ∉ [Flag.frostDanger, .drained, .sensorLost])
    {x : Tanks} (hx : x.recs = s.tanks.recs) : conditionHolds (s.setTanks x) f = conditionHolds s f := by
  cases f with
  | frostDanger | drained | sensorLost => simp at hf
  | freshLow | greyFull | blackFull => simp [conditionHolds, hx]
  | _ => rfl

/-- The flags at the end of a command in which the controllers have moved from `s` to `c`; `u` is what it leaves
before its end. -/
theorem frost_flagsKept {order : List HandOff} (hs : Settled s) (hshed : Flag.loadShed ∈ l)
    (hflags : c.link.flags = s.link.flags)
    (hc : ∀ f, f ∉ l → conditionHolds c f = true → conditionHolds s f = true)
    (hu : u.link.flags = (frostFollow s order c).link.flags)
    (hcu : ∀ f, conditionHolds u f = conditionHolds (frostFollow s order c) f) :
    FlagsKeptBut l s (settle s u) := by
  intro f hf
  have hne : f ∉ [Flag.loadShed] := by
    simp only [List.mem_singleton]
    exact fun heq => hf (heq ▸ hshed)
  refine flagBits_settle_unless_arisen hs.1 (fun hholds => hc f hf ?_) ?_
  · rwa [hcu, conditionHolds_frostFollow] at hholds
  · exact (flagBits_of_flags hu f).trans
      ((frostFollow_flags c s order f hne).trans (flagBits_of_flags hflags f))

/-- The frame of such a command as one equation. -/
theorem eq_of_onlyFrost (h : OnlyFrost u s) (ht : t = afterEvent u t) :
    t = afterFrost (afterEvent s t) t := by
  rw [ht]
  simp only [afterFrost, afterWalk, afterEvent, h]

theorem eq_of_onlyFrost_answered {kind : Nat} {tag : Byte} {reply : List Byte} (h : OnlyFrost u s)
    (ht : t = afterEvent (answered kind tag reply u) t) : t = afterFrost (afterRequest s t) t := by
  rw [ht]
  simp only [afterFrost, afterWalk, afterRequest, afterEvent, answered, State.setLink, h]

/-- The next conversion stands at the interval of the power state (R100). -/
def TempDueFollows (s : State) : Prop := s.tanks.tempDue = s.ahead (conversionTicks s)

theorem TempDueFollows.congr (h : TempDueFollows s) (htime : t.time = s.time)
    (hdue : t.tanks.tempDue = s.tanks.tempDue) : TempDueFollows t := by
  unfold TempDueFollows at h ⊢
  simp only [hdue, h, State.ahead, State.now, conversionTicks, htime]

/-- A wake from DORMANT gives the conversions the short interval (R100, R190). -/
theorem TempDueFollows.wake (h : TempDueFollows s) : TempDueFollows (wake s) := by
  unfold TempDueFollows at h ⊢
  unfold Machine.wake
  split
  · simp [wakeFromDormant, restartDebounce, conversionTicks, State.ahead, State.now]
  · next hp => simpa [conversionTicks, State.ahead, State.now, hp] using h
  · exact h
  · exact h

theorem frostFollow_tempDue (before : State) (order : List HandOff) (h : TempDueFollows s) :
    TempDueFollows (frostFollow before order s) := by
  have hdemands : TempDueFollows (frostDemands order (enforcePumpGuard s)) :=
    h.congr (by simp) (by simp)
  simp only [frostFollow]
  exact ite_keeps TempDueFollows _ _ _ hdemands.wake hdemands

end

/-! ## TEMPERATURE_CONVERSION (R100, R101, R104) -/

section
variable {s : State} (fresh grey : Int)

/-- Both sensors have been converted, and the controllers have moved. -/
def frostConverted (s : State) : State :=
  s.setTanks
    { s.tanks with
      fresh := s.tanks.fresh.convert s.params s.now fresh
      grey := s.tanks.grey.convert s.params s.now grey
      tempDue := s.ahead (conversionTicks s) }

theorem temperatureConvert_eq (order : List HandOff) (s : State) :
    temperatureConvert fresh grey order s = frostFollow s order (frostConverted fresh grey s) := rfl

theorem frostCtl_frostConverted (s : State) (k : FrostTank) :
    frostCtl (frostConverted fresh grey s) k =
      (frostCtl s k).convert s.params s.now (if k = .fresh then fresh else grey) := by
  cases k <;> rfl

/-- A conversion lets no condition arise but SENSOR_LOST (R100). -/
theorem conditionHolds_frostConverted (hp : FrostAscends s.params) {f : Flag}
    (hf : f ∉ [Flag.sensorLost, .loadShed]) (h : conditionHolds (frostConverted fresh grey s) f = true) :
    conditionHolds s f = true := by
  by_cases hother : f ∉ [Flag.frostDanger, .drained, .sensorLost]
  · have hkept : conditionHolds (frostConverted fresh grey s) f = conditionHolds s f :=
      conditionHolds_setTanks hother rfl
    exact hkept ▸ h
  · have hcases : f = .frostDanger ∨ f = .drained := by
      simp only [List.mem_cons, List.not_mem_nil, or_false, not_or, not_and] at hf hother
      tauto
    rcases hcases with rfl | rfl
    · rw [frostDanger_iff] at h ⊢
      exact h.imp (FrostCtl.convert_severe hp danger_severe) (FrostCtl.convert_severe hp danger_severe)
    · rw [drained_iff] at h ⊢
      exact FrostCtl.convert_severe hp drained_severe h

end

/-- TEMPERATURE_CONVERSION with readings of the converter, once it is due. -/
theorem exec_temperatureConversion {s : State} {fresh grey : Int} (order : List HandOff)
    (hfresh : temperatureOk fresh = true) (hgrey : temperatureOk grey = true)
    (hdue : reached s.now s.tanks.tempDue = true) :
    exec (.temperatureConversion fresh grey order) s =
      .next (settle s (temperatureConvert fresh grey order s)) := by
  simp [exec, execTemperatureConversion, perform_eq, hfresh, hgrey, hdue]

/-- Settles O37: each controller at its conversion, and what follows the move. -/
theorem temperatureConversionMovesTheControllers :
    Obligations.TemperatureConversionMovesTheControllers := by
  intro s fresh grey order hfresh hgrey hdue _ hrelease hguard hbetween hwatch hs
  have hascends : FrostAscends s.params := ⟨hrelease, hguard, hbetween, hwatch⟩
  have hexec := exec_temperatureConversion order hfresh hgrey hdue
  have hframe : OnlyFrost (temperatureConvert fresh grey order s) s := by simp [OnlyFrost]
  have hflags : FlagsKeptBut [.sensorLost, .loadShed] s
      (settle s (temperatureConvert fresh grey order s)) :=
    frost_flagsKept (c := frostConverted fresh grey s) hs (by simp) rfl
      (fun f hf => conditionHolds_frostConverted fresh grey hascends hf) rfl fun _ => rfl
  have htemp := frostFollow_tempDue (s := frostConverted fresh grey s) s order rfl
  rw [← temperatureConvert_eq] at htemp
  have hfollowed : FrostFollowed (frostConverted fresh grey s)
      (settle s (temperatureConvert fresh grey order s)) := by
    refine (frostFollow_followed (frostConverted fresh grey s) s order).congr ?_ ?_ ?_ ?_ <;>
      simp [temperatureConvert_eq]
  have hctl : ∀ k, frostCtl (settle s (temperatureConvert fresh grey order s)) k =
      (frostCtl s k).convert s.params s.now (if k = .fresh then fresh else grey) := by
    intro k
    rw [← frostCtl_frostConverted]
    exact frostCtl_of_tanks (by simp [temperatureConvert_eq]) (by simp [temperatureConvert_eq]) k
  have hevent := settle_eq_afterEvent s (temperatureConvert fresh grey order s)
  generalize temperatureConvert fresh grey order s = u at *
  generalize settle s u = t at *
  refine ⟨t, hexec, fun k _ => ?controller, ?due, hfollowed.heater, hfollowed.origins, hflags,
    eq_of_onlyFrost hframe hevent⟩
  case controller =>
    intro x
    have hk := hctl k
    rw [show (if k = .fresh then fresh else grey) = x from rfl] at hk
    refine ⟨fun hrail => ?absent, fun hlo hhi => ?present, hfollowed.pads k⟩
    case absent =>
      rw [hk]
      obtain ⟨hsensor, hreading, hdanger, hstate⟩ := FrostCtl.convert_rail (p := s.params) (now := s.now)
        (c := frostCtl s k) (railTemperature_iff.mpr hrail)
      exact ⟨hsensor, hreading, hdanger, hstate⟩
    case present =>
      have hrail : railTemperature x = false := by
        rw [← Bool.not_eq_true, railTemperature_iff]
        exact not_or.mpr ⟨hlo, hhi⟩
      obtain ⟨-, hrest⟩ := frostMove_rests (x := x) hascends (frostCtl s k).state 0
      obtain ⟨hsensor, hreading, hstate, hdanger⟩ := FrostCtl.convert_present (now := s.now)
        (c := frostCtl s k) hascends hrail
      rw [← hk] at hsensor hreading hstate hdanger
      refine ⟨hsensor, hreading, hstate ▸ hrest, ?_, ?_, hdanger⟩
      · rw [hstate]
        exact ⟨fun h => by rw [h]; rfl, restFrom_severe drained_severe⟩
      · rw [hstate]
        cases (frostCtl s k).state <;> rfl
  case due =>
    have htime : t.tanks.tempDue = u.ahead (conversionTicks u) := by rw [hevent]; exact htemp
    rw [htime, hevent]
    simp only [State.ahead, State.now, hframe]
    rfl

/-! ## One controller moved (R103, R105 to R107) -/

section
variable {s : State} {k : FrostTank} {c : FrostCtl}

theorem frostCtl_setFrost (s : State) (k k' : FrostTank) (c : FrostCtl) :
    frostCtl (setFrost s k c) k' = if k' = k then c else frostCtl s k' := by
  cases k <;> cases k' <;> rfl

/-- Of a controller SENSOR_LOST reads the sensor alone (R100). -/
theorem sensorLost_setFrost (hsensor : c.sensor = (frostCtl s k).sensor) :
    sensorLost (setFrost s k c) = sensorLost s := by
  have htank : tankSensorLost (setFrost s k c) = tankSensorLost s := by
    unfold tankSensorLost
    cases k with
    | fresh =>
      rw [show (setFrost s .fresh c).tanks.fresh.sensor = s.tanks.fresh.sensor from hsensor]
      rfl
    | grey =>
      rw [show (setFrost s .grey c).tanks.grey.sensor = s.tanks.grey.sensor from hsensor]
      rfl
  unfold sensorLost
  rw [htank]
  cases k <;> rfl

/-- Where the sensor stays as it was, the flags of DANGER and DRAINED alone have a condition that can change. -/
theorem conditionHolds_setFrost {f : Flag} (hf : f ∉ [Flag.frostDanger, .drained])
    (hsensor : c.sensor = (frostCtl s k).sensor) :
    conditionHolds (setFrost s k c) f = conditionHolds s f := by
  by_cases hlost : f = .sensorLost
  · subst hlost
    exact sensorLost_setFrost hsensor
  · have hother : f ∉ [Flag.frostDanger, .drained, .sensorLost] := by simp_all
    cases k with
    | fresh => exact conditionHolds_setTanks hother rfl
    | grey => exact conditionHolds_setTanks hother rfl

/-- A fresh controller moved to another state than DANGER does not let FROST_DANGER arise. -/
theorem frostDanger_setFrost (hc : c.state ≠ .danger)
    (h : conditionHolds (setFrost s .fresh c) .frostDanger = true) :
    conditionHolds s .frostDanger = true := by
  rw [frostDanger_iff] at h ⊢
  exact .inr (h.resolve_left hc)

/-- A DRAINED fresh controller is a condition of the pump guard (R97). -/
theorem pumpGuard_of_drained (h : s.tanks.fresh.state = .drained) : pumpGuard s = true := by
  simp [pumpGuard, guardDrained, h]

end

/-! ## DANGER_DUE (R103, R105) -/

section
variable {s : State} {k : FrostTank}

/-- The state that a controller enters at its danger due instant (R103). -/
def dangerState (k : FrostTank) (s : State) : FrostState :=
  if k = .fresh && s.params.autoDrain then .drained else .danger

/-- The danger due instant has moved its controller. -/
def dangerMoved (k : FrostTank) (s : State) : State :=
  setFrost s k { frostCtl s k with state := dangerState k s, dangerDue := none }

theorem dangerOp_eq (k : FrostTank) (order : List HandOff) (s : State) :
    dangerOp k order s = frostFollow s order (dangerMoved k s) := by
  unfold dangerOp dangerMoved dangerState
  split
  · next h =>
    simp only [Bool.and_eq_true, decide_eq_true_eq] at h
    obtain ⟨rfl, -⟩ := h
    rfl
  · rfl

theorem dangerState_drains (hk : k = .fresh) (h : s.params.autoDrain = true) :
    dangerState k s = .drained := if_pos (by simp [hk, h])

theorem dangerState_warns (h : k = .grey ∨ s.params.autoDrain = false) : dangerState k s = .danger :=
  if_neg (by rcases h with h | h <;> simp [h])

theorem frostDanger_of_ctl {t : State} (h : (frostCtl t k).state = .danger) :
    conditionHolds t .frostDanger = true := by
  rw [frostDanger_iff]
  cases k with
  | fresh => exact .inl h
  | grey => exact .inr h

end

/-- Settles O38: the two moves of the danger due instant, and what follows them. -/
theorem dangerDueDrainsOrFlags : Obligations.DangerDueDrainsOrFlags := by
  intro s k order hdue hs
  have hexec : exec (.dangerDue k order) s = .next (settle s (frostFollow s order (dangerMoved k s))) := by
    rw [← dangerOp_eq]
    simp [exec, execDangerDue, perform_eq, hdue]
  have hframe : OnlyFrost (frostFollow s order (dangerMoved k s)) s := by
    rw [← dangerOp_eq]
    simp [OnlyFrost]
  have hmoved : (dangerMoved k s).table = s.table ∧ (dangerMoved k s).link = s.link := by
    cases k <;> exact ⟨rfl, rfl⟩
  have hflags : FlagsKeptBut [.frostDanger, .drained, .loadShed] s
      (settle s (frostFollow s order (dangerMoved k s))) := by
    refine frost_flagsKept (c := dangerMoved k s) hs (by simp) (by rw [hmoved.2]) (fun f hf hc => ?_) rfl
      fun _ => rfl
    have hkept : conditionHolds (dangerMoved k s) f = conditionHolds s f :=
      conditionHolds_setFrost (by simp_all) rfl
    exact hkept ▸ hc
  have hset : ∀ f, conditionHolds (dangerMoved k s) f = true →
      flagSet (settle s (frostFollow s order (dangerMoved k s))) f = true :=
    fun f hc => flagSet_settle s ((conditionHolds_frostFollow _ s order f).trans hc)
  have hfollowed : FrostFollowed (dangerMoved k s)
      (settle s (frostFollow s order (dangerMoved k s))) :=
    (frostFollow_followed (dangerMoved k s) s order).congr (by simp) (by simp) (by simp) (by simp)
  have hctl : ∀ k', frostCtl (settle s (frostFollow s order (dangerMoved k s))) k' =
      frostCtl (dangerMoved k s) k' := frostCtl_of_tanks (by simp) (by simp)
  have hevent := settle_eq_afterEvent s (frostFollow s order (dangerMoved k s))
  generalize frostFollow s order (dangerMoved k s) = u at *
  generalize settle s u = t at *
  have hown : frostCtl t k = { frostCtl s k with state := dangerState k s, dangerDue := none } := by
    rw [hctl, dangerMoved, frostCtl_setFrost, if_pos rfl]
  refine ⟨t, hexec, by rw [hown], by rw [hown], by rw [hown], fun hk hauto => ?drains, fun hwarns => ?warns,
    fun k' _ hne => ?other, fun k' _ => hfollowed.pads k', hfollowed.heater, fun ch hch => ?origins, hflags,
    eq_of_onlyFrost hframe hevent⟩
  case drains =>
    have hdrained : (frostCtl (dangerMoved k s) k).state = .drained := by
      rw [← hctl, hown, dangerState_drains hk hauto]
    subst hk
    have hstate : t.tanks.fresh.state = .drained := (congrArg FrostCtl.state (hctl .fresh)).trans hdrained
    exact ⟨hstate, by simp [outputActive, hstate], hset _ ((drained_iff _).mpr hdrained),
      hfollowed.pump (pumpGuard_of_drained hdrained)⟩
  case warns =>
    have hdanger : (frostCtl (dangerMoved k s) k).state = .danger := by
      rw [← hctl, hown, dangerState_warns hwarns]
    exact ⟨(congrArg FrostCtl.state (hctl k)).trans hdanger, hset _ (frostDanger_of_ctl hdanger)⟩
  case other => rw [hctl, dangerMoved, frostCtl_setFrost, if_neg hne]
  case origins => rw [hfollowed.origins ch hch, origins_of_table hmoved.1]

/-! ## DRAIN_OPEN and DRAIN_CLOSE (R106, R107) -/

section
variable {s : State} {tag : Byte} {st : FrostState} {order : List HandOff}

/-- The report of both requests: a state, with the reading and the sensor of the fresh tank (R106, R107). -/
def drainReport (st : FrostState) (s : State) : List Byte :=
  BitVec.ofNat 8 st.code ::
    (optI32 s.tanks.fresh.reading ++ [BitVec.ofNat 8 s.tanks.fresh.sensor.code])

theorem drainReply_eq (r : Result) (s : State) :
    drainReply r s = BitVec.ofNat 8 r.code :: drainReport s.tanks.fresh.state s := by
  have hlength : (optI32 s.tanks.fresh.reading).length = 4 := rfl
  simp [drainReply, packReply, packParts, fitParts, u8, drainReport, hlength]

/-- The fresh controller has been moved to a state by a drain request. -/
def drainMoved (st : FrostState) (due : Option Tick) (s : State) : State :=
  setFrost s .fresh { s.tanks.fresh with state := st, dangerDue := due }

variable {due : Option Tick}

theorem drainMoved_fresh (s : State) :
    (drainMoved st due s).tanks.fresh = { s.tanks.fresh with state := st, dangerDue := due } := rfl

theorem drainMoved_grey (s : State) : (drainMoved st due s).tanks.grey = s.tanks.grey := rfl

theorem escalated_drainMoved (s : State) :
    escalated s (drainMoved st due s) = decide (s.tanks.fresh.state.code < st.code) := by
  have hgrey : decide (s.tanks.grey.state.code < s.tanks.grey.state.code) = false := by simp
  change (decide (s.tanks.fresh.state.code < st.code) || decide _) = _
  rw [drainMoved_grey, hgrey, Bool.or_false]

/-- DRAINED is the last state in severity (R102). -/
theorem code_lt_drained (h : st ≠ .drained) : st.code < FrostState.drained.code := by
  cases st with
  | drained => exact absurd rfl h
  | _ => decide

/-- R190: outside DORMANT a wake acts in ENTERING alone. -/
theorem asleep_power_of_awake (h : s.time.power ≠ .dormant) :
    (if asleep s then PowerState.leaving else s.time.power) =
      if s.time.power = .entering then .leaving else s.time.power := by
  simp [asleep, h]

/-- What a drain request reports after its move. -/
theorem drainReply_moved (r : Result) (s : State) :
    drainReply r (frostFollow s order (drainMoved st due s)) =
      BitVec.ofNat 8 r.code :: drainReport st s := by
  have hfresh : (frostFollow s order (drainMoved st due s)).tanks.fresh =
      (drainMoved st due s).tanks.fresh := by simp
  rw [drainReply_eq, drainReport, hfresh, drainMoved_fresh]
  rfl

theorem answered_flags (kind : Nat) (tag : Byte) (reply : List Byte) (s : State) :
    (answered kind tag reply s).link.flags = s.link.flags := rfl

/-- A drain request that moves the controller: its reply, and what follows the move. -/
theorem drain_moves {kind : Nat} {l : List Flag} {t : State} (hs : Settled s)
    (hr : RequestAt kind tag [] s) (hshed : Flag.loadShed ∈ l)
    (hc : ∀ f, f ∉ l → conditionHolds (drainMoved st due s) f = true → conditionHolds s f = true)
    (ht : t = settle s (answer (BitVec.ofNat 8 kind) tag (0#8 :: drainReport st s)
      (frostFollow s order (drainMoved st due s)))) :
    Replied kind tag (0#8 :: drainReport st s) s t ∧
      t.tanks.fresh = { s.tanks.fresh with state := st, dangerDue := due } ∧
      t.tanks.grey = s.tanks.grey ∧ t.pins = s.pins ∧
      t.time.power =
        (if escalated s (drainMoved st due s) && asleep s then .leaving else s.time.power) ∧
      FrostFollowed (drainMoved st due s) t ∧
      (∀ f, conditionHolds (drainMoved st due s) f = true → flagSet t f = true) ∧
      FlagsKeptBut l s t ∧ t = afterFrost (afterRequest s t) t := by
  have hawake : (drainMoved st due s).time.power ≠ .dormant := not_dormant_of_requestAt hr
  have hpower := frostFollow_power (drainMoved st due s) s order
  have hpins := frostFollow_pins (drainMoved st due s) s order (.inl hawake)
  have hfollowed := frostFollow_followed (drainMoved st due s) s order
  have hframe : OnlyFrost (frostFollow s order (drainMoved st due s)) s := by
    simp [OnlyFrost, drainMoved]
  have hfresh : (frostFollow s order (drainMoved st due s)).tanks.fresh =
      (drainMoved st due s).tanks.fresh := by simp
  have hgrey : (frostFollow s order (drainMoved st due s)).tanks.grey =
      (drainMoved st due s).tanks.grey := by simp
  have hnotDormant : (frostFollow s order (drainMoved st due s)).time.power ≠ .dormant := by
    rw [hpower]
    exact ite_keeps (· ≠ PowerState.dormant) _ _ _ (by decide) hawake
  rw [answer_eq_answered _ _ _ _ hnotDormant] at ht
  have hkept : FlagsKeptBut l s t := by
    rw [ht]
    exact frost_flagsKept (c := drainMoved st due s) hs hshed rfl hc (answered_flags _ _ _ _)
      (conditionHolds_answered _ _ _ _)
  have hset : ∀ f, conditionHolds (drainMoved st due s) f = true → flagSet t f = true := by
    intro f hholds
    rw [ht]
    exact flagSet_settle s
      ((conditionHolds_answered _ _ _ _ f).trans ((conditionHolds_frostFollow _ s order f).trans hholds))
  have hevent : t = afterEvent (answered kind tag (0#8 :: drainReport st s)
      (frostFollow s order (drainMoved st due s))) t := ht ▸ settle_eq_afterEvent s _
  clear ht
  generalize frostFollow s order (drainMoved st due s) = u at *
  refine ⟨?replied, ?fresh, ?grey, ?pins, ?power, ?followed, hset, hkept,
    eq_of_onlyFrost_answered hframe hevent⟩
  case replied =>
    rw [hevent]
    refine ⟨?_, ?_, ?_⟩ <;> simp only [afterEvent, answered, State.setLink, hframe]
  case fresh => rw [hevent]; exact hfresh
  case grey => rw [hevent]; exact hgrey
  case pins => rw [hevent]; exact hpins
  case power => rw [hevent]; exact hpower
  case followed =>
    refine hfollowed.congr ?_ ?_ ?_ ?_ <;> rw [hevent] <;> rfl

/-- DRAIN_OPEN enters DRAINED from any other state (R106). -/
theorem exec_drainOpen (hr : RequestAt 19 tag [] s) (h : s.tanks.fresh.state ≠ .drained) :
    exec (.drainOpen tag [] order) s =
      .next (settle s (answer (BitVec.ofNat 8 19) tag (0#8 :: drainReport .drained s)
        (frostFollow s order (drainMoved .drained none s)))) := by
  simp only [exec, execDrainOpen]
  refine takeRequest_eq hr rfl ?_
  rw [drainOpenOp, if_neg h]
  exact congrArg (·, _) (drainReply_moved .accepted s)

/-- DRAIN_OPEN of a controller already DRAINED reports alone (R106). -/
theorem exec_drainOpen_drained (hs : Settled s) (hr : RequestAt 19 tag [] s)
    (h : s.tanks.fresh.state = .drained) :
    exec (.drainOpen tag [] order) s = .next (answered 19 tag (0#8 :: drainReport .drained s) s) := by
  simp only [exec, execDrainOpen]
  refine takeRequest_refused hs hr rfl ?_
  rw [drainOpenOp, if_pos h, drainReply_eq, h]
  rfl

/-- DRAIN_CLOSE without its condition is refused CONDITION (R107). -/
theorem exec_drainClose_refused (hs : Settled s) (hr : RequestAt 20 tag [] s)
    (h : drainMayClose s = false) :
    exec (.drainClose tag [] order) s =
      .next (answered 20 tag (8#8 :: drainReport s.tanks.fresh.state s) s) := by
  simp only [exec, execDrainClose]
  refine takeRequest_refused hs hr rfl ?_
  rw [if_neg (by simp [h]), drainReply_eq]
  rfl

/-- DRAIN_CLOSE of a controller that is not DRAINED reports alone (R107). -/
theorem exec_drainClose_closed (hs : Settled s) (hr : RequestAt 20 tag [] s)
    (h : drainMayClose s = true) (hst : s.tanks.fresh.state ≠ .drained) :
    exec (.drainClose tag [] order) s =
      .next (answered 20 tag (0#8 :: drainReport s.tanks.fresh.state s) s) := by
  simp only [exec, execDrainClose]
  refine takeRequest_refused hs hr rfl ?_
  rw [if_pos h, drainCloseOp, if_neg hst, drainReply_eq]
  rfl

/-- DRAIN_CLOSE of a DRAINED controller enters SAFE (R107). -/
theorem exec_drainClose (hr : RequestAt 20 tag [] s) (h : drainMayClose s = true)
    (hst : s.tanks.fresh.state = .drained) :
    exec (.drainClose tag [] order) s =
      .next (settle s (answer (BitVec.ofNat 8 20) tag (0#8 :: drainReport .safe s)
        (frostFollow s order (drainMoved .safe s.tanks.fresh.dangerDue s)))) := by
  simp only [exec, execDrainClose]
  refine takeRequest_eq hr rfl ?_
  rw [if_pos h, drainCloseOp, if_pos hst]
  exact congrArg (·, _) (drainReply_moved .accepted s)

/-- A drain request lets no condition arise but that of the state it enters. -/
theorem conditionHolds_drainMoved (hst : st ≠ .danger) {f : Flag} (hf : f = .drained → st ≠ .drained)
    (h : conditionHolds (drainMoved st due s) f = true) : conditionHolds s f = true := by
  by_cases hdrained : f = .drained
  · subst hdrained
    exact absurd ((drained_iff _).mp h) (hf rfl)
  · by_cases hdanger : f = .frostDanger
    · subst hdanger
      exact frostDanger_setFrost hst h
    · have hkept : conditionHolds (drainMoved st due s) f = conditionHolds s f :=
        conditionHolds_setFrost (by simp [hdrained, hdanger]) rfl
      exact hkept ▸ h

end

/-- Settles O39: the moves to DRAINED and to SAFE with what follows them, and the answers that move nothing. -/
theorem drainOpenAndClose : Obligations.DrainOpenAndClose := by
  intro s tag order warm report hs
  refine ⟨fun hr => ?opened, fun hr hcold => exec_drainClose_refused hs hr hcold,
    fun hr hwarm hst => exec_drainClose_closed hs hr hwarm hst, fun hr hwarm hst => ?closes⟩
  case opened =>
    by_cases hst : s.tanks.fresh.state = .drained
    · have hexec := exec_drainOpen_drained (order := order) hs hr hst
      have hset : flagSet s .drained = true := (flagsStand_iff s).mp hs.1 _ ((drained_iff s).mpr hst)
      exact ⟨_, hexec, ⟨rfl, rfl, rfl⟩, hst, fun hne => absurd hst hne, fun _ => rfl,
        decide_eq_true hst, hset, rfl, rfl, fun _ _ => rfl, fun _ _ => rfl, rfl⟩
    · have hexec := exec_drainOpen (order := order) hr hst
      obtain ⟨hreplied, hfresh, hgrey, hpins, hpower, hfollowed, hset, hkept, hframe⟩ :=
        drain_moves (l := [.drained, .loadShed]) (st := .drained) (due := none) (order := order) hs hr
          (by simp) (fun f hf => conditionHolds_drainMoved (by decide) fun hd => by simp [hd] at hf) rfl
      generalize settle s _ = t at *
      have hdrained : t.tanks.fresh.state = .drained := by rw [hfresh]
      refine ⟨t, hexec, hreplied, hdrained, fun _ => ⟨?due, ?pump, ?pad, ?power⟩,
        fun heq => absurd heq hst, decide_eq_true hdrained, hset _ ((drained_iff _).mpr rfl), hgrey, hpins,
        hfollowed.origins, hkept, hframe⟩
      case due => rw [hfresh]
      case pump => exact hfollowed.pump (pumpGuard_of_drained rfl)
      case pad => rw [hfollowed.freshPad, hdrained]; rfl
      case power =>
        rw [hpower, escalated_drainMoved, decide_eq_true (code_lt_drained hst), Bool.true_and]
        exact asleep_power_of_awake (not_dormant_of_requestAt hr)
  case closes =>
    have hexec := exec_drainClose (order := order) hr hwarm hst
    obtain ⟨hreplied, hfresh, hgrey, hpins, hpower, hfollowed, hset, hkept, hframe⟩ :=
      drain_moves (l := [.loadShed]) (st := .safe) (due := s.tanks.fresh.dangerDue) (order := order) hs hr
        (by simp) (fun f hf => conditionHolds_drainMoved (by decide) (by simp)) rfl
    generalize settle s _ = t at *
    have hsafe : t.tanks.fresh.state = .safe := by rw [hfresh]
    refine ⟨t, hexec, hreplied, hsafe, ?valve, ?pad, hgrey, hpins, ?kept, hfollowed.origins, hkept, hframe⟩
    case valve => simp [outputActive, hsafe]
    case pad => rw [hfollowed.freshPad, hsafe]; rfl
    case kept =>
      rw [hpower, escalated_drainMoved]
      rfl

end Sys2Proof.Machine
end

section
/-! PROOFS. The Drive Stage through a re-evaluation (R44, R114, R115): the stage is left as it is, or takes in
CLAIMED the grant of its load. -/

namespace Sys2Proof.Machine

/-- The stage that has taken the grant of the motion of `o` (R115). -/
def wakingStage (o : Owner) (s : State) : DriveStage :=
  { s.drive with
    stage := .waking
    direction := some (motionDirection s o)
    phaseTimer := s.params.settleTime }

/-- From `s` to `t` the motions, the awning's position and the parameters stand, and the stage is as it was, or
has been granted in CLAIMED. -/
structure StageMoves (s t : State) : Prop where
  motion : t.motion = s.motion
  posMs : t.act.posMs = s.act.posMs
  params : t.params = s.params
  drive : t.drive = s.drive ∨
    (s.drive.stage = .claimed ∧ ∃ o, s.drive.owner = some o ∧ t.drive = wakingStage o s)

theorem reportedPosition_congr {s t : State} (hp : t.act.posMs = s.act.posMs) (hq : t.params = s.params) :
    reportedPosition t = reportedPosition s := by
  unfold reportedPosition
  rw [hp, hq]

theorem ownerAction_congr {s t : State} (hm : t.motion = s.motion) (o : Owner) :
    ownerAction t o = ownerAction s o := by
  unfold ownerAction
  rw [hm]

theorem ownerTarget_congr {s t : State} (hm : t.motion = s.motion) (o : Owner) :
    ownerTarget t o = ownerTarget s o := by
  unfold ownerTarget
  rw [hm]

theorem motionDirection_congr {s t : State} (hm : t.motion = s.motion) (hp : t.act.posMs = s.act.posMs)
    (hq : t.params = s.params) (o : Owner) : motionDirection t o = motionDirection s o := by
  unfold motionDirection
  rw [ownerAction_congr hm, ownerTarget_congr hm, reportedPosition_congr hp hq]

namespace StageMoves
variable {s t u : State}

theorem of_eq (hm : t.motion = s.motion) (hp : t.act.posMs = s.act.posMs) (hq : t.params = s.params)
    (hd : t.drive = s.drive) : StageMoves s t := ⟨hm, hp, hq, .inl hd⟩

theorem refl (s : State) : StageMoves s s := .of_eq rfl rfl rfl rfl

theorem trans (h : StageMoves s t) (k : StageMoves t u) : StageMoves s u := by
  refine ⟨k.motion.trans h.motion, k.posMs.trans h.posMs, k.params.trans h.params, ?_⟩
  rcases h.drive with hd | ⟨hs, o, ho, hd⟩
  · rcases k.drive with kd | ⟨kt, o, ko, kd⟩
    · exact .inl (kd.trans hd)
    · rw [hd] at kt ko
      refine .inr ⟨kt, o, ko, kd.trans ?_⟩
      simp only [wakingStage, hd, h.params, motionDirection_congr h.motion h.posMs h.params]
  · rcases k.drive with kd | ⟨kt, -⟩
    · exact .inr ⟨hs, o, ho, kd.trans hd⟩
    · simp [hd, wakingStage] at kt

/-- The owner stays, whatever the stage does. -/
theorem owner (h : StageMoves s t) : t.drive.owner = s.drive.owner := by
  rcases h.drive with hd | ⟨-, o, -, hd⟩ <;> rw [hd]
  rfl

/-- A stage that is not in CLAIMED is left alone. -/
theorem kept (h : StageMoves s t) (hs : s.drive.stage ≠ .claimed) : t.drive = s.drive :=
  h.drive.resolve_right fun hc => hs hc.1

end StageMoves

section
variable (s : State)

theorem driveHandOff_stageMoves : StageMoves s (driveHandOff s) := by
  unfold driveHandOff
  split
  · next h =>
    simp only [Bool.and_eq_true, decide_eq_true_eq] at h
    split
    · next o ho =>
      have hdrive : (enterWaking s o).drive = wakingStage o s := by
        simp only [enterWaking, wakingStage]
        split <;> rfl
      exact ⟨by simp, by simp, by simp, .inr ⟨h.1, o, ho, hdrive⟩⟩
    · exact .refl s
  · exact .refl s

theorem handOff_stageMoves (before again : List Channel) : StageMoves s (handOff before again s) := by
  unfold handOff
  exact .trans (.of_eq (by simp) (by simp) (by simp) (by simp)) (driveHandOff_stageMoves _)

theorem walk_stageMoves : StageMoves s (walk s) := .of_eq (by simp) (by simp) (by simp) (by simp)

theorem relist_stageMoves (before : State) : StageMoves s (relist before s) :=
  .of_eq (by simp) (by simp) (by simp) (by simp)

theorem runWalk_stageMoves (n : Nat) (before : List Channel) (s : State) :
    StageMoves s (runWalk n before s) := by
  induction n generalizing before s with
  | zero => exact .refl s
  | succ n ih =>
    have h := (walk_stageMoves s).trans (handOff_stageMoves (walk s) before (regranted s))
    unfold runWalk
    exact ite_keeps (StageMoves s) _ _ _ h (h.trans (.trans (relist_stageMoves _ _) (ih _ _)))

theorem reevaluateAlways_stageMoves (before : State) : StageMoves s (reevaluateAlways before s) :=
  .trans (relist_stageMoves s before) (runWalk_stageMoves _ _ _)

theorem reevaluate_stageMoves (before : State) : StageMoves s (reevaluate before s) := by
  unfold reevaluate
  exact ite_keeps (StageMoves s) _ _ _ (relist_stageMoves s before) (reevaluateAlways_stageMoves s before)

theorem originEvent_stageMoves (before : State) : StageMoves s (originEvent before s) :=
  .trans (t := followLamps before s) (.of_eq (by simp) (by simp) (by simp) (by simp))
    (reevaluate_stageMoves _ _)

theorem heaterSettle_stageMoves (before : State) : StageMoves s (heaterSettle before s) := by
  have hsync : StageMoves s (syncHeater s) := .of_eq (by simp) (by simp) (by simp) (by simp)
  unfold heaterSettle
  exact ite_keeps (StageMoves s) _ _ _ (hsync.trans (reevaluate_stageMoves _ _))
    (hsync.trans (reevaluateAlways_stageMoves _ _))

end

end Sys2Proof.Machine
end

section
/-! PROOFS. The motor is driven only from the settle time, a retry wait or a stall (R115, R127): every other
operation leaves a driven stage as it is, or stops it. One lemma for each operation that can change the
stage. -/

namespace Sys2Proof.Machine

/-- Where the motor is driven, in RUNNING or BACKING, the stage is in `d`. -/
def StageState.DrivenAs (x d : StageState) : Prop := x = .running ∨ x = .backing → x = d

@[simp] theorem drivenAs_idle (d : StageState) : StageState.DrivenAs .idle d := by simp [StageState.DrivenAs]

@[simp] theorem drivenAs_gap (d : StageState) : StageState.DrivenAs .gap d := by simp [StageState.DrivenAs]

@[simp] theorem drivenAs_claimed (d : StageState) : StageState.DrivenAs .claimed d := by
  simp [StageState.DrivenAs]

@[simp] theorem drivenAs_braking (d : StageState) : StageState.DrivenAs .braking d := by
  simp [StageState.DrivenAs]

@[simp] theorem drivenAs_retryWait (d : StageState) : StageState.DrivenAs .retryWait d := by
  simp [StageState.DrivenAs]

theorem StageMoves.drivenAs {d : StageState} {s t : State} (k : StageMoves s t)
    (h : s.drive.stage.DrivenAs d) : t.drive.stage.DrivenAs d := by
  rcases k.drive with hd | ⟨-, o, -, hd⟩
  · rwa [hd]
  · rw [hd]
    simp [StageState.DrivenAs, wakingStage]

section
variable {d : StageState} {s : State} (h : s.drive.stage.DrivenAs d)
include h

/-! ## The table, and the heater (R44, R72) -/

@[simp] theorem reevaluate_drivenAs (before : State) : (reevaluate before s).drive.stage.DrivenAs d :=
  (reevaluate_stageMoves s before).drivenAs h

@[simp] theorem reevaluateAlways_drivenAs (before : State) :
    (reevaluateAlways before s).drive.stage.DrivenAs d := (reevaluateAlways_stageMoves s before).drivenAs h

@[simp] theorem originEvent_drivenAs (before : State) : (originEvent before s).drive.stage.DrivenAs d :=
  (originEvent_stageMoves s before).drivenAs h

@[simp] theorem heaterSettle_drivenAs (before : State) : (heaterSettle before s).drive.stage.DrivenAs d :=
  (heaterSettle_stageMoves s before).drivenAs h

@[simp] theorem heaterFollow_drivenAs (before : State) : (heaterFollow before s).drive.stage.DrivenAs d := by
  simp [heaterFollow, h]

@[simp] theorem setSchedMode_drivenAs (m : HeatMode) : (setSchedMode m s).drive.stage.DrivenAs d :=
  heaterFollow_drivenAs (by exact h) s

@[simp] theorem setHostMode_drivenAs (m : HeatMode) : (setHostMode m s).drive.stage.DrivenAs d :=
  heaterFollow_drivenAs (by exact h) s

@[simp] theorem setFrostOrigin_drivenAs (b : Bool) : (setFrostOrigin b s).drive.stage.DrivenAs d := by
  unfold setFrostOrigin
  split
  · exact h
  · exact heaterFollow_drivenAs (by exact h) s

@[simp] theorem bandToHeater_drivenAs : (bandToHeater s).drive.stage.DrivenAs d := heaterFollow_drivenAs h s

@[simp] theorem heatOp_drivenAs {set : HeatMode → State → State}
    (hset : ∀ m, (set m s).drive.stage.DrivenAs d) (code : Byte) :
    (heatOp set code s).2.drive.stage.DrivenAs d := by
  unfold heatOp
  repeat' split
  all_goals simp [h, hset]

@[simp] theorem flameLoss_drivenAs : (flameLoss s).drive.stage.DrivenAs d := by
  unfold flameLoss
  split <;> simp [h]

@[simp] theorem glowEndOp_drivenAs : (glowEndOp s).drive.stage.DrivenAs d := by
  unfold glowEndOp
  split
  · exact heaterSettle_drivenAs (by simpa using h) s
  · exact heaterSettle_drivenAs (by simpa using h) s

@[simp] theorem purgeEndOp_drivenAs : (purgeEndOp s).drive.stage.DrivenAs d := by
  unfold purgeEndOp
  repeat' split
  all_goals exact heaterSettle_drivenAs (by simpa using h) s

@[simp] theorem lockoutClear_drivenAs : (lockoutClear s).drive.stage.DrivenAs d := by
  simp only [lockoutClear]
  repeat' split
  all_goals simp [h]

@[simp] theorem heaterRestart_drivenAs : (heaterRestart s).drive.stage.DrivenAs d := by
  simp only [heaterRestart]
  split <;> simp [h]

@[simp] theorem cabinConvert_drivenAs (t : Int) : (cabinConvert t s).drive.stage.DrivenAs d := by
  rw [cabinConvert_eq]
  simp [inputChanged, h, convertedHeater]

/-! ## Loads and lamps -/

@[simp] theorem recomputeBudget_drivenAs : (recomputeBudget s).drive.stage.DrivenAs d :=
  reevaluate_drivenAs (by exact h) s

@[simp] theorem bandToTable_drivenAs : (bandToTable s).drive.stage.DrivenAs d :=
  reevaluate_drivenAs (by exact h) s

@[simp] theorem overdrawCheck_drivenAs (current : Int) : (overdrawCheck current s).drive.stage.DrivenAs d := by
  have hshed : ∀ t : State, t.drive.stage.DrivenAs d → (overdrawShed t).drive.stage.DrivenAs d := fun t ht => by
    unfold overdrawShed
    split <;> simp [ht]
  have hrelease : ∀ t : State, t.drive.stage.DrivenAs d → (releaseHolds t).drive.stage.DrivenAs d := fun t ht => by
    unfold releaseHolds
    split
    · exact reevaluateAlways_drivenAs (by exact ht) t
    · exact ht
  unfold overdrawCheck
  repeat' split
  · exact hshed _ h
  · exact h
  · exact hrelease _ h
  · exact h

@[simp] theorem enforcePumpGuard_drivenAs : (enforcePumpGuard s).drive.stage.DrivenAs d := by
  unfold enforcePumpGuard
  split <;> simp [h]

@[simp] theorem loadDemandOp_drivenAs (k : Origin) (channel level : Byte) :
    (loadDemandOp k channel level s).2.drive.stage.DrivenAs d := by
  simp only [loadDemandOp]
  repeat' split
  all_goals simp [h]

@[simp] theorem withdrawSilentHost_drivenAs : (withdrawSilentHost s).drive.stage.DrivenAs d := by
  simp [withdrawSilentHost, h]

@[simp] theorem lampsFollowCap_drivenAs : (lampsFollowCap s).drive.stage.DrivenAs d := by
  simp [lampsFollowCap, h]

@[simp] theorem lampsFollowDraw_drivenAs : (lampsFollowDraw s).drive.stage.DrivenAs d :=
  reevaluate_drivenAs (by exact h) s

@[simp] theorem lampsRetarget_drivenAs : (lampsRetarget s).drive.stage.DrivenAs d := by
  simp [lampsRetarget, h]

@[simp] theorem lampsDark_drivenAs : (lampsDark s).drive.stage.DrivenAs d := by
  simp [lampsDark, h]

@[simp] theorem fadeEndOp_drivenAs (i : Fin 6) : (fadeEndOp i s).drive.stage.DrivenAs d := by
  simp [fadeEndOp, h]

@[simp] theorem wallPress_drivenAs (i : Fin 6) : (wallPress i s).drive.stage.DrivenAs d := by
  simp only [wallPress]
  split <;> simp [h]

@[simp] theorem entryDoor_drivenAs (rising : Bool) : (entryDoor rising s).drive.stage.DrivenAs d := by
  unfold entryDoor
  repeat' split
  all_goals simp [h]

@[simp] theorem entryWithdraw_drivenAs : (entryWithdraw s).drive.stage.DrivenAs d := by
  unfold entryWithdraw
  split <;> simp [h]

@[simp] theorem sceneRecallOp_drivenAs (number : Byte) : (sceneRecallOp number s).2.drive.stage.DrivenAs d := by
  unfold sceneRecallOp
  split <;> simp [h]

@[simp] theorem sceneSelectEdge_drivenAs (rising : Bool) :
    (sceneSelectEdge rising s).drive.stage.DrivenAs d := by
  simp only [sceneSelectEdge]
  repeat' split
  all_goals simp [h]

/-! ## Motions -/

omit h in
@[simp] theorem releaseStage_drivenAs (s : State) : (releaseStage s).drive.stage.DrivenAs d :=
  reevaluate_drivenAs (by simp [DriveStage.idled]) s

omit h in
@[simp] theorem brakeAfter_drivenAs (m : Option StageMotion) (s : State) :
    (brakeAfter m s).drive.stage.DrivenAs d := by
  simp only [brakeAfter]
  split <;> simp

@[simp] theorem endMotion_drivenAs : (endMotion s).drive.stage.DrivenAs d := by
  unfold endMotion
  repeat' split
  · simp
  · exact brakeAfter_drivenAs _ s
  · exact h

@[simp] theorem completeOwner_drivenAs (r : MotionResult) : (completeOwner r s).drive.stage.DrivenAs d := by
  unfold completeOwner
  repeat' split
  all_goals simp [h]

omit h in
@[simp] theorem claim_drivenAs (o : Owner) (k : Origin) (s : State) : (claim o k s).drive.stage.DrivenAs d :=
  reevaluate_drivenAs (by simp) s

@[simp] theorem takeSlot_drivenAs (a : Actuator) (i : Fin 16) : (takeSlot a i s).drive.stage.DrivenAs d := by
  simp only [takeSlot]
  split <;> simp [h]

@[simp] theorem takeOverride_drivenAs (a : Actuator) : (takeOverride a s).drive.stage.DrivenAs d := by
  unfold takeOverride
  split <;> simp [h]

@[simp] theorem takeClaimant_drivenAs (o : Owner) : (takeClaimant o s).drive.stage.DrivenAs d := by
  unfold takeClaimant
  repeat' split
  all_goals simp [h]

@[simp] theorem arbitrateN_drivenAs (n : Nat) : (arbitrateN n s).drive.stage.DrivenAs d := by
  induction n generalizing s with
  | zero => exact h
  | succ n ih =>
    unfold arbitrateN
    repeat' split
    · exact h
    · exact ih (takeClaimant_drivenAs h _)
    · exact h

@[simp] theorem arbitrate_drivenAs : (arbitrate s).drive.stage.DrivenAs d := arbitrateN_drivenAs h _

@[simp] theorem postMotion_drivenAs (a : Actuator) (act : MoveAction) (target : Nat) (notify : Bool)
    (origin : MoveOrigin) : (postMotion a act target notify origin s).2.2.drive.stage.DrivenAs d := by
  simp only [postMotion]
  repeat' split
  all_goals simp [h]

@[simp] theorem postCodes_drivenAs (ring action : Byte) (target : Nat) (notify : Option Bool)
    (origin : MoveOrigin) : (postCodes ring action target notify origin s).2.2.drive.stage.DrivenAs d := by
  unfold postCodes
  split <;> simp [h]

@[simp] theorem switchPost_drivenAs (a : Actuator) (act : MoveAction) :
    (switchPost a act s).drive.stage.DrivenAs d := by
  simp [switchPost, h]

@[simp] theorem cancelSlot_drivenAs (i : Fin 16) : (cancelSlot i s).drive.stage.DrivenAs d := by
  unfold cancelSlot
  split <;> simp [h]

@[simp] theorem cancelOne_drivenAs (i : Fin 16) : (cancelOne i s).2.drive.stage.DrivenAs d := by
  unfold cancelOne
  split <;> simp [h]

@[simp] theorem cancelAll_drivenAs (a : Actuator) : (cancelAll a s).drive.stage.DrivenAs d :=
  arbitrate_drivenAs (foldl_keeps (fun t : State => t.drive.stage.DrivenAs d) _ _ _ h fun _ i ht => cancelSlot_drivenAs ht i)

@[simp] theorem raiseOverride_drivenAs (a : Actuator) (c : OverrideCause) :
    (raiseOverride a c s).drive.stage.DrivenAs d := by
  simp only [raiseOverride]
  repeat' split
  all_goals simp [h]

@[simp] theorem raiseIfOut_drivenAs (a : Actuator) : (raiseIfOut s a).drive.stage.DrivenAs d := by
  unfold raiseIfOut
  split <;> simp [h]

@[simp] theorem raiseAllOut_drivenAs : (raiseAllOut s).drive.stage.DrivenAs d := by
  simp [raiseAllOut, h]

@[simp] theorem raiseIfLeft_drivenAs (before : State) (a : Actuator) :
    (raiseIfLeft before s a).drive.stage.DrivenAs d := by
  unfold raiseIfLeft
  split <;> simp [h]

@[simp] theorem stowWatch_drivenAs (before : State) : (stowWatch before s).drive.stage.DrivenAs d := by
  simp [stowWatch, h]

@[simp] theorem testDestination_drivenAs : (testDestination s).drive.stage.DrivenAs d := by
  unfold testDestination
  repeat' split
  all_goals simp [h]

@[simp] theorem positionFollow_drivenAs (before : State) : (positionFollow before s).drive.stage.DrivenAs d :=
  arbitrate_drivenAs (stowWatch_drivenAs (testDestination_drivenAs h) before)

@[simp] theorem awningEdgeFollow_drivenAs (rising : Bool) (before : State) :
    (awningEdgeFollow rising before s).drive.stage.DrivenAs d := by
  unfold awningEdgeFollow
  split <;> simp [h]

omit h in
@[simp] theorem brakeEndOp_drivenAs (s : State) : (brakeEndOp s).drive.stage.DrivenAs d := by
  unfold brakeEndOp
  split
  · exact arbitrate_drivenAs (releaseStage_drivenAs s)
  · exact arbitrate_drivenAs (releaseStage_drivenAs s)

@[simp] theorem gapEndOp_drivenAs : (gapEndOp s).drive.stage.DrivenAs d := by
  simp only [gapEndOp]
  split
  · exact arbitrate_drivenAs (by simp [DriveStage.idled])
  · exact h

omit h in
/-- The motor's part of a millisecond leaves the stage as it is. -/
@[simp] theorem driveMotor_stage (x : MotorSample) (s : State) :
    (driveMotor x s).drive.stage = s.drive.stage := by
  unfold driveMotor
  split <;> simp

@[simp] theorem driveMs_drivenAs (x : MotorSample) : (driveMs x s).drive.stage.DrivenAs d :=
  arbitrate_drivenAs (stowWatch_drivenAs (by simpa [runTimers] using h) s)

@[simp] theorem emergencyStop_drivenAs : (emergencyStop s).drive.stage.DrivenAs d := by
  simp [emergencyStop, h]

@[simp] theorem ignitionAbort_drivenAs : (ignitionAbort s).drive.stage.DrivenAs d := by
  unfold ignitionAbort
  repeat' split
  all_goals simp [h]

@[simp] theorem stepPress_drivenAs : (stepPress s).drive.stage.DrivenAs d := by
  unfold stepPress
  split <;> simp [h]

@[simp] theorem doorStep_drivenAs (rising : Bool) : (doorStep rising s).drive.stage.DrivenAs d := by
  unfold doorStep
  split <;> simp [h]

@[simp] theorem windJudge_drivenAs (speed : Nat) : (windJudge speed s).drive.stage.DrivenAs d := by
  simp only [windJudge]
  repeat' split
  · exact raiseOverride_drivenAs (by exact h) _ _
  all_goals exact h

@[simp] theorem windowEndOp_drivenAs : (windowEndOp s).drive.stage.DrivenAs d := by
  unfold windowEndOp
  split <;> simp [h]

/-- A restart makes a driven stage brake (R136). -/
theorem driveRestart_drivenAs : (driveRestart s).drive.stage.DrivenAs d := by
  simp only [driveRestart]
  repeat' split
  · simp [DriveStage.idled]
  · exact brakeAfter_drivenAs _ _
  · exact h

@[simp] theorem presentBraking_drivenAs : (presentBraking s).drive.stage.DrivenAs d := by
  unfold presentBraking
  split <;> simp [h]

/-! ## Tanks -/

@[simp] theorem senderConvert_drivenAs (raw : Fin 3 → Nat) : (senderConvert raw s).drive.stage.DrivenAs d := by
  simp [senderConvert, h]

@[simp] theorem tankParamsFollow_drivenAs : (tankParamsFollow s).drive.stage.DrivenAs d := by
  simp [tankParamsFollow, h]

@[simp] theorem pumpEdge_drivenAs (rising : Bool) : (pumpEdge rising s).drive.stage.DrivenAs d := by
  unfold pumpEdge
  repeat' split
  all_goals simp [h]

@[simp] theorem pumpExpire_drivenAs : (pumpExpire s).drive.stage.DrivenAs d := by
  simp [pumpExpire, h]

@[simp] theorem syncPad_drivenAs (k : FrostTank) : (syncPad k s).drive.stage.DrivenAs d := by
  simp [syncPad, h]

@[simp] theorem syncHeaterFrost_drivenAs : (syncHeaterFrost s).drive.stage.DrivenAs d := by
  simp [syncHeaterFrost, h]

@[simp] theorem frostDemands_drivenAs (order : List HandOff) : (frostDemands order s).drive.stage.DrivenAs d := by
  unfold frostDemands
  refine inOrder_keeps (fun t => t.drive.stage.DrivenAs d) _ _ _ h fun a ha t ht => ?_
  simp only [List.mem_cons, List.not_mem_nil, or_false] at ha
  rcases ha with rfl | rfl | rfl <;> simp [ht]

@[simp] theorem frostFollow_drivenAs (before : State) (order : List HandOff) :
    (frostFollow before order s).drive.stage.DrivenAs d := by
  simp only [frostFollow]
  split <;> simp [h]

@[simp] theorem temperatureConvert_drivenAs (fresh grey : Int) (order : List HandOff) :
    (temperatureConvert fresh grey order s).drive.stage.DrivenAs d := by
  unfold temperatureConvert
  exact frostFollow_drivenAs (by exact h) s order

@[simp] theorem drainOpenOp_drivenAs (order : List HandOff) : (drainOpenOp order s).drive.stage.DrivenAs d := by
  unfold drainOpenOp
  split <;> simp [h]

@[simp] theorem drainCloseOp_drivenAs (order : List HandOff) : (drainCloseOp order s).drive.stage.DrivenAs d := by
  unfold drainCloseOp
  split
  · exact frostFollow_drivenAs (by exact h) s order
  · exact h

@[simp] theorem dangerOp_drivenAs (k : FrostTank) (order : List HandOff) :
    (dangerOp k order s).drive.stage.DrivenAs d := by
  unfold dangerOp
  split <;> simp [h]

@[simp] theorem autoDrainFollow_drivenAs (order : List HandOff) :
    (autoDrainFollow order s).drive.stage.DrivenAs d := by
  unfold autoDrainFollow
  split <;> simp [h]

/-! ## Meter and power states -/

@[simp] theorem meterHandOffs_drivenAs (c : Closed) (changed : Bool) (order : List HandOff) :
    (meterHandOffs c changed order s).drive.stage.DrivenAs d := by
  rw [meterHandOffs_eq]
  refine inOrder_keeps (fun t => t.drive.stage.DrivenAs d) order _ s h ?_
  exact mem_meterActs (P := fun f => ∀ t, t.drive.stage.DrivenAs d → (f t).drive.stage.DrivenAs d)
    (fun t ht => overdrawCheck_drivenAs ht _) fun _ => ⟨fun t ht => bandToTable_drivenAs ht,
      fun t ht => lampsFollowCap_drivenAs ht, fun t ht => bandToHeater_drivenAs ht, fun t ht => by simp [ht]⟩

@[simp] theorem closeInterval_drivenAs (t : Int) (order : List HandOff) (start : Tick) :
    (closeInterval t order start s).drive.stage.DrivenAs d := by
  simp only [closeInterval]
  split <;> simp [h]

@[simp] theorem becomeDormant_drivenAs (input : MeterInput) : (becomeDormant input s).drive.stage.DrivenAs d := by
  simp only [becomeDormant]
  exact closeInterval_drivenAs (by simp [h]) _ _ _

@[simp] theorem becomeActive_drivenAs (input : MeterInput) : (becomeActive input s).drive.stage.DrivenAs d := by
  unfold becomeActive
  refine inOrder_keeps (fun t => t.drive.stage.DrivenAs d) _ _ _ h fun a ha t ht => ?_
  simp only [List.mem_cons, List.not_mem_nil, or_false] at ha
  rcases ha with rfl | rfl | rfl <;> simp [ht]

@[simp] theorem enterEntering_drivenAs : (enterEntering s).drive.stage.DrivenAs d :=
  lampsDark_drivenAs h

@[simp] theorem slowStep_drivenAs (fastTime : Nat) (input : MeterInput) :
    (slowStep fastTime input s).drive.stage.DrivenAs d := by
  unfold slowStep
  repeat' split
  all_goals simp [h]

@[simp] theorem setTimeOp_drivenAs (new : Tick) (input : MeterInput) :
    (setTimeOp new input s).drive.stage.DrivenAs d := by
  simp [setTimeOp, h]

/-! ## Schedule -/

@[simp] theorem runAction_drivenAs (a : SchedAction) : (runAction a s).2.drive.stage.DrivenAs d := by
  cases a with
  | load | scene | move | note => simp [runAction, h]
  | heat mode => exact heatOp_drivenAs h (setSchedMode_drivenAs h) mode

@[simp] theorem fireEntry_drivenAs (i : Fin 16) : (fireEntry i s).drive.stage.DrivenAs d := by
  simp only [fireEntry]
  repeat' split
  all_goals simp [h]

@[simp] theorem fireAll_drivenAs : (fireAll s).drive.stage.DrivenAs d :=
  foldl_keeps (fun t => t.drive.stage.DrivenAs d) fireIfReached _ _ h fun t i ht => by
    unfold fireIfReached
    split <;> simp [ht]

@[simp] theorem timeSetOp_drivenAs (new : Tick) (input : MeterInput) :
    (timeSetOp new input s).drive.stage.DrivenAs d := by
  simp [timeSetOp, h]

@[simp] theorem schedWriteOp_drivenAs (i : Fin 16) (due : Tick) (period : Nat) (a : SchedAction)
    (notify : Bool) : (schedWriteOp i due period a notify s).drive.stage.DrivenAs d := by
  simp only [schedWriteOp]
  split <;> simp [h]

/-! ## Pins -/

@[simp] theorem ignitionEdge_drivenAs (rising : Bool) (order : List HandOff) :
    (ignitionEdge rising order s).drive.stage.DrivenAs d := by
  unfold ignitionEdge
  split
  · refine arbitrate_drivenAs (inOrder_keeps (fun t => t.drive.stage.DrivenAs d) _ _ _ h fun a ha t ht => ?_)
    simp only [List.mem_cons, List.not_mem_nil, or_false] at ha
    rcases ha with rfl | rfl | rfl <;> simp [ht]
  · simp [h]

@[simp] theorem doorEdge_drivenAs (rising : Bool) (order : List HandOff) :
    (doorEdge rising order s).drive.stage.DrivenAs d := by
  unfold doorEdge
  refine inOrder_keeps (fun t => t.drive.stage.DrivenAs d) _ _ _ h fun a ha t ht => ?_
  simp only [List.mem_cons, List.not_mem_nil, or_false] at ha
  rcases ha with rfl | rfl <;> simp [ht]

@[simp] theorem edgeAct_drivenAs (before : State) (e : InputEvent) (rising : Bool)
    (order : List HandOff) : (edgeAct before e rising order s).drive.stage.DrivenAs d := by
  unfold edgeAct
  repeat' split
  all_goals simp [h]

@[simp] theorem limitMapping_drivenAs (before : State) (e : InputEvent) :
    (limitMapping before e s).drive.stage.DrivenAs d := by
  unfold limitMapping
  split <;> simp [h]

@[simp] theorem mappingAct_drivenAs (before : State) (e : InputEvent) :
    (mappingAct before e s).drive.stage.DrivenAs d := by
  unfold mappingAct
  repeat' split
  all_goals simp [h]

@[simp] theorem formEvent_drivenAs (i : Fin 16) (e : InputEvent) (order : List HandOff)
    (before : State) : (formEvent i e order before s).drive.stage.DrivenAs d := by
  simp only [formEvent]
  repeat' split
  all_goals simp [h]

@[simp] theorem changeBinding_drivenAs (i : Fin 16) (b : PinBinding) (order : List HandOff) :
    (changeBinding i b order s).drive.stage.DrivenAs d := by
  unfold changeBinding
  split <;> simp [h]

@[simp] theorem joinOp_drivenAs (i : Fin 16) (samples : List Bool) (order : List HandOff) :
    (joinOp i samples order s).drive.stage.DrivenAs d := by
  unfold joinOp
  split <;> simp [h]

@[simp] theorem debounceOp_drivenAs (i : Fin 16) (samples : List Bool) (order : List HandOff) :
    (debounceOp i samples order s).drive.stage.DrivenAs d := by
  unfold debounceOp
  split <;> simp [h]

@[simp] theorem pulseOp_drivenAs (i : Fin 16) (level : Bool) : (pulseOp i level s).drive.stage.DrivenAs d := by
  simp [pulseOp, h]

@[simp] theorem releaseForm_drivenAs (i : Fin 16) (old : Pin) (order : List HandOff) (before : State) :
    (releaseForm i old order before s).drive.stage.DrivenAs d := by
  unfold releaseForm
  split <;> simp [h]

@[simp] theorem pinMapOp_drivenAs (i : Fin 16) (new : Pin) (level : Bool) (order : List HandOff) :
    (pinMapOp i new level order s).drive.stage.DrivenAs d := by
  simp only [pinMapOp]
  repeat' split
  all_goals simp [h]

/-! ## Parameters, flags and the restart -/

@[simp] theorem entryChannelWrite_drivenAs : (entryChannelWrite s).drive.stage.DrivenAs d := by
  unfold entryChannelWrite
  split <;> simp [h]

@[simp] theorem paramFollow_drivenAs (id : Nat) (order : List HandOff) (before : State) :
    (paramFollow id order before s).drive.stage.DrivenAs d := by
  refine paramFollow_cases (fun t => t.drive.stage.DrivenAs d) id order before s ?_ ?_ ?_ ?_ ?_ ?_ ?_ (fun i => ?_)
    ?_ ?_ ?_ (fun a => ?_) ?_ ?_ ?_ <;> simp [h]

@[simp] theorem writeParam_drivenAs (id : Nat) (v : Int) (order : List HandOff) :
    (writeParam id v order s).2.drive.stage.DrivenAs d := by
  simp only [writeParam]
  split
  · have hold : (if id = 54 then entryChannelWrite s else s).drive.stage.DrivenAs d := by
      split <;> simp [h]
    generalize (if id = 54 then entryChannelWrite s else s) = u at hold ⊢
    simpa using paramFollow_drivenAs (s := u.setParams (u.params.put id v)) hold id order u
  · exact h

@[simp] theorem writeParams_drivenAs (order : List HandOff) (ps : List (Nat × Int)) :
    (writeParams order ps s).2.drive.stage.DrivenAs d := by
  induction ps generalizing s with
  | nil => exact h
  | cons a ps ih => exact ih (writeParam_drivenAs h _ _ _)

@[simp] theorem ownerClear_drivenAs (f : Flag) : (ownerClear f s).drive.stage.DrivenAs d := by
  unfold ownerClear
  split <;> simp [h]

@[simp] theorem clearNamed_drivenAs (f : Flag) : (clearNamed s f).drive.stage.DrivenAs d := by
  unfold clearNamed
  repeat' split
  all_goals simp [h]

@[simp] theorem flagClearOp_drivenAs (numbers : List Byte) :
    (flagClearOp numbers s).2.drive.stage.DrivenAs d := by
  unfold flagClearOp
  split
  · exact foldl_keeps (fun t => t.drive.stage.DrivenAs d) clearNamed _ _ h fun _ f ht => clearNamed_drivenAs ht f
  · exact h

@[simp] theorem presentAll_drivenAs (order : List HandOff) : (presentAll order s).drive.stage.DrivenAs d := by
  unfold presentAll
  refine inOrder_keeps (fun t => t.drive.stage.DrivenAs d) _ _ _ h fun a ha t ht => ?_
  simp only [List.mem_cons, List.not_mem_nil, or_false] at ha
  rcases ha with rfl | rfl | rfl <;> simp [tanksRestart, ht]

@[simp] theorem restartOverrides_drivenAs : (restartOverrides s).drive.stage.DrivenAs d := by
  unfold restartOverrides
  split <;> simp [h]

@[simp] theorem restartOp_drivenAs (order : List HandOff) : (restartOp order s).drive.stage.DrivenAs d := by
  have hcleared : (restartCleared s).drive.stage.DrivenAs d := by
    simpa [restartCleared] using driveRestart_drivenAs (s := lampsRestart (tableRestart (linkRestart s)))
      (by simpa using h)
  have hpresented := presentAll_drivenAs hcleared order
  rw [restartOp_eq]
  exact arbitrate_drivenAs (restartOverrides_drivenAs (by simp [hpresented]))

end

/-! ## Every command (R115, R127) -/

section
variable {s t : State} {d : StageState}

theorem perform_drivenAs {e : Bool} {u : State} (h : perform s e u = .next t)
    (hs : s.drive.stage.DrivenAs d) (hu : u.drive.stage.DrivenAs d) : t.drive.stage.DrivenAs d := by
  rcases perform_cases h with h | h
  · rwa [h]
  · simpa [h] using hu

theorem takeRequest_drivenAs {kind : Nat} {tag : Byte} {p : List Byte} {act : State → List Byte × State}
    (h : takeRequest kind tag p act s = .next t) (hs : s.drive.stage.DrivenAs d)
    (hact : (act s).2.drive.stage.DrivenAs d) : t.drive.stage.DrivenAs d := by
  refine perform_drivenAs h hs ?_
  split
  · simpa using hact
  · simpa using hs

theorem receiveFrame_drive (bytes : List Byte) (s : State) :
    ((receiveFrame bytes s).getD s).drive = s.drive := by
  unfold receiveFrame
  split <;> simp

theorem discardFrame_drive (bytes : List Byte) (framing : Bool) (s : State) :
    ((discardFrame bytes framing s).getD s).drive = s.drive := by
  unfold discardFrame
  repeat' split
  all_goals simp

/-- Only the end of the settle time, of a retry wait, and a stall drive the motor. -/
theorem exec_drivenAs {c : Instr} (h : exec c s = .next t) (hsettle : c ≠ .settleEnd)
    (hretry : c ≠ .retryWaitEnd) (hstall : c ≠ .motorStall) (hs : s.drive.stage.DrivenAs d) :
    t.drive.stage.DrivenAs d := by
  cases c with
  | settleEnd => exact absurd rfl hsettle
  | retryWaitEnd => exact absurd rfl hretry
  | motorStall => exact absurd rfl hstall
  | powerOnReset =>
    simp only [exec, execPowerOnReset] at h
    cases h
    exact drivenAs_idle d
  | summary | paramWrite | paramRead | loadDemand | loadQuery | moveQuery | movePost | schedRead
  | pinRead | tankQuery | meterQuery | timeQuery | sceneRecall | sceneStore | flagClear | drainOpen
  | accountFull | restart | hold =>
    simp only [exec, execSummary, execParamWrite, execParamRead, execLoadDemand, execLoadQuery,
      execMoveQuery, execMovePost, execSchedRead, execPinRead, execTankQuery, execMeterQuery,
      execTimeQuery, execSceneRecall, execSceneStore, execFlagClear, execDrainOpen, execAccountFull,
      execRestart, execHold] at h
    exact takeRequest_drivenAs h hs (by simp [hs])
  | heatMode tag p =>
    simp only [exec, execHeatMode] at h
    exact takeRequest_drivenAs h hs (heatOp_drivenAs hs (setHostMode_drivenAs hs) _)
  | moveCancel | schedWrite | schedFree | pinMap | drainClose | recalibrate | dormant | accountSet =>
    simp only [exec, execMoveCancel, execSchedWrite, execSchedFree, execPinMap, execDrainClose,
      execRecalibrate, execDormant, execAccountSet] at h
    refine takeRequest_drivenAs h hs ?_
    repeat' split
    all_goals simp [hs]
  | noticeMask tag p =>
    simp only [exec, execNoticeMask] at h
    refine takeRequest_drivenAs h hs ?_
    split
    · next u hu =>
      simp only [noticeMaskOp] at hu
      split at hu
      · cases hu; simp [hs]
      · cases hu
    · exact hs
  | timeSet tag p input =>
    simp only [exec, execTimeSet] at h
    split at h
    · exact takeRequest_drivenAs h hs (by simp [hs])
    · cases h
  | noticeBegin =>
    simp only [exec, execNoticeBegin] at h
    split at h
    · exact perform_drivenAs h hs hs
    · exact perform_drivenAs h hs (by simp [hs])
  | validFrame bytes => exact perform_drivenAs h hs (receiveFrame_drive bytes s ▸ hs)
  | frameDiscard bytes framing => exact perform_drivenAs h hs (discardFrame_drive bytes framing s ▸ hs)
  | deviceTimeAdvance edge input =>
    simp only [exec, execDeviceTimeAdvance] at h
    split at h
    · split at h
      · exact perform_drivenAs h hs (by simp [hs])
      · exact perform_drivenAs h hs (slowStep_drivenAs hs _ input)
    · cases h
  | intervalEnd | cabinConversion | senderConversion | temperatureConversion | dormantEntry
  | leavingToActive =>
    simp only [exec, execIntervalEnd, execCabinConversion, execSenderConversion,
      execTemperatureConversion, execDormantEntry, execLeavingToActive] at h
    split at h
    · exact perform_drivenAs h hs (by simp [hs])
    · cases h
  | backoffEnd => exact perform_drivenAs h hs (drivenAs_retryWait d)
  | idleDue => exact perform_drivenAs h hs (enterEntering_drivenAs (by exact hs))
  | hostSilence => exact perform_drivenAs h hs (withdrawSilentHost_drivenAs (by exact hs))
  | startByte | receiveTimeout | transmitEnd | restartPerform | holdEnd | fadeEnd | entryHoldEnd | glowEnd
  | purgeEnd | dangerDue | pumpRunExpiry | grantWaitExpiry
  | motionTimeout | destinationReached | brakeHoldEnd | gapTimerEnd | driveMillisecond | windWindowEnd
  | windPulse | pinJoin | debounceComplete | scheduleFire | calibrationEnd | calibrationNoSteps
  | unknownKindRequest =>
    exact perform_drivenAs h hs (by simp [hs])

/-- The end of the settle time drives the motor, in WAKING alone (R115). -/
theorem exec_settleEnd_stage (h : exec .settleEnd s = .next t) :
    t = s ∨ (s.drive.stage = .waking ∧ t.drive.stage = .running) := by
  by_cases hs : s.drive.stage = .waking
  · simp only [exec, execSettleEnd, perform_eq, hs, decide_true] at h
    exact .inr ⟨hs, by simp [← Host.Outcome.next.inj h, enterRunning]⟩
  · exact .inl (by simpa [exec, execSettleEnd, perform, hs, eq_comm] using h)

/-- The end of a retry wait drives the motor, in RETRY_WAIT alone (R127). -/
theorem exec_retryWaitEnd_stage (h : exec .retryWaitEnd s = .next t) :
    t = s ∨ (s.drive.stage = .retryWait ∧ t.drive.stage = .running) := by
  by_cases hs : s.drive.stage = .retryWait
  · simp only [exec, execRetryWaitEnd, perform_eq, hs, decide_true] at h
    exact .inr ⟨hs, by simp [← Host.Outcome.next.inj h, enterRunning]⟩
  · exact .inl (by simpa [exec, execRetryWaitEnd, perform, hs, eq_comm] using h)

/-- A stall acts in RUNNING alone (R126). -/
theorem exec_motorStall_stage (h : exec .motorStall s = .next t) : t = s ∨ s.drive.stage = .running := by
  by_cases hs : s.drive.stage = .running
  · exact .inr hs
  · exact .inl (by simpa [exec, execMotorStall, perform, stalled, hs, eq_comm] using h)

/-- Settles O12: a command other than the three that act in WAKING, RETRY_WAIT and RUNNING leaves a driven
stage as it is, or stops it. -/
theorem runningIsEnteredFromWakingOrRetryWait : Obligations.RunningIsEnteredFromWakingOrRetryWait := by
  intro s t c h
  by_cases hsettle : c = .settleEnd
  · subst hsettle
    rcases exec_settleEnd_stage h with rfl | ⟨hs, ht⟩ <;> simp_all
  by_cases hretry : c = .retryWaitEnd
  · subst hretry
    rcases exec_retryWaitEnd_stage h with rfl | ⟨hs, ht⟩ <;> simp_all
  by_cases hstall : c = .motorStall
  · subst hstall
    rcases exec_motorStall_stage h with rfl | hs <;> simp_all
  have hdriven : t.drive.stage.DrivenAs s.drive.stage :=
    exec_drivenAs h hsettle hretry hstall fun _ => rfl
  exact ⟨fun ht => .inl (ht ▸ hdriven (.inl ht)).symm, fun ht => .inl (ht ▸ hdriven (.inr ht)).symm⟩

end

end Sys2Proof.Machine
end

section
/-! PROOFS. The payload of a MOVE_POST and its refusals (R122, R217). -/

namespace Sys2Proof.Machine

/-! ## The payload -/

theorem beNat_u16 (n : Fin 65536) : beNat (u16 n.val) = n.val := by
  have hn := n.isLt
  simp only [u16, u8, List.cons_append, List.nil_append, beNat, List.foldl_cons, List.foldl_nil,
    BitVec.toNat_ofNat]
  omega

theorem parseFlag_flag8 (b : Bool) : parseFlag (BitVec.ofNat 8 (if b then 1 else 0)) = some b := by
  cases b <;> rfl

section
variable {s t : State} {tag ring action notify : Byte} {target : Fin 65536} {r : Result}
  {i : Option (Fin 16)} {u : State}

/-- MOVE_POST reads its payload byte by byte (R217). -/
theorem execMovePost_eq
    (hr : RequestAt 7 tag (ring :: action :: (u16 target.val ++ [notify])) s)
    (hpost : postCodes ring action target.val (parseFlag notify) .host s = (r, i, u)) :
    exec (.movePost tag (ring :: action :: (u16 target.val ++ [notify]))) s =
      .next (settle s (answer (BitVec.ofNat 8 7) tag (movePostReply r ring i) u)) := by
  simp only [exec, execMovePost]
  refine takeRequest_eq hr rfl ?_
  have htarget : bytesAt (ring :: action :: (u16 target.val ++ [notify])) 2 2 = u16 target.val := rfl
  have hnotify : byteAt (ring :: action :: (u16 target.val ++ [notify])) 4 = notify := rfl
  simp only [htarget, hnotify, beNat_u16]
  simp only [byteAt, List.getD_cons_zero, List.getD_cons_succ, hpost]

/-- A post that is not made is answered with its result, the ring and no slot. -/
theorem execMovePost_refused (hs : Settled s)
    (hr : RequestAt 7 tag (ring :: action :: (u16 target.val ++ [notify])) s)
    (hpost : postCodes ring action target.val (parseFlag notify) .host s = (r, none, s)) :
    exec (.movePost tag (ring :: action :: (u16 target.val ++ [notify]))) s =
      .next (answered 7 tag [BitVec.ofNat 8 r.code, ring, 255#8] s) := by
  rw [execMovePost_eq hr hpost, answer_eq_answered _ _ _ _ (not_dormant_of_requestAt hr)]
  exact congrArg _ (settle_eq_of_settled (settled_answered hs _ _ _) fun f hf => by
    rwa [conditionHolds_answered] at hf)

end

/-! ## The codes -/

section
variable {ring action notify : Byte}

theorem actuator_of_known (h : ring.toNat ≤ 1) : ∃ a : Actuator, ring.toNat = a.code := by
  rcases (by omega : ring.toNat = 0 ∨ ring.toNat = 1) with h | h
  · exact ⟨.step, h⟩
  · exact ⟨.awning, h⟩

theorem moveAction_of_known (h : action.toNat ≤ 2) : ∃ m : MoveAction, action.toNat = m.code := by
  rcases (by omega : action.toNat = 0 ∨ action.toNat = 1 ∨ action.toNat = 2) with h | h | h
  · exact ⟨.extend, h⟩
  · exact ⟨.retract, h⟩
  · exact ⟨.moveTo, h⟩

theorem parseFlag_of_known (h : notify.toNat ≤ 1) : ∃ b, parseFlag notify = some b := by
  rcases (by omega : notify.toNat = 0 ∨ notify.toNat = 1) with h | h <;> simp [parseFlag, h]

/-- A notify byte that is neither 0 nor 1 refuses the post (R122). -/
theorem parseFlag_of_unknown (h : 1 < notify.toNat) : parseFlag notify = none := by
  unfold parseFlag
  rw [if_neg (by omega), if_neg (by omega)]

theorem Actuator.code_injective {a b : Actuator} (h : a.code = b.code) : a = b := by
  cases a <;> cases b <;> simp_all [Actuator.code]

/-- The target of known codes, as the obligation words it (R122). -/
theorem targetFits_of_codes {a : Actuator} {m : MoveAction} {target : Nat} (ha : ring.toNat = a.code)
    (hm : action.toNat = m.code)
    (h : action.toNat = 2 → ring.toNat = 1 ∧ target ≤ 1000) : TargetFits a m target := by
  rintro rfl
  obtain ⟨hring, htarget⟩ := h hm
  exact ⟨Actuator.code_injective (b := .awning) (ha.symm.trans hring), htarget⟩

end

/-- Settles O45: a code or a target that is not known answers RANGE; known ones meet ESTOP, then a full
ring. -/
theorem movePostRefusals : Obligations.MovePostRefusals := by
  intro s tag ring action notify target a p i known hr hs
  have hposted : known → ∃ b m n, ring.toNat = Actuator.code b ∧ TargetFits b m target.val ∧
      postCodes ring action target.val (parseFlag notify) .host s =
        postMotion b m target.val n .host s := fun hknown => by
    obtain ⟨hring, haction, hnotify, htarget⟩ := hknown
    obtain ⟨b, hb⟩ := actuator_of_known hring
    obtain ⟨m, hm⟩ := moveAction_of_known haction
    obtain ⟨n, hn⟩ := parseFlag_of_known hnotify
    exact ⟨b, m, n, hb, targetFits_of_codes hb hm htarget, by rw [hn, postCodes_known hb hm]⟩
  refine ⟨fun hunknown => ?range, fun hknown he => ?estop, fun hknown he ha hheld => ?full⟩
  case range =>
    refine execMovePost_refused (r := .range) hs hr ?_
    rcases Nat.lt_or_ge 1 notify.toNat with hn | hn
    · unfold postCodes
      rw [parseFlag_of_unknown hn]
      split <;> simp_all
    · obtain ⟨n, hn'⟩ := parseFlag_of_known hn
      rw [hn']
      refine postCodes_range ?_
      by_contra hrange
      refine hunknown ⟨?_, ?_, hn, fun h2 => ?_⟩ <;> omega
  case estop =>
    obtain ⟨b, m, n, -, hfit, hpost⟩ := hposted hknown
    exact execMovePost_refused (r := .estop) hs hr (hpost.trans (postMotion_estop hfit he))
  case full =>
    obtain ⟨b, m, n, hb, hfit, hpost⟩ := hposted hknown
    obtain rfl : b = a := Actuator.code_injective (hb.symm.trans ha)
    refine execMovePost_refused (r := .full) hs hr (hpost.trans (postMotion_full hfit he ?_))
    rintro ⟨-, hfree⟩
    rcases hheld with hx | hx <;> simp [i, hx] at hfree

end Sys2Proof.Machine
end

section
/-! PROOFS. The completion of a motion (R114, R116, R129): what it leaves in the slot or the override, in the
flags and in the stage. -/

namespace Sys2Proof.Machine

/-! ## The slot and the override that end -/

/-- A slot whose motion has ended. -/
def Slot.ended (x : Slot) (r : MotionResult) : Slot := { x with state := .complete, result := some r }

/-- An override slot whose motion has ended. -/
def OverrideSlot.ended (x : OverrideSlot) (r : MotionResult) : OverrideSlot :=
  { x with state := .none, cause := none, lastResult := some r }

/-- The flag of a result (R129). -/
def resultFlag (r : MotionResult) : Flag := if r.isDone then .moveDone else .moveFailed

theorem overrideOf_of_motion {s t : State} (h : t.motion = s.motion) (a : Actuator) :
    overrideOf t a = overrideOf s a := by
  unfold overrideOf
  rw [h]

theorem overrideOf_setOverride (s : State) (a b : Actuator) (x : OverrideSlot) :
    overrideOf (setOverride s a x) b = if a = b then x else overrideOf s b := by
  cases a <;> cases b <;> rfl

section
variable (s : State) (o : Owner) (r : MotionResult)

theorem flagResult_motion : (flagResult r s).motion = s.motion := by simp

theorem flagBits_flagResult (f : Flag) :
    flagBits (flagResult r s) f = if resultFlag r = f then ⟨true, true⟩ else flagBits s f :=
  flagBits_raiseFlag s _ f

theorem slotAt_finishMotion (j : Fin 16) :
    slotAt (finishMotion o r s) j = if o.motion = .slot j then (slotAt s j).ended r else slotAt s j := by
  obtain ⟨a, m⟩ := o
  cases m with
  | slot i =>
    have hend : slotAt (setSlot s i ((slotAt s i).ended r)) j =
        if Motion.slot i = .slot j then (slotAt s j).ended r else slotAt s j := by
      rw [slotAt_setSlot]
      by_cases hij : i = j <;> simp [hij]
    rw [← hend]
    simp only [finishMotion, Slot.ended]
    split
    · exact slotAt_of_motion (by simp) j
    · rfl
  | override => exact slotAt_of_motion (by simp [finishMotion]) j

theorem overrideOf_finishMotion (b : Actuator) :
    overrideOf (finishMotion o r s) b =
      if o.motion = .override ∧ o.actuator = b then (overrideOf s b).ended r else overrideOf s b := by
  obtain ⟨a, m⟩ := o
  cases m with
  | slot i =>
    have hmotion : ∀ x, overrideOf (setSlot s i x) b = overrideOf s b := fun x => by cases b <;> rfl
    simp only [finishMotion]
    split
    · simpa using (overrideOf_of_motion (flagResult_motion _ r) b).trans (hmotion _)
    · simpa using hmotion _
  | override =>
    refine (overrideOf_of_motion (flagResult_motion _ r) b).trans ((overrideOf_setOverride s a b _).trans ?_)
    by_cases hab : a = b <;> simp [hab, OverrideSlot.ended]

theorem finishMotion_flags : FlagsKeptBut [resultFlag r] s (finishMotion o r s) := fun f hf => by
  have hother : ¬ resultFlag r = f := fun h => hf (by simp [h])
  have hraise : ∀ u : State, u.link.flags = s.link.flags → flagBits (flagResult r u) f = flagBits s f :=
    fun u hu => by rw [flagBits_flagResult, if_neg hother, flagBits_of_flags hu]
  simp only [finishMotion]
  repeat' split
  · exact hraise _ (by simp)
  · exact flagBits_of_flags (by simp) f
  · exact hraise _ (by simp)

theorem finishMotion_motionEnded : MotionEnded o r s (finishMotion o r s) := by
  refine ⟨fun i hi => ?_, fun ho => ?_⟩
  · rw [SlotEnded, slotAt_finishMotion, if_pos hi]
    simp [Slot.ended]
  · rw [overrideOf_finishMotion, if_pos ⟨ho, rfl⟩]
    rfl

end

theorem finishMotion_notified {s : State} {i : Fin 16} (h : (slotAt s i).notify = true) (a : Actuator)
    (r : MotionResult) : flagBits (finishMotion ⟨a, .slot i⟩ r s) (resultFlag r) = ⟨true, true⟩ := by
  simp only [finishMotion, h, if_true]
  rw [flagBits_flagResult, if_pos rfl]

theorem slotEnded_of_eq {s t : State} {i : Fin 16} {r : MotionResult}
    (h : slotAt t i = (slotAt s i).ended r) : SlotEnded i r s t := by
  rw [SlotEnded, h]
  simp [Slot.ended]

/-- The motions hold what has ended. -/
theorem MotionEnded.of_motion {o : Owner} {r : MotionResult} {s t u : State} (h : MotionEnded o r s u)
    (hm : t.motion = u.motion) : MotionEnded o r s t := by
  obtain ⟨hslot, hoverride⟩ := h
  refine ⟨fun i hi => ?_, fun ho => (overrideOf_of_motion hm _).trans (hoverride ho)⟩
  have hsame : slotAt t i = slotAt u i := slotAt_of_motion (by rw [hm]) i
  simpa only [SlotEnded, hsame] using hslot i hi

/-! ## The owner's motion -/

section
variable (s : State) (o p : Owner) (r : MotionResult)

theorem ownerAction_finishMotion : ownerAction (finishMotion o r s) p = ownerAction s p := by
  obtain ⟨b, m⟩ := p
  cases m with
  | slot j =>
    have h := slotAt_finishMotion s o r j
    simp only [ownerAction]
    exact (congrArg Slot.action h).trans (by split <;> rfl)
  | override => rfl

theorem ownerRetries_finishMotion : ownerRetries (finishMotion o r s) p = ownerRetries s p := by
  obtain ⟨b, m⟩ := p
  cases m with
  | slot j =>
    have h := slotAt_finishMotion s o r j
    simp only [ownerRetries]
    exact (congrArg Slot.retries h).trans (by split <;> rfl)
  | override =>
    have h := overrideOf_finishMotion s o r b
    simp only [ownerRetries]
    exact (congrArg OverrideSlot.retries h).trans (by split <;> rfl)

theorem ownerRunTime_finishMotion : ownerRunTime (finishMotion o r s) p = ownerRunTime s p := by
  obtain ⟨b, m⟩ := p
  cases m with
  | slot j =>
    have h := slotAt_finishMotion s o r j
    simp only [ownerRunTime]
    exact (congrArg Slot.runTime h).trans (by split <;> rfl)
  | override =>
    have h := overrideOf_finishMotion s o r b
    simp only [ownerRunTime]
    exact (congrArg OverrideSlot.runTime h).trans (by split <;> rfl)

end

/-! ## The stage at the end of a motion (R114, R116) -/

section
variable {s : State} {o : Owner}

theorem holdsStage_of_afterWaking {x : StageState} (h : afterWaking x = true) : holdsStage x = true := by
  cases x <;> simp_all [afterWaking, holdsStage]

/-- In CLAIMED, or after WAKING has been entered. -/
theorem holdsStage_cases {x : StageState} (h : holdsStage x = true) : x = .claimed ∨ afterWaking x = true := by
  cases x <;> simp_all [afterWaking, holdsStage]

theorem completeOwner_released (h : holdsStage s.drive.stage = false) (r : MotionResult) :
    completeOwner r s = s := by
  unfold completeOwner
  split
  · rfl
  · rw [h]; rfl

theorem completeOwner_held (ho : s.drive.owner = some o) (h : holdsStage s.drive.stage = true)
    (r : MotionResult) : completeOwner r s = endMotion (finishMotion o r s) := by
  simp only [completeOwner, ho, h, if_true]

/-- In CLAIMED the stage is released (R114). -/
theorem completeOwner_claimed (ho : s.drive.owner = some o) (h : s.drive.stage = .claimed)
    (r : MotionResult) : completeOwner r s = releaseStage (finishMotion o r s) := by
  have hstage : (finishMotion o r s).drive.stage = .claimed := by simp [h]
  rw [completeOwner_held ho (by rw [h]; rfl), endMotion, if_pos hstage]

/-- After WAKING the stage brakes, and a step motion loses its homing count (R116, R142). -/
theorem completeOwner_afterWaking (ho : s.drive.owner = some o) (h : afterWaking s.drive.stage = true)
    (r : MotionResult) :
    completeOwner r s =
      ((finishMotion o r s).setDrive (brakingFrom o s)).setAct
        { s.act with homing := if o.actuator = .step then none else s.act.homing } := by
  have hframe := finishMotion_frame o r s
  have hholds := holdsStage_of_afterWaking h
  have hunclaimed : s.drive.stage ≠ .claimed := fun hc => by simp [hc, afterWaking] at h
  have hbraked : motionInProgress (finishMotion o r s) =
      some ⟨ownerAction s o, ownerRetries s o, ownerRunTime s o⟩ := by
    simp [motionInProgress, hholds, ho, ownerAction_finishMotion, ownerRetries_finishMotion,
      ownerRunTime_finishMotion]
  rw [completeOwner_held ho hholds, endMotion]
  simp only [hframe, hunclaimed, h, if_false, if_true, brake, hbraked, brakeAfter, ho, Option.any_some,
    decide_eq_true_eq, brakingFrom]
  split <;> simp only [State.setAct, State.setDrive, hframe]

theorem completeOwner_motion (ho : s.drive.owner = some o) (h : holdsStage s.drive.stage = true)
    (r : MotionResult) : (completeOwner r s).motion = (finishMotion o r s).motion := by
  rw [completeOwner_held ho h, endMotion]
  split
  · simp
  · split <;> simp

theorem completeOwner_motionEnded (ho : s.drive.owner = some o) (h : holdsStage s.drive.stage = true)
    (r : MotionResult) : MotionEnded o r s (completeOwner r s) :=
  (finishMotion_motionEnded s o r).of_motion (completeOwner_motion ho h r)

theorem slotAt_completeOwner_other {j : Fin 16} (h : ∀ p, s.drive.owner = some p → p.motion ≠ .slot j)
    (r : MotionResult) : slotAt (completeOwner r s) j = slotAt s j := by
  cases hholds : holdsStage s.drive.stage with
  | false => rw [completeOwner_released hholds]
  | true =>
    cases ho : s.drive.owner with
    | none => rw [completeOwner, ho]
    | some p =>
      have hslots := congrArg MotionTable.slots (completeOwner_motion ho hholds r)
      exact (slotAt_of_motion hslots j).trans (by rw [slotAt_finishMotion, if_neg (h p ho)])

theorem overrideOf_completeOwner_other {b : Actuator}
    (h : ∀ p, s.drive.owner = some p → ¬ (p.motion = .override ∧ p.actuator = b)) (r : MotionResult) :
    overrideOf (completeOwner r s) b = overrideOf s b := by
  cases hholds : holdsStage s.drive.stage with
  | false => rw [completeOwner_released hholds]
  | true =>
    cases ho : s.drive.owner with
    | none => rw [completeOwner, ho]
    | some p =>
      rw [overrideOf_of_motion (completeOwner_motion ho hholds r), overrideOf_finishMotion, if_neg (h p ho)]

end

/-! ## The release of the stage (R114, R116) -/

section
variable (s : State)

theorem releaseStage_drive : (releaseStage s).drive = s.drive.idled :=
  (reevaluate_stageMoves _ s).kept (by simp [DriveStage.idled])

theorem releaseStage_origins (ch : Channel) :
    origins (releaseStage s) ch = if chDrive = ch then OriginSet.empty else origins s ch := by
  have h := (reevaluate_same s ((setOrigins s chDrive .empty).setDrive s.drive.idled)).get ch
  exact h.trans (origins_setOrigins s chDrive ch .empty)

theorem releaseStage_acted : Acted s (releaseStage s) :=
  .trans (.of_eq (by simp) (by simp) (by simp)) (reevaluate_acted _ _)

theorem releaseStage_arbiterKeeps : ArbiterKeeps s (releaseStage s) :=
  ⟨fun ch hch => by rw [releaseStage_origins, if_neg fun h => hch (by simp [h])], by simp, by simp,
    by simp [State.now]⟩

theorem endMotion_acted : Acted s (endMotion s) := by
  unfold endMotion
  repeat' split
  · exact releaseStage_acted s
  · exact .of_eq (by simp) (by simp) (by simp)
  · exact .refl s

theorem endMotion_arbiterKeeps : ArbiterKeeps s (endMotion s) := by
  unfold endMotion
  repeat' split
  · exact releaseStage_arbiterKeeps s
  · exact .of_table (by simp) (by simp) (by simp) (by simp [State.now])
  · exact .refl s

theorem completeOwner_acted (r : MotionResult) : Acted s (completeOwner r s) := by
  unfold completeOwner
  repeat' split
  · exact .refl s
  · exact (finishMotion_acted s _ r).trans (endMotion_acted _)
  · exact .refl s

theorem completeOwner_arbiterKeeps (r : MotionResult) : ArbiterKeeps s (completeOwner r s) := by
  unfold completeOwner
  repeat' split
  · exact .refl s
  · exact (finishMotion_arbiterKeeps s _ r).trans (endMotion_arbiterKeeps _)
  · exact .refl s

end

end Sys2Proof.Machine
end

section
/-! PROOFS. The arbiter (R114, R118, R124): when it does not act, whom it takes, what it leaves alone, and the
override that it takes is granted at once. -/

namespace Sys2Proof.Machine

/-! ## When the arbiter does not act (R118) -/

section
variable {s : State}

theorem arbitrateN_of_busy (n : Nat) (h : s.drive.stage ≠ .idle) : arbitrateN n s = s := by
  cases n <;> simp [arbitrateN, h]

theorem arbitrate_of_busy (h : s.drive.stage ≠ .idle) : arbitrate s = s := arbitrateN_of_busy _ h

theorem arbitrate_of_inactive (h : s.time.power ≠ .active) : arbitrate s = s := by
  simp [arbitrate, arbitrateN, h]

theorem arbitrate_of_unclaimed (h : chosen s = none) : arbitrate s = s := by
  simp [arbitrate, arbitrateN, h]

/-- The arbiter takes the claimant that it chooses, and then chooses again. -/
theorem arbitrate_of_chosen {c : Owner} (hidle : s.drive.stage = .idle) (hactive : s.time.power = .active)
    (hc : chosen s = some c) : arbitrate s = arbitrateN 18 (takeClaimant c s) := by
  simp [arbitrate, arbitrateN, hidle, hactive, hc]

end

/-! ## The claimant chosen (R118) -/

section
variable {s : State} {a : Actuator} {i : Fin 16}

/-- A claimant waits: its slot is READY, or its override RAISED. -/
def Claims (c : Owner) (s : State) : Prop :=
  match c.motion with
  | .slot i => (slotAt s i).state = .ready
  | .override => (overrideOf s c.actuator).state = .raised

theorem readyHead_ready (h : readyHead s a = some i) : (slotAt s i).state = .ready := by
  unfold readyHead at h
  simpa using (Option.filter_eq_some_iff.mp h).2

theorem chosen_claims {c : Owner} (h : chosen s = some c) : Claims c s := by
  unfold chosen at h
  split at h
  · next hstep => cases h; exact hstep
  split at h
  · next hawning => cases h; exact hawning
  split at h
  · next hi => cases h; exact readyHead_ready hi
  · next hi => cases h; exact readyHead_ready hi
  · cases h

/-- The choice depends on the motions, the geometry of the rings and the last served one. -/
theorem chosen_congr {t : State} (hm : t.motion = s.motion) (hq : t.params = s.params)
    (hl : t.drive.lastServed = s.drive.lastServed) : chosen t = chosen s := by
  have hend : ∀ b, ringEnd t b = ringEnd s b := fun b => by cases b <;> simp [ringEnd, hq]
  have hfirst : ∀ b, ringFirst t b = ringFirst s b := fun b => by cases b <;> simp [ringFirst, hq]
  have hnext : ∀ b, nextSlot t b = nextSlot s b := fun b => by
    funext j
    simp only [nextSlot, hend, hfirst]
  have hslots : ∀ b n j, slotsFrom t b n j = slotsFrom s b n j := fun b n => by
    induction n with
    | zero => exact fun _ => rfl
    | succ n ih => exact fun j => by simp only [slotsFrom, ih, hnext]
  have htail : ∀ b, tailOf t b = tailOf s b := tailOf_of_tails (by rw [hm]) (by rw [hm])
  have hslot : slotAt t = slotAt s := funext (slotAt_of_motion (by rw [hm]))
  have hhead : ∀ b, readyHead t b = readyHead s b := fun b => by
    simp only [readyHead, ringHead, ringSize, hend, hfirst, hslots, hnext, htail, hslot]
  simp only [chosen, hhead, hl, hm]

end

/-! ## The taking of a claimant (R118, R124) -/

/-- The arbiter has turned to `c`: a slot makes its ring the last served one. -/
def servedBy (c : Owner) (s : State) : State :=
  match c.motion with
  | .slot _ => s.setDrive { s.drive with lastServed := c.actuator }
  | .override => s

/-- The claimant is ACTIVE. -/
def activate (c : Owner) (s : State) : State :=
  match c.motion with
  | .slot i => setSlot s i { slotAt s i with state := .active }
  | .override => setOverride s c.actuator { overrideOf s c.actuator with state := .active }

/-- The origin with which a claimant claims the load of DRIVE (R114). -/
def claimOrigin (c : Owner) : Origin :=
  match c.motion with
  | .slot _ => .motion
  | .override => .override

/-- The result with which the checks complete a claimant, if any (R124). -/
def checked (c : Owner) (s : State) : Option MotionResult :=
  match c.motion with
  | .slot i => startCheck (servedBy c s) c.actuator i
  | .override => destinationReached s c

section
variable {s : State} {c : Owner}

theorem takeClaimant_gap (hg : gapHolds s c = true) :
    takeClaimant c s = s.setDrive { s.drive with stage := .gap } := by
  rw [takeClaimant, if_pos hg]

theorem takeClaimant_ended {r : MotionResult} (hg : gapHolds s c = false) (hr : checked c s = some r) :
    takeClaimant c s = finishMotion c r (servedBy c s) := by
  obtain ⟨a, m⟩ := c
  cases m with
  | slot i =>
    simp only [checked, servedBy] at hr
    simp only [takeClaimant, hg, Bool.false_eq_true, if_false, takeSlot, hr, servedBy]
  | override =>
    simp only [checked] at hr
    simp only [takeClaimant, hg, Bool.false_eq_true, if_false, takeOverride, hr, servedBy]

theorem takeClaimant_claims (hg : gapHolds s c = false) (hr : checked c s = none) :
    takeClaimant c s = claim c (claimOrigin c) (activate c (servedBy c s)) := by
  obtain ⟨a, m⟩ := c
  cases m with
  | slot i =>
    simp only [checked, servedBy] at hr
    simp only [takeClaimant, hg, Bool.false_eq_true, if_false, takeSlot, hr, servedBy, activate, claimOrigin]
  | override =>
    simp only [checked] at hr
    simp only [takeClaimant, hg, Bool.false_eq_true, if_false, takeOverride, hr, servedBy, activate, claimOrigin]

/-- The three things that become of a claimant: it waits in GAP, a check completes it, or it claims. -/
theorem takeClaimant_cases (P : State → Prop) (hgap : P (s.setDrive { s.drive with stage := .gap }))
    (hended : ∀ r, P (finishMotion c r (servedBy c s)))
    (hclaims : P (claim c (claimOrigin c) (activate c (servedBy c s)))) : P (takeClaimant c s) := by
  cases hg : gapHolds s c with
  | true => rwa [takeClaimant_gap hg]
  | false =>
    cases hr : checked c s with
    | some r => rw [takeClaimant_ended hg hr]; exact hended r
    | none => rwa [takeClaimant_claims hg hr]

theorem servedBy_motion (c : Owner) (s : State) : (servedBy c s).motion = s.motion := by
  unfold servedBy
  split <;> rfl

theorem servedBy_flags (c : Owner) (s : State) : (servedBy c s).link.flags = s.link.flags := by
  unfold servedBy
  split <;> rfl

theorem activate_frame (c : Owner) (s : State) : OnlyMotions s (activate c s) := by
  unfold activate
  split <;> simp [OnlyMotions]

theorem slotAt_activate (c : Owner) (s : State) (j : Fin 16) :
    slotAt (activate c s) j =
      if c.motion = .slot j then { slotAt s j with state := .active } else slotAt s j := by
  obtain ⟨a, m⟩ := c
  cases m with
  | slot i =>
    refine (slotAt_setSlot s i j _).trans ?_
    by_cases hij : i = j <;> simp [hij]
  | override =>
    have h : (activate ⟨a, .override⟩ s).motion.slots = s.motion.slots := by simp [activate]
    simpa using slotAt_of_motion h j

theorem overrideOf_activate (c : Owner) (s : State) (b : Actuator) :
    overrideOf (activate c s) b =
      if c.motion = .override ∧ c.actuator = b then { overrideOf s b with state := .active }
      else overrideOf s b := by
  obtain ⟨a, m⟩ := c
  cases m with
  | slot i => cases b <;> rfl
  | override =>
    refine (overrideOf_setOverride s a b _).trans ?_
    by_cases hab : a = b <;> simp [hab]

theorem slotAt_claim (o : Owner) (k : Origin) (s : State) (j : Fin 16) :
    slotAt (claim o k s) j = slotAt s j := slotAt_of_motion (by simp) j

theorem overrideOf_claim (o : Owner) (k : Origin) (s : State) (b : Actuator) :
    overrideOf (claim o k s) b = overrideOf s b := overrideOf_of_motion (by simp) b

theorem slotAt_servedBy (c : Owner) (s : State) (j : Fin 16) : slotAt (servedBy c s) j = slotAt s j :=
  slotAt_of_motion (by rw [servedBy_motion]) j

theorem overrideOf_servedBy (c : Owner) (s : State) (b : Actuator) :
    overrideOf (servedBy c s) b = overrideOf s b := overrideOf_of_motion (servedBy_motion c s) b

theorem slotAt_takeClaimant_other {j : Fin 16} (h : c.motion ≠ .slot j) :
    slotAt (takeClaimant c s) j = slotAt s j := by
  refine takeClaimant_cases (fun t => slotAt t j = slotAt s j) rfl (fun r => ?_) ?_
  · rw [slotAt_finishMotion, if_neg h, slotAt_servedBy]
  · rw [slotAt_claim, slotAt_activate, if_neg h, slotAt_servedBy]

theorem overrideOf_takeClaimant_other {b : Actuator} (h : ¬ (c.motion = .override ∧ c.actuator = b)) :
    overrideOf (takeClaimant c s) b = overrideOf s b := by
  refine takeClaimant_cases (fun t => overrideOf t b = overrideOf s b) (by cases b <;> rfl) (fun r => ?_) ?_
  · rw [overrideOf_finishMotion, if_neg h, overrideOf_servedBy]
  · rw [overrideOf_claim, overrideOf_activate, if_neg h, overrideOf_servedBy]

theorem finishMotion_raised {f : Flag} (h : flagBits s f = ⟨true, true⟩) (o : Owner) (r : MotionResult) :
    flagBits (finishMotion o r s) f = ⟨true, true⟩ := by
  have hraise : ∀ v : State, flagBits v f = flagBits s f → flagBits (flagResult r v) f = ⟨true, true⟩ :=
    fun v hv => by rw [flagBits_flagResult, hv, h, ite_self]
  simp only [finishMotion]
  repeat' split
  · exact hraise _ (flagBits_of_flags (by simp) f)
  · exact (flagBits_of_flags (by simp) f).trans h
  · exact hraise _ (flagBits_of_flags (by simp) f)

/-- A flag that stands with its mark is not cleared by the taking of a claimant. -/
theorem takeClaimant_raised {f : Flag} (hf : f ≠ .loadShed) (h : flagBits s f = ⟨true, true⟩) :
    flagBits (takeClaimant c s) f = ⟨true, true⟩ := by
  have hserved : flagBits (servedBy c s) f = ⟨true, true⟩ :=
    (flagBits_of_flags (servedBy_flags c s) f).trans h
  refine takeClaimant_cases (fun t => flagBits t f = ⟨true, true⟩) h
    (fun r => finishMotion_raised hserved c r) ?_
  rw [claim, (reevaluate_same _ _).flags f hf, putOrigin_flags]
  exact (flagBits_of_flags (by simp only [State.setDrive_link, activate_frame c (servedBy c s)]) f).trans hserved

end

/-! ## What the arbiter leaves alone -/

/-- A property that every taking of a chosen claimant keeps. -/
theorem arbitrateN_keeps (P : State → Prop)
    (hP : ∀ s c, s.drive.stage = .idle → chosen s = some c → P s → P (takeClaimant c s))
    (n : Nat) (s : State) (h : P s) : P (arbitrateN n s) := by
  induction n generalizing s with
  | zero => exact h
  | succ n ih =>
    unfold arbitrateN
    split
    · next hact =>
      have hidle : s.drive.stage = .idle := by simp_all
      split
      · exact h
      · next c hc => exact ih _ (hP s c hidle hc h)
    · exact h

section
variable {s : State}

theorem slotAt_arbitrateN (n : Nat) {j : Fin 16} (h : (slotAt s j).state ≠ .ready) :
    slotAt (arbitrateN n s) j = slotAt s j :=
  arbitrateN_keeps (fun t => slotAt t j = slotAt s j)
    (fun t c _ hc ht => by
      refine (slotAt_takeClaimant_other fun hm => h ?_).trans ht
      have hready := chosen_claims hc
      simpa only [Claims, hm, ht] using hready) n s rfl

theorem overrideOf_arbitrateN (n : Nat) {b : Actuator} (h : (overrideOf s b).state ≠ .raised) :
    overrideOf (arbitrateN n s) b = overrideOf s b :=
  arbitrateN_keeps (fun t => overrideOf t b = overrideOf s b)
    (fun t c _ hc ht => by
      refine (overrideOf_takeClaimant_other fun hm => h ?_).trans ht
      obtain ⟨hm, rfl⟩ := hm
      have hraised := chosen_claims hc
      simpa only [Claims, hm, ht] using hraised) n s rfl

/-- A slot without a READY motion is left alone by the arbiter. -/
theorem slotAt_arbitrate {j : Fin 16} (h : (slotAt s j).state ≠ .ready) :
    slotAt (arbitrate s) j = slotAt s j := slotAt_arbitrateN _ h

/-- An override that is not RAISED is left alone by the arbiter. -/
theorem overrideOf_arbitrate {b : Actuator} (h : (overrideOf s b).state ≠ .raised) :
    overrideOf (arbitrate s) b = overrideOf s b := overrideOf_arbitrateN _ h

theorem arbitrate_raised {f : Flag} (hf : f ≠ .loadShed) (h : flagBits s f = ⟨true, true⟩) :
    flagBits (arbitrate s) f = ⟨true, true⟩ :=
  arbitrateN_keeps (fun t => flagBits t f = ⟨true, true⟩) (fun _ _ _ _ => takeClaimant_raised hf) _ s h

/-- What has ended stays ended. -/
theorem MotionEnded.arbitrateN {o : Owner} {r : MotionResult} {s u : State} (h : MotionEnded o r s u)
    (n : Nat) : MotionEnded o r s (arbitrateN n u) := by
  obtain ⟨hslot, hoverride⟩ := h
  refine ⟨fun i hi => ?_, fun ho => ?_⟩
  · have hended := hslot i hi
    rw [SlotEnded, slotAt_arbitrateN n (by simp [hended.1])]
    exact hended
  · rw [overrideOf_arbitrateN n (by simp [hoverride ho]), hoverride ho]

theorem SlotEnded.arbitrateN {i : Fin 16} {r : MotionResult} {s u : State} (h : SlotEnded i r s u)
    (n : Nat) : SlotEnded i r s (arbitrateN n u) := by
  rw [SlotEnded, slotAt_arbitrateN n (by simp [h.1])]
  exact h

end

/-! ## The claim of the stage (R114) -/

/-- The stage claimed for `o`, with the grant wait (R114). -/
def claimedStage (o : Owner) (s : State) : DriveStage :=
  { s.drive with stage := .claimed, owner := some o, phaseTimer := s.params.grantWait }

section
variable {s : State} {o : Owner} {k : Origin}

/-- The claim leaves the stage CLAIMED, or the walk has granted its load at once. -/
theorem claim_drive : (claim o k s).drive = claimedStage o s ∨
    (claim o k s).drive = wakingStage o (s.setDrive (claimedStage o s)) := by
  have h := reevaluate_stageMoves
    (putOrigin (s.setDrive (claimedStage o s)) chDrive k (some 0)) s
  rcases h.drive with hd | ⟨-, p, hp, hd⟩
  · exact .inl (hd.trans (by simp))
  · obtain rfl : o = p := Option.some.inj (by simpa [claimedStage] using hp)
    refine .inr (hd.trans ?_)
    have hdirection : motionDirection (putOrigin (s.setDrive (claimedStage o s)) chDrive k (some 0)) o =
        motionDirection (s.setDrive (claimedStage o s)) o :=
      motionDirection_congr (by simp) (by simp) (by simp) o
    simp only [wakingStage, hdirection]
    simp

theorem claim_origins : origins (claim o k s) chDrive = (origins s chDrive).put k (some 0) := by
  rw [claim, (reevaluate_same _ _).get, origins_putOrigin, if_pos rfl]
  rfl

/-! ### An override is of class 0 (R32, R38) -/

theorem wakingStage_congr {t : State} (hd : t.drive = s.drive) (hm : t.motion = s.motion)
    (hp : t.act.posMs = s.act.posMs) (hq : t.params = s.params) : wakingStage o t = wakingStage o s := by
  simp only [wakingStage, hd, hq, motionDirection_congr hm hp hq]

theorem driveHandOff_granted (hs : s.drive.stage = .claimed) (ho : s.drive.owner = some o)
    (hg : isGranted s chDrive = true) : (driveHandOff s).drive = wakingStage o s := by
  simp only [driveHandOff, hs, hg, ho, decide_true, Bool.and_self, if_true, enterWaking, wakingStage]
  split <;> rfl

/-- The first walk that grants the load of a stage in CLAIMED hands it over, and the stage stays in WAKING. -/
theorem runWalk_granted (n : Nat) (before : List Channel) (hs : s.drive.stage = .claimed)
    (ho : s.drive.owner = some o) (hg : isGranted (walk s) chDrive = true) :
    (runWalk (n + 1) before s).drive = wakingStage o s := by
  have hhanded : (handOff before (regranted s) (walk s)).drive = wakingStage o s := by
    have hgranted : ∀ u : State, u.table = (walk s).table → isGranted u chDrive = true := fun u hu => by
      rw [isGranted, hu]
      exact hg
    exact (driveHandOff_granted (by simp [hs]) (by simp [ho]) (hgranted _ (by simp))).trans
      (wakingStage_congr (by simp) (by simp) (by simp) (by simp))
  have hwaking : (handOff before (regranted s) (walk s)).drive.stage ≠ .claimed := by
    simp [hhanded, wakingStage]
  unfold runWalk
  simp only
  split
  · exact hhanded
  · have hrelisted := relist_stageMoves (handOff before (regranted s) (walk s)) (walk s)
    exact (((hrelisted.trans (runWalk_stageMoves n _ _)).kept hwaking).trans hhanded)

/-- The demand of a motion-safety override is of class 0 (R32). -/
theorem classOf_override (h : origins s chDrive = { OriginSet.empty with override := some 0 }) :
    demanded s chDrive = true ∧ classOf s chDrive = 0 := by
  constructor
  · rw [demanded, h]; rfl
  · simp [classOf, demandClass, h, OriginSet.present, allOrigins, OriginSet.get, originClass,
      OriginSet.empty]

/-- A record that becomes demanded is a re-evaluation event (R31, R37). -/
theorem tableView_ne_of_demanded {t : State} {ch : Channel} (hs : demanded s ch = false)
    (ht : demanded t ch = true) : tableView s ≠ tableView t := fun heq => by
  have hviews : (tableView s).1 = (tableView t).1 := by rw [heq]
  simp only [tableView, List.map_inj_left] at hviews
  simpa [hs, ht] using hviews ch (List.mem_finRange ch)

/-- The claim of an override, while the load of DRIVE has no origin: it is granted at once, as class 0. -/
theorem claim_override_drive (h : origins s chDrive = .empty) :
    (claim o .override s).drive = wakingStage o (s.setDrive (claimedStage o s)) := by
  have hclaim : claim o .override s = reevaluate s
      (putOrigin (s.setDrive (claimedStage o s)) chDrive .override (some 0)) := rfl
  have horigin : origins (putOrigin (s.setDrive (claimedStage o s)) chDrive .override (some 0)) chDrive =
      { OriginSet.empty with override := some 0 } := by
    rw [origins_putOrigin, if_pos rfl]
    exact congrArg (OriginSet.put · .override (some 0)) h
  have hdrive : (putOrigin (s.setDrive (claimedStage o s)) chDrive .override (some 0)).drive =
      claimedStage o s := by simp
  have hwaking : wakingStage o (putOrigin (s.setDrive (claimedStage o s)) chDrive .override (some 0)) =
      wakingStage o (s.setDrive (claimedStage o s)) :=
    wakingStage_congr (by simp) (by simp) (by simp) (by simp)
  rw [hclaim, ← hwaking]
  generalize putOrigin (s.setDrive (claimedStage o s)) chDrive .override (some 0) = u at horigin hdrive
  obtain ⟨hdemanded, hclass⟩ := classOf_override horigin
  have hidle : demanded s chDrive = false := by rw [demanded, h]; rfl
  have hsame := relist_same s u
  have hgranted : isGranted (walk (relist s u)) chDrive = true :=
    walk_grants (by rwa [demanded_of_same hsame])
      (.inl ((classOf_of_same hsame (by simp) chDrive).trans hclass))
  rw [reevaluate, if_neg (tableView_ne_of_demanded hidle hdemanded)]
  refine (runWalk_granted (o := o) 7 _ (by simp [hdrive, claimedStage]) (by simp [hdrive, claimedStage]) hgranted).trans ?_
  exact wakingStage_congr (by simp) (by simp) (by simp) (by simp)

end

end Sys2Proof.Machine
end

section
/-! PROOFS. The end of a command whose effect lies within the motions, the stage and the loads, and
MOVE_CANCEL (R114, R130). -/

namespace Sys2Proof.Machine

/-! ## The end of a command within the motions -/

/-- The effect `u` of a command on `s` lies within the motions, the stage and the loads. -/
structure MotionsActed (s u : State) : Prop where
  frame : OnlyBrakeEnd s u
  origins : OriginsKeptBut [chDrive] s u
  flags : FlagsKeptBut [.moveDone, .moveFailed, .loadShed] s u

/-- From an effect `u` to the end `t` of its command. -/
structure MotionsSettled (s u t : State) : Prop where
  drive : t.drive = u.drive
  motion : t.motion = u.motion
  table : t.table = u.table
  act : t.act = u.act
  raised : ∀ f, flagBits u f = ⟨true, true⟩ → flagBits t f = ⟨true, true⟩
  origins : OriginsKeptBut [chDrive] s t
  flags : FlagsKeptBut [.moveDone, .moveFailed, .loadShed] s t

section
variable {s u : State}

theorem MotionsActed.of_arbiter (h : OnlyBrakeEnd s u) (hk : ArbiterKeeps s u) (ha : Acted s u) :
    MotionsActed s u := by
  obtain ⟨horigins, -⟩ := hk
  exact ⟨h, horigins, ha.flags⟩

theorem MotionsActed.conditions (h : MotionsActed s u) (f : Flag) :
    conditionHolds u f = conditionHolds s f := by
  have hframe := h.frame
  have ha := eventActive_of_pins (s := s) (t := u) (by simp only [hframe])
  have hm := eventMapped_of_pins (s := s) (t := u) (by simp only [hframe])
  refine conditionHolds_of_units ?_ ha hm ?_ ?_ ?_ ?_ ?_ ?_ ?_ ?_ f <;> simp only [hframe]

/-- A command without an answer. -/
theorem MotionsActed.settle (hs : Settled s) (h : MotionsActed s u) :
    MotionsSettled s u (settle s u) ∧
      settle s u = { afterWalk (afterEvent s (settle s u)) (settle s u) with
        drive := (settle s u).drive, motion := (settle s u).motion } := by
  have hframe : OnlyBrakeEnd u s := by simp only [OnlyBrakeEnd, h.frame, and_self]
  have hevent := settle_eq_afterEvent s u
  refine ⟨⟨by simp, by simp, by simp, by simp, fun f hf => flagBits_settle_of_raised hf, fun ch hch => ?_,
    settle_flagsKept hs h.conditions h.flags⟩, ?_⟩
  · rw [settle_origins, h.origins ch hch]
  · generalize Machine.settle s u = t at hevent ⊢
    rw [hevent]
    simp only [afterWalk, afterEvent, hframe]

/-- A request: the effect, and its answer. -/
theorem MotionsActed.answered {kind : Nat} {tag : Byte} {p : List Byte} (hs : Settled s)
    (h : MotionsActed s u) (hr : RequestAt kind tag p s) (reply : List Byte) :
    ∃ t, Machine.settle s (answer (BitVec.ofNat 8 kind) tag reply u) = t ∧ Replied kind tag reply s t ∧
      MotionsSettled s u t ∧
      t = { afterWalk (afterRequest s t) t with drive := t.drive, motion := t.motion } := by
  have hforth := h.frame
  have hframe : OnlyBrakeEnd u s := by simp only [OnlyBrakeEnd, hforth, and_self]
  have hawake : u.time.power ≠ .dormant := by
    simpa only [hforth] using not_dormant_of_requestAt hr
  rw [answer_eq_answered _ _ _ _ hawake]
  have hevent := settle_eq_afterEvent s (Machine.answered kind tag reply u)
  refine ⟨_, rfl, ?replied, ⟨by simp [Machine.answered], by simp [Machine.answered],
    by simp [Machine.answered], by simp [Machine.answered], fun f hf => flagBits_settle_of_raised hf,
    fun ch hch => ?_, settle_flagsKept hs (fun f => ?_) h.flags⟩, ?_⟩
  case replied =>
    have hlink : u.link.inbox = s.link.inbox ∧ u.link.replies = s.link.replies ∧
        u.link.tx = s.link.tx := by simp only [hforth, and_self]
    refine ⟨?_, ?_, ?_⟩ <;> simp [Machine.answered, hlink]
  · rw [settle_origins]
    exact h.origins ch hch
  · rw [conditionHolds_answered, h.conditions]
  · generalize Machine.settle s (Machine.answered kind tag reply u) = t at hevent ⊢
    rw [hevent]
    simp only [afterWalk, afterRequest, afterEvent, Machine.answered, State.setLink, hframe]

end

/-! ## The effect of a cancel (R130) -/

section
variable {s : State} {a : Actuator} {i j : Fin 16}

theorem cancelSlot_ready (h : (slotAt s i).state = .ready) :
    cancelSlot i s = finishMotion ⟨ringOf s i, .slot i⟩ .abortedCancelled s := by
  simp only [cancelSlot, h]

theorem cancelSlot_active (h : (slotAt s i).state = .active) :
    cancelSlot i s = completeOwner .abortedCancelled s := by
  simp only [cancelSlot, h]

theorem cancelSlot_other (h : (slotAt s i).state = .free ∨ (slotAt s i).state = .complete) :
    cancelSlot i s = s := by
  rcases h with h | h <;> simp only [cancelSlot, h]

/-- What a cancel does: it ends a READY slot, or the motion of the stage, or nothing. -/
theorem cancelSlot_cases (P : State → Prop) (i : Fin 16) (s : State)
    (hready : (slotAt s i).state = .ready → P (finishMotion ⟨ringOf s i, .slot i⟩ .abortedCancelled s))
    (hactive : (slotAt s i).state = .active → P (completeOwner .abortedCancelled s)) (hother : P s) :
    P (cancelSlot i s) := by
  cases h : (slotAt s i).state with
  | ready => rw [cancelSlot_ready h]; exact hready h
  | active => rw [cancelSlot_active h]; exact hactive h
  | free => rwa [cancelSlot_other (.inl h)]
  | complete => rwa [cancelSlot_other (.inr h)]

theorem cancelSlot_acted (i : Fin 16) (s : State) : Acted s (cancelSlot i s) :=
  cancelSlot_cases (Acted s) i s (fun _ => finishMotion_acted s _ _) (fun _ => completeOwner_acted s _)
    (.refl s)

theorem cancelSlot_arbiterKeeps (i : Fin 16) (s : State) : ArbiterKeeps s (cancelSlot i s) :=
  cancelSlot_cases (ArbiterKeeps s) i s (fun _ => finishMotion_arbiterKeeps s _ _)
    (fun _ => completeOwner_arbiterKeeps s _) (.refl s)

theorem arbitrate_acted (s : State) : Acted s (arbitrate s) := arbitrateN_acted 19 s

/-- The cancel of one slot. -/
theorem cancelOne_held (h : (slotAt s i).state = .ready ∨ (slotAt s i).state = .active) :
    cancelOne i s = (.accepted, arbitrate (cancelSlot i s)) := by
  rcases h with h | h <;> simp [cancelOne, Slot.holdsMotion, h]

theorem cancelOne_motionsActed (i : Fin 16) (s : State) : MotionsActed s (arbitrate (cancelSlot i s)) :=
  .of_arbiter (by simp [OnlyBrakeEnd]) (cancelSlot_arbiterKeeps i s).arbitrate
    ((cancelSlot_acted i s).trans (arbitrate_acted _))

theorem cancelAll_motionsActed (a : Actuator) (s : State) : MotionsActed s (cancelAll a s) := by
  have hkept : ArbiterKeeps s ((ringSlots s a).foldl (fun t i => cancelSlot i t) s) :=
    foldl_keeps (ArbiterKeeps s) (fun t i => cancelSlot i t) _ _ (.refl s) fun t i ht =>
      ht.trans (cancelSlot_arbiterKeeps i t)
  have hacted : Acted s ((ringSlots s a).foldl (fun t i => cancelSlot i t) s) :=
    foldl_keeps (Acted s) (fun t i => cancelSlot i t) _ _ (.refl s) fun t i ht =>
      ht.trans (cancelSlot_acted i t)
  exact .of_arbiter (by simp [OnlyBrakeEnd]) hkept.arbitrate (hacted.trans (arbitrate_acted _))

end

/-! ## The cancel of every slot of a ring (R130) -/

/-- A fold that comes by `x` and keeps `P` before and `Q` after it. -/
theorem foldl_establishes {α β : Type} (P Q : β → Prop) (f : β → α → β) {x : α} {l : List α}
    (hx : x ∈ l) {b : β} (hb : P b) (hP : ∀ b a, P b → P (f b a)) (hPQ : ∀ b, P b → Q (f b x))
    (hQ : ∀ b a, Q b → Q (f b a)) : Q (l.foldl f b) := by
  induction l generalizing b with
  | nil => simp at hx
  | cons a l ih =>
    by_cases hax : a = x
    · subst hax
      exact foldl_keeps Q f l _ (hPQ b hb) hQ
    · exact ih ((List.mem_cons.mp hx).resolve_left fun h => hax h.symm) (hP b a hb)

section
variable {s t : State} {a : Actuator} {i j : Fin 16}

/-- A cancel leaves a slot as it is, or ends it. -/
theorem slotAt_cancelSlot (i j : Fin 16) (t : State) :
    slotAt (cancelSlot i t) j = slotAt t j ∨
      slotAt (cancelSlot i t) j = (slotAt t j).ended .abortedCancelled := by
  have hfinish : ∀ o, slotAt (finishMotion o .abortedCancelled t) j = slotAt t j ∨
      slotAt (finishMotion o .abortedCancelled t) j = (slotAt t j).ended .abortedCancelled := fun o => by
    rw [slotAt_finishMotion]
    split
    · exact .inr rfl
    · exact .inl rfl
  refine cancelSlot_cases (fun u => slotAt u j = slotAt t j ∨
    slotAt u j = (slotAt t j).ended .abortedCancelled) i t (fun _ => hfinish _) (fun _ => ?_) (.inl rfl)
  cases hholds : holdsStage t.drive.stage with
  | false => rw [completeOwner_released hholds]; exact .inl rfl
  | true =>
    cases ho : t.drive.owner with
    | none => rw [completeOwner, ho]; exact .inl rfl
    | some o =>
      have hslots := congrArg MotionTable.slots (completeOwner_motion ho hholds .abortedCancelled)
      rw [slotAt_of_motion hslots]
      exact hfinish o

/-- A cancelled slot stays so through the other cancels. -/
theorem slotAt_cancelSlot_ended {x : Slot} (h : slotAt t j = x.ended .abortedCancelled) (i : Fin 16) :
    slotAt (cancelSlot i t) j = x.ended .abortedCancelled := by
  rcases slotAt_cancelSlot i j t with hc | hc <;> rw [hc, h]
  rfl

theorem mem_ringSlots : j ∈ ringSlots s a ↔ inRing s a j = true := by
  simp [ringSlots]

/-- Every READY slot of the ring ends. -/
theorem slotAt_cancelAll_ready (hj : inRing s a j = true) (h : (slotAt s j).state = .ready) :
    slotAt (cancelAll a s) j = (slotAt s j).ended .abortedCancelled := by
  have hfold : slotAt ((ringSlots s a).foldl (fun t i => cancelSlot i t) s) j =
      (slotAt s j).ended .abortedCancelled := by
    refine foldl_establishes
      (fun t => slotAt t j = slotAt s j ∨ slotAt t j = (slotAt s j).ended .abortedCancelled)
      (fun t => slotAt t j = (slotAt s j).ended .abortedCancelled)
      (fun t i => cancelSlot i t) (mem_ringSlots.mpr hj) (.inl rfl) (fun t i ht => ?before)
      (fun t ht => ?at_j) (fun t i ht => slotAt_cancelSlot_ended ht i)
    case before =>
      rcases ht with ht | ht
      · rw [← ht]; exact slotAt_cancelSlot i j t
      · exact .inr (slotAt_cancelSlot_ended ht i)
    case at_j =>
      rcases ht with ht | ht
      · rw [cancelSlot_ready (by rw [ht]; exact h), slotAt_finishMotion, if_pos rfl, ht]
      · exact slotAt_cancelSlot_ended ht j
  rw [cancelAll, slotAt_arbitrate (by simp [hfold, Slot.ended]), hfold]

/-! ### The motion of the stage under a cancel -/

/-- The motion of the stage in `s`, that of slot `j`, has been cancelled (R116, R130). -/
structure StageCancelled (o : Owner) (j : Fin 16) (s t : State) : Prop where
  slot : slotAt t j = (slotAt s j).ended .abortedCancelled
  released : holdsStage t.drive.stage = false
  braking : afterWaking s.drive.stage = true → t.drive = brakingFrom o s

theorem releaseStage_released (s : State) : holdsStage (releaseStage s).drive.stage = false := by
  rw [releaseStage_drive]
  rfl

theorem brakingFrom_congr {o : Owner} (hm : o.motion = .slot j) (hslot : slotAt t j = slotAt s j)
    (hd : t.drive = s.drive) (hq : t.params = s.params) : brakingFrom o t = brakingFrom o s := by
  simp only [slotAt] at hslot
  simp only [brakingFrom, hd, hq, ownerAction, ownerRetries, ownerRunTime, hm, hslot]

theorem stageCancelled_completeOwner {o : Owner} (hm : o.motion = .slot j) (ho : s.drive.owner = some o)
    (hholds : holdsStage s.drive.stage = true) :
    StageCancelled o j s (completeOwner .abortedCancelled s) := by
  have hslots := congrArg MotionTable.slots (completeOwner_motion ho hholds .abortedCancelled)
  refine ⟨?slot, ?released, fun hw => by rw [completeOwner_afterWaking ho hw]; rfl⟩
  case slot => rw [slotAt_of_motion hslots, slotAt_finishMotion, if_pos hm]
  case released =>
    rcases holdsStage_cases hholds with hc | hw
    · rw [completeOwner_claimed ho hc]
      exact releaseStage_released _
    · rw [completeOwner_afterWaking ho hw]
      rfl

/-- A motion that has been cancelled stays so through the other cancels. -/
theorem StageCancelled.cancelSlot {o : Owner} (h : StageCancelled o j s t) (i : Fin 16) :
    StageCancelled o j s (cancelSlot i t) := by
  have hdrive : (Machine.cancelSlot i t).drive = t.drive :=
    cancelSlot_cases (fun u => u.drive = t.drive) i t (fun _ => by simp)
      (fun _ => by rw [completeOwner_released h.released]) rfl
  exact ⟨slotAt_cancelSlot_ended h.slot i, by rw [hdrive]; exact h.released,
    fun hw => hdrive.trans (h.braking hw)⟩

/-- The all-slots code ends the ACTIVE motion of the stage. -/
theorem stageCancelled_cancelAll {o : Owner} (hj : inRing s a j = true) (hm : o.motion = .slot j)
    (hactive : (slotAt s j).state = .active) (ho : s.drive.owner = some o)
    (hholds : holdsStage s.drive.stage = true) :
    StageCancelled o j s ((ringSlots s a).foldl (fun t i => cancelSlot i t) s) := by
  have hnow : ∀ t, slotAt t j = slotAt s j → t.drive = s.drive → t.params = s.params →
      StageCancelled o j s (completeOwner .abortedCancelled t) := fun t hslot hd hq => by
    obtain ⟨hended, hreleased, hbraking⟩ := stageCancelled_completeOwner (s := t) hm (by rw [hd, ho])
      (by rw [hd, hholds])
    rw [hslot] at hended
    rw [hd, brakingFrom_congr hm hslot hd hq] at hbraking
    exact ⟨hended, hreleased, hbraking⟩
  refine foldl_establishes
    (fun t => (slotAt t j = slotAt s j ∧ t.drive = s.drive ∧ t.params = s.params) ∨
      StageCancelled o j s t)
    (StageCancelled o j s) (fun t i => Machine.cancelSlot i t) (mem_ringSlots.mpr hj)
    (.inl ⟨rfl, rfl, rfl⟩) (fun t i ht => ?before) (fun t ht => ?at_j) (fun t i ht => ht.cancelSlot i)
  case before =>
    rcases ht with ⟨hslot, hd, hq⟩ | ht
    · refine cancelSlot_cases (fun u => (slotAt u j = slotAt s j ∧ u.drive = s.drive ∧ u.params = s.params) ∨
        StageCancelled o j s u) i t (fun hready => .inl ⟨?_, by simp [hd], by simp [hq]⟩)
        (fun _ => .inr (hnow t hslot hd hq)) (.inl ⟨hslot, hd, hq⟩)
      have hij : i ≠ j := fun hij => by simp [hij, hslot, hactive] at hready
      rw [slotAt_finishMotion, if_neg (by simpa using hij), hslot]
    · exact .inr (ht.cancelSlot i)
  case at_j =>
    rcases ht with ⟨hslot, hd, hq⟩ | ht
    · rw [cancelSlot_active (by rw [hslot]; exact hactive)]
      exact hnow t hslot hd hq
    · exact ht.cancelSlot j

/-! ### The slots that a cancel does not name -/

theorem completeOwner_owner (r : MotionResult) (s : State) :
    (completeOwner r s).drive.owner = s.drive.owner ∨ (completeOwner r s).drive.owner = none := by
  cases hholds : holdsStage s.drive.stage with
  | false => rw [completeOwner_released hholds]; exact .inl rfl
  | true =>
    cases ho : s.drive.owner with
    | none => rw [completeOwner, ho]; exact .inr ho
    | some o =>
      rcases holdsStage_cases hholds with hc | hw
      · rw [completeOwner_claimed ho hc, releaseStage_drive]
        exact .inr rfl
      · rw [completeOwner_afterWaking ho hw]
        exact .inl ho

/-- A slot that holds no motion, and is not the owner's, is left as it is. -/
theorem slotAt_cancelAll_other (h : (slotAt s j).state = .free ∨ (slotAt s j).state = .complete)
    (ho : ∀ p, s.drive.owner = some p → p.motion ≠ .slot j) :
    slotAt (cancelAll a s) j = slotAt s j := by
  have hready : (slotAt s j).state ≠ .ready := by rcases h with h | h <;> simp [h]
  obtain ⟨hslot, -⟩ := foldl_keeps
    (fun t => slotAt t j = slotAt s j ∧ (t.drive.owner = s.drive.owner ∨ t.drive.owner = none))
    (fun t i => Machine.cancelSlot i t) (ringSlots s a) s ⟨rfl, .inl rfl⟩ fun t i ⟨hslot, howner⟩ => by
      refine cancelSlot_cases
        (fun u => slotAt u j = slotAt s j ∧ (u.drive.owner = s.drive.owner ∨ u.drive.owner = none)) i t
        (fun hi => ⟨?_, by simpa using howner⟩) (fun _ => ⟨?_, ?_⟩) ⟨hslot, howner⟩
      · have hij : i ≠ j := fun hij => hready (by rw [← hslot, ← hij]; exact hi)
        rw [slotAt_finishMotion, if_neg (by simpa using hij), hslot]
      · rw [slotAt_completeOwner_other, hslot]
        intro p hp
        rcases howner with hk | hk
        · exact ho p (hk ▸ hp)
        · simp [hk] at hp
      · rcases completeOwner_owner .abortedCancelled t with hk | hk
        · rwa [hk]
        · exact .inr hk
  rw [cancelAll, slotAt_arbitrate (by rwa [hslot]), hslot]

end

end Sys2Proof.Machine
end

section
/-! PROOFS. MOVE_CANCEL: what it names, what it answers, and what it leaves (R130). -/

namespace Sys2Proof.Machine

section
variable {s : State} {tag ring index : Byte} {a : Actuator} {i : Fin 16}

/-! ## The slots that the bytes name -/

theorem namedSlot_one (ha : ring.toNat = a.code) (hin : inRing s a i = true) (hi : index.toNat = i.val) :
    namedSlot s ring index = some (a, some i) := by
  have hlt := i.isLt
  have hindex : (⟨i.val, by omega⟩ : Fin 16) = i := rfl
  simp only [namedSlot, actuator_ofCode ha, hi]
  rw [if_neg (by omega), dif_pos hlt, if_pos (by rw [hindex]; exact hin)]

theorem namedSlot_all (ha : ring.toNat = a.code) (hi : index.toNat = 255) :
    namedSlot s ring index = some (a, none) := by
  simp [namedSlot, actuator_ofCode ha, hi]

theorem actuator_ofCode_unknown (h : 1 < ring.toNat) : Actuator.ofCode ring = none := by
  unfold Actuator.ofCode
  rw [if_neg (by omega), if_neg (by omega)]

theorem namedSlot_none (h : 1 < ring.toNat ∨ (ring.toNat = a.code ∧ index.toNat ≠ 255 ∧
      ∀ j : Fin 16, index.toNat = j.val → inRing s a j = false)) :
    namedSlot s ring index = none := by
  rcases h with h | ⟨ha, hall, hout⟩
  · simp only [namedSlot, actuator_ofCode_unknown h]
  · simp only [namedSlot, actuator_ofCode ha, if_neg hall]
    split
    · next hlt => rw [hout ⟨index.toNat, hlt⟩ rfl]; rfl
    · rfl

/-! ## The request -/

/-- A cancel of one slot that holds a motion. -/
theorem execMoveCancel_one (hr : RequestAt 8 tag [ring, index] s) (ha : ring.toNat = a.code)
    (hin : inRing s a i = true) (hi : index.toNat = i.val)
    (h : (slotAt s i).state = .ready ∨ (slotAt s i).state = .active) :
    exec (.moveCancel tag [ring, index]) s = .next (settle s (answer (BitVec.ofNat 8 8) tag
      (moveCancelReply .accepted (arbitrate (cancelSlot i s)) a (some i)) (arbitrate (cancelSlot i s)))) := by
  simp only [exec, execMoveCancel]
  refine takeRequest_eq hr rfl ?_
  simp only [byteAt, List.getD_cons_zero, List.getD_cons_succ, namedSlot_one ha hin hi, cancelOne_held h]

/-- The reply of a cancel that has ended its slot (R130). -/
theorem moveCancelReply_ended {u : State} (h : SlotEnded i .abortedCancelled s u) :
    moveCancelReply .accepted u a (some i) = [0#8, 3#8, 10#8] := by
  obtain ⟨hstate, hresult, -⟩ := h
  simp only [moveCancelReply, cancelItem, hstate, hresult]
  rfl

/-- A cancel of a slot that holds no motion is refused CONDITION. -/
theorem execMoveCancel_condition (hr : RequestAt 8 tag [ring, index] s) (hs : Settled s)
    (ha : ring.toNat = a.code) (hin : inRing s a i = true) (hi : index.toNat = i.val)
    (h : (slotAt s i).state = .free ∨ (slotAt s i).state = .complete) :
    exec (.moveCancel tag [ring, index]) s =
      .next (answered 8 tag (8#8 :: BitVec.ofNat 8 (slotAt s i).state.code ::
        motionResult8 (slotAt s i).result) s) := by
  have hone : cancelOne i s = (.condition, s) := by
    rcases h with h | h <;> simp [cancelOne, Slot.holdsMotion, h]
  simp only [exec, execMoveCancel]
  refine takeRequest_refused hs hr rfl ?_
  simp only [byteAt, List.getD_cons_zero, List.getD_cons_succ, namedSlot_one ha hin hi, hone]
  rfl

/-- The all-slots code. -/
theorem execMoveCancel_all (hr : RequestAt 8 tag [ring, index] s) (ha : ring.toNat = a.code)
    (hi : index.toNat = 255) :
    exec (.moveCancel tag [ring, index]) s = .next (settle s (answer (BitVec.ofNat 8 8) tag
      (moveCancelReply .accepted (cancelAll a s) a none) (cancelAll a s))) := by
  simp only [exec, execMoveCancel]
  refine takeRequest_eq hr rfl ?_
  simp only [byteAt, List.getD_cons_zero, List.getD_cons_succ, namedSlot_all ha hi]

theorem execMoveCancel_range (hr : RequestAt 8 tag [ring, index] s) (hs : Settled s)
    (h : namedSlot s ring index = none) :
    exec (.moveCancel tag [ring, index]) s = .next (answered 8 tag [4#8] s) := by
  simp only [exec, execMoveCancel]
  refine takeRequest_refused hs hr rfl ?_
  simp only [byteAt, List.getD_cons_zero, List.getD_cons_succ, h]
  rfl

/-- The items of the all-slots reply. -/
theorem moveCancelReply_all {u t : State} (hm : t.motion = u.motion) (hq : u.params = s.params) :
    moveCancelReply .accepted u a none = packRecords .accepted
      ((ringSlots s a).map fun j =>
        BitVec.ofNat 8 (slotAt t j).state.code :: motionResult8 (slotAt t j).result) [] := by
  have hslots : ringSlots u a = ringSlots s a := by
    have hin : inRing u a = inRing s a := by
      funext j
      cases a <;> simp only [inRing, ringFirst, ringEnd, hq] <;> rfl
    simp only [ringSlots, hin]
  have hitem : cancelItem u = fun j =>
      BitVec.ofNat 8 (slotAt t j).state.code :: motionResult8 (slotAt t j).result := by
    funext j
    rw [slotAt_of_motion (s := u) (t := t) (by rw [hm])]
    rfl
  simp only [moveCancelReply, hslots, hitem]

end

theorem SlotEnded.of_motion {i : Fin 16} {r : MotionResult} {s t u : State} (h : SlotEnded i r s u)
    (hm : t.motion = u.motion) : SlotEnded i r s t := by
  have hsame : slotAt t i = slotAt u i := slotAt_of_motion (by rw [hm]) i
  simpa only [SlotEnded, hsame] using h

/-- Settles O46: the slot that a cancel ends stays ended under the arbiter, which does not act while the
stage brakes. -/
theorem moveCancelEndsMotions : Obligations.MoveCancelEndsMotions := by
  intro s tag ring index a i p named hr hs
  refine ⟨fun ⟨ha, hin, hi⟩ hready => ?ready, fun ⟨ha, hin, hi⟩ hactive ho hholds => ?active,
    fun ⟨ha, hin, hi⟩ hheld => execMoveCancel_condition hr hs ha hin hi hheld, fun ha hi => ?all,
    fun h => execMoveCancel_range hr hs (namedSlot_none h)⟩
  case ready =>
    have hended : SlotEnded i .abortedCancelled s (arbitrate (cancelSlot i s)) := by
      rw [cancelSlot_ready hready]
      exact SlotEnded.arbitrateN ((finishMotion_motionEnded s _ _).1 i rfl) _
    obtain ⟨t, ht, hreplied, hsettled, hframe⟩ := (cancelOne_motionsActed i s).answered hs hr
      (moveCancelReply .accepted (arbitrate (cancelSlot i s)) a (some i))
    rw [moveCancelReply_ended hended] at hreplied
    refine ⟨t, ?_, hreplied, hended.of_motion hsettled.motion, fun hnotify => ?flag, fun hbusy => ?busy,
      hsettled.origins, hsettled.flags, hframe⟩
    · rw [execMoveCancel_one hr ha hin hi (.inl hready), ht]
    case flag =>
      refine hsettled.raised _ (arbitrate_raised (by decide) ?_)
      rw [cancelSlot_ready hready]
      exact finishMotion_notified hnotify _ .abortedCancelled
    case busy =>
      rw [hsettled.drive, hsettled.table, cancelSlot_ready hready, arbitrate_of_busy (by simpa using hbusy)]
      simp
  case active =>
    have hended : SlotEnded i .abortedCancelled s (arbitrate (cancelSlot i s)) := by
      rw [cancelSlot_active hactive]
      exact SlotEnded.arbitrateN ((completeOwner_motionEnded ho hholds _).1 i rfl) _
    obtain ⟨t, ht, hreplied, hsettled, hframe⟩ := (cancelOne_motionsActed i s).answered hs hr
      (moveCancelReply .accepted (arbitrate (cancelSlot i s)) a (some i))
    rw [moveCancelReply_ended hended] at hreplied
    refine ⟨t, ?_, hreplied, hended.of_motion hsettled.motion, fun hw => ?braking, hsettled.origins,
      hsettled.flags, hframe⟩
    · rw [execMoveCancel_one hr ha hin hi (.inr hactive), ht]
    case braking =>
      rw [hsettled.drive, hsettled.table, cancelSlot_active hactive, completeOwner_afterWaking ho hw,
        arbitrate_of_busy (by simp [brakingFrom])]
      simp
  case all =>
    obtain ⟨t, ht, hreplied, hsettled, hframe⟩ := (cancelAll_motionsActed a s).answered hs hr
      (moveCancelReply .accepted (cancelAll a s) a none)
    have hslot : ∀ j, slotAt t j = slotAt (cancelAll a s) j :=
      slotAt_of_motion (by rw [hsettled.motion])
    rw [moveCancelReply_all (s := s) hsettled.motion (by simp)] at hreplied
    refine ⟨t, by rw [execMoveCancel_all hr ha hi, ht], hreplied, fun j hj hready => ?ready, fun j hj hactive ho
      hholds => ?active, fun j hheld ho => ?other, hsettled.origins, hsettled.flags, hframe⟩
    case ready => exact slotEnded_of_eq ((hslot j).trans (slotAt_cancelAll_ready hj hready))
    case active =>
      obtain ⟨hended, hreleased, hbraking⟩ := stageCancelled_cancelAll (o := ⟨a, .slot j⟩) hj rfl hactive ho hholds
      refine ⟨slotEnded_of_eq ((hslot j).trans ?_), fun hw => hsettled.drive.trans ?_⟩
      · rw [cancelAll, slotAt_arbitrate (by simp [hended, Slot.ended]), hended]
      · rw [cancelAll, arbitrate_of_busy (by simp [hbraking hw, brakingFrom]), hbraking hw]
    case other =>
      refine (hslot j).trans (slotAt_cancelAll_other hheld fun q hq hm => ?_)
      obtain ⟨b, m⟩ := q
      obtain rfl : m = .slot j := hm
      exact ho b (by cases b <;> simp) hq

end Sys2Proof.Machine
end

section
/-! PROOFS. The edges of the events of the Motion Rings and the Drive Stage (R161, R164, R167): what an edge
hands to its owner, and what the end of its command leaves of the motions, the stage and the power state. -/

namespace Sys2Proof.Machine

/-- A wake, where one is due. -/
def wakeIf (b : Bool) (s : State) : State := if b then wake s else s

@[simp] theorem wakeIf_frame (b : Bool) (s : State) : OnlyWake s (wakeIf b s) := by
  unfold wakeIf
  split <;> simp [OnlyWake]

/-- A wake finds the part awake, or takes it to LEAVING (R190). -/
theorem wakeIf_power (b : Bool) (s : State) :
    (wakeIf b s).time.power = if b && asleep s then .leaving else s.time.power := by
  cases b
  · rfl
  · exact wake_power s

theorem eventActive_wakeIf (b : Bool) (s : State) (e : InputEvent) :
    eventActive (wakeIf b s) e = eventActive s e := by
  cases b
  · rfl
  · exact eventActive_wake s e

theorem eventMapped_wakeIf (b : Bool) (s : State) (e : InputEvent) :
    eventMapped (wakeIf b s) e = eventMapped s e := by
  cases b
  · rfl
  · exact eventMapped_wake s e

/-- `s` with the pin `i` JOINED at the level of an edge, before anything has followed (R161, R162). -/
def joinedAt (s : State) (i : Fin 16) (rising : Bool) : State := setBinding s i (.joined rising 0)

section
variable {s : State} {i : Fin 16} {e : InputEvent} {rising : Bool} {n : Nat} {xs : List Bool}

theorem joinedAt_active (h : EdgeAt i e rising n xs s) :
    eventActive s e = !rising ∧ eventActive (joinedAt s i rising) e = rising := edge_active h

theorem joinedAt_active_other (h : EdgeAt i e rising n xs s) {e' : InputEvent} (he : e' ≠ e) :
    eventActive (joinedAt s i rising) e' = eventActive s e' := setBinding_active h.1 he

/-- An edge maps and unmaps nothing. -/
theorem joinedAt_mapped (h : EdgeAt i e rising n xs s) (e' : InputEvent) :
    eventMapped (joinedAt s i rising) e' = eventMapped s e' := by
  obtain ⟨hevent, hbinding, -⟩ := h
  by_cases he : e' = e
  · subst he
    exact (setBinding_mapped hevent rising 0).trans (eventMapped_of_joined hevent hbinding).symm
  · exact eventMapped_of_joinedTo (joinedTo_setBinding_event hevent he)

/-- What an edge does: its owner acts, the idle due instant is set anew, and the part wakes where R167 says
so. -/
theorem changeBinding_edge (h : EdgeAt i e rising n xs s) (he : e ≠ .wake) (order : List HandOff) :
    changeBinding i (.joined rising 0) order s =
      wakeIf (alwaysWakes e || (pinAt s i).wake)
        (touchIdle (edgeAct s e rising order (joinedAt s i rising))) := by
  obtain ⟨hbefore, hafter⟩ := joinedAt_active h
  have hmapped := (joinedAt_mapped h e).symm
  have hwake : (pinAt (joinedAt s i rising) i).wake = (pinAt s i).wake := by
    rw [joinedAt, pinAt_setBinding, if_pos rfl]
  have hform : changeBinding i (.joined rising 0) order s =
      formEvent i e order s (joinedAt s i rising) := by
    unfold changeBinding
    rw [inputEvent_eq h.1]
    rfl
  have hchanged : (!rising) ≠ rising := Bool.not_ne_self rising
  simp [hform, formEvent, hbefore, hafter, hmapped, hwake, hchanged, he, wakeIf]

/-- The state at the end of an edge, from what the owner's act has left. -/
structure EdgeEnd (wakes : Bool) (u t : State) : Prop where
  motion : t.motion = u.motion
  drive : t.drive = u.drive
  act : t.act = u.act
  table : t.table = u.table
  raised : ∀ f, flagBits u f = ⟨true, true⟩ → flagBits t f = ⟨true, true⟩
  power : t.time.power = if wakes && asleep u then .leaving else u.time.power

theorem exec_edge_motions (h : EdgeAt i e rising n xs s) (he : e ≠ .wake) (hwind : e ≠ .windPulse)
    (order : List HandOff) :
    ∃ t, exec (.debounceComplete i xs order) s = .next t ∧
      EdgeEnd (alwaysWakes e || (pinAt s i).wake) (edgeAct s e rising order (joinedAt s i rising)) t := by
  refine ⟨_, exec_edge h hwind order, ?_⟩
  rw [changeBinding_edge h he order]
  generalize edgeAct s e rising order (joinedAt s i rising) = u
  refine ⟨by simp, by simp, by simp, by simp, fun f hf => ?_, ?_⟩
  · exact flagBits_settle_of_raised ((flagBits_of_flags (by simp) f).trans hf)
  · have hpower : ∀ b : State, (settle b (wakeIf (alwaysWakes e || (pinAt s i).wake) (touchIdle u))).time.power
        = (wakeIf (alwaysWakes e || (pinAt s i).wake) (touchIdle u)).time.power := fun b => by simp
    rw [hpower, wakeIf_power, asleep_congr (s := u) (t := touchIdle u) (by simp)]
    simp

/-- What has ended in the owner's act has ended at the end of the edge. -/
theorem EdgeEnd.motionEnded {o : Owner} {r : MotionResult} {wakes : Bool} {b u t : State}
    (h : EdgeEnd wakes u t) (hended : MotionEnded o r b u) : MotionEnded o r b t :=
  hended.of_motion h.motion

theorem EdgeEnd.slotAt {wakes : Bool} {u t : State} (h : EdgeEnd wakes u t) (j : Fin 16) :
    slotAt t j = Machine.slotAt u j := slotAt_of_motion (by rw [h.motion]) j

theorem EdgeEnd.overrideOf {wakes : Bool} {u t : State} (h : EdgeEnd wakes u t) (b : Actuator) :
    overrideOf t b = Machine.overrideOf u b := overrideOf_of_motion h.motion b

end

end Sys2Proof.Machine
end

section
/-! PROOFS. The emergency stop (R132): every slot and override ends, the stage brakes or is idle, and nothing is
left for the arbiter. -/

namespace Sys2Proof.Machine

/-! ## The slots and the overrides -/

section
variable (s : State) (i j : Fin 16) (a b : Actuator)

theorem slotAt_estopSlot :
    slotAt (estopSlot s i) j =
      if i = j ∧ (slotAt s j).holdsMotion = true then (slotAt s j).ended .abortedEstop else slotAt s j := by
  unfold estopSlot
  by_cases hij : i = j
  · subst hij
    cases (slotAt s i).holdsMotion <;> simp [slotAt_finishMotion]
  · split <;> simp [slotAt_finishMotion, hij]

theorem slotAt_estopSlots (l : List (Fin 16)) (s : State) :
    slotAt (l.foldl estopSlot s) j =
      if j ∈ l ∧ (slotAt s j).holdsMotion = true then (slotAt s j).ended .abortedEstop else slotAt s j := by
  have hended : ((slotAt s j).ended .abortedEstop).holdsMotion = false := rfl
  induction l generalizing s with
  | nil => simp
  | cons i l ih =>
    rw [List.foldl_cons, ih _ (by rfl), slotAt_estopSlot]
    by_cases hij : i = j
    · subst hij
      cases hheld : (slotAt s i).holdsMotion <;> simp [hheld, hended]
    · simp [hij, Ne.symm hij]

theorem overrideOf_estopSlots (l : List (Fin 16)) : overrideOf (l.foldl estopSlot s) b = overrideOf s b :=
  foldl_keeps (fun t => overrideOf t b = overrideOf s b) estopSlot l s rfl fun t i ht => by
    unfold estopSlot
    split
    · rw [overrideOf_finishMotion, if_neg (by simp), ht]
    · exact ht

theorem overrideOf_estopOverride :
    overrideOf (estopOverride s a) b =
      if a = b ∧ (overrideOf s b).state ≠ .none then (overrideOf s b).ended .abortedEstop
      else overrideOf s b := by
  unfold estopOverride
  by_cases hab : a = b
  · subst hab
    by_cases hs : (overrideOf s a).state = .none <;> simp [hs, overrideOf_finishMotion]
  · split <;> simp [overrideOf_finishMotion, hab]

theorem slotAt_estopOverride : slotAt (estopOverride s a) j = slotAt s j := by
  unfold estopOverride
  split
  · rfl
  · rw [slotAt_finishMotion, if_neg (by simp)]

/-- Every motion has ended, before the stage follows. -/
def motionsStopped (s : State) : State :=
  [Actuator.step, .awning].foldl estopOverride ((List.finRange 16).foldl estopSlot s)

theorem emergencyStop_eq : emergencyStop s = endMotion (motionsStopped s) := by
  unfold emergencyStop motionsStopped
  rfl

theorem slotAt_emergencyStop :
    slotAt (emergencyStop s) j =
      if (slotAt s j).holdsMotion = true then (slotAt s j).ended .abortedEstop else slotAt s j := by
  refine (slotAt_of_motion (s := motionsStopped s) (by simp [emergencyStop_eq]) j).trans ?_
  simp only [motionsStopped, List.foldl_cons, List.foldl_nil, slotAt_estopOverride, slotAt_estopSlots,
    List.mem_finRange, true_and]

theorem overrideOf_emergencyStop :
    overrideOf (emergencyStop s) b =
      if (overrideOf s b).state = .none then overrideOf s b else (overrideOf s b).ended .abortedEstop := by
  refine (overrideOf_of_motion (s := motionsStopped s) (by simp [emergencyStop_eq]) b).trans ?_
  simp only [motionsStopped, List.foldl_cons, List.foldl_nil, overrideOf_estopOverride, overrideOf_estopSlots]
  by_cases hs : (overrideOf s b).state = .none <;> cases b <;> simp [hs]

end

/-! ## The stage and the arbiter -/

section
variable (s : State)

/-- The stage at the end of its motion: it brakes, or holds none. -/
theorem endMotion_stage :
    holdsStage (endMotion s).drive.stage = false ∧
      (afterWaking s.drive.stage = true → (endMotion s).drive.stage = .braking) := by
  have hbrake : (brake s).drive.stage = .braking := by
    simp only [brake, brakeAfter]
    split <;> rfl
  unfold endMotion
  split
  · next hc => exact ⟨releaseStage_released s, fun hw => by simp [hc, afterWaking] at hw⟩
  split
  · exact ⟨by rw [hbrake]; rfl, fun _ => hbrake⟩
  · next hc hw =>
    refine ⟨?_, fun h => absurd h hw⟩
    by_contra hholds
    rcases holdsStage_cases (by simpa using hholds) with h | h
    · exact hc h
    · exact hw h

theorem emergencyStop_stage :
    holdsStage (emergencyStop s).drive.stage = false ∧
      (afterWaking s.drive.stage = true → (emergencyStop s).drive.stage = .braking) := by
  have h := endMotion_stage (motionsStopped s)
  have hstage : (motionsStopped s).drive.stage = s.drive.stage := by simp [motionsStopped]
  rw [hstage] at h
  rw [emergencyStop_eq]
  exact h

/-- No claimant is left after an emergency stop. -/
theorem arbitrate_emergencyStop : arbitrate (emergencyStop s) = emergencyStop s := by
  refine arbitrate_of_unclaimed ?_
  cases hc : chosen (emergencyStop s) with
  | none => rfl
  | some c =>
    have hclaims := chosen_claims hc
    obtain ⟨a, m⟩ := c
    cases m with
    | slot i =>
      simp only [Claims, slotAt_emergencyStop] at hclaims
      split at hclaims
      · simp [Slot.ended] at hclaims
      · next h => simp [Slot.holdsMotion, hclaims] at h
    | override =>
      simp only [Claims, overrideOf_emergencyStop] at hclaims
      split at hclaims
      · next h => simp [h] at hclaims
      · simp [OverrideSlot.ended] at hclaims

theorem endMotion_flags : FlagsKeptBut [.loadShed] s (endMotion s) := fun f hf => by
  unfold endMotion
  split
  · rw [releaseStage, (reevaluate_same _ _).flags f (by simpa using hf)]
    exact flagBits_of_flags (by simp) f
  split
  · exact flagBits_of_flags (by simp) f
  · rfl

/-- What the completions of an emergency stop keep. -/
theorem motionsStopped_keeps (P : State → Prop) (h : P s)
    (hP : ∀ o t, P t → P (finishMotion o .abortedEstop t)) : P (motionsStopped s) := by
  refine foldl_keeps P estopOverride _ _ (foldl_keeps P estopSlot _ _ h fun t i ht => ?_) fun t a ht => ?_
  · unfold estopSlot
    exact ite_keeps P _ _ _ (hP _ _ ht) ht
  · unfold estopOverride
    exact ite_keeps P _ _ _ ht (hP _ _ ht)

/-- An emergency stop raises MOVE_FAILED alone, and a walk that it sets off LOAD_SHED. -/
theorem emergencyStop_flags : FlagsKeptBut [.moveFailed, .loadShed] s (emergencyStop s) := fun f hf => by
  obtain ⟨hfailed, hshed⟩ : f ≠ .moveFailed ∧ f ≠ .loadShed := by simpa using hf
  rw [emergencyStop_eq, endMotion_flags _ f (by simpa using hshed)]
  refine motionsStopped_keeps s (fun t => flagBits t f = flagBits s f) rfl fun o t ht => ?_
  rw [finishMotion_flags t o _ f (by simpa [resultFlag, MotionResult.isDone] using hfailed), ht]

theorem emergencyStop_arbiterKeeps : ArbiterKeeps s (emergencyStop s) := by
  rw [emergencyStop_eq]
  exact .trans (motionsStopped_keeps s (ArbiterKeeps s) (.refl s)
    fun o t ht => ht.trans (finishMotion_arbiterKeeps t o _)) (endMotion_arbiterKeeps _)

end

/-! ## The edge of ESTOP -/

section
variable {s t : State} {i : Fin 16} {n : Nat} {xs : List Bool}

/-- The events whose states the conditions read, beside ESTOP (R140, R146). -/
def conditionEvents : List InputEvent := [.ignitionOn, .stepInLimit, .stepOutLimit, .awningInLimit]

/-- What the condition of one flag reads: ESTOP for ESTOP_ACTIVE alone, the lockout for WIND_LOCKOUT alone, the
positions for ROAD_UNSAFE alone. -/
theorem conditionHolds_of_reads {f : Flag}
    (hestop : f = .estopActive → eventActive t .estop = eventActive s .estop)
    (hwind : f = .windLockout → t.wind.lockout = s.wind.lockout) (hm : t.meter = s.meter)
    (ha : ∀ e ∈ conditionEvents, eventActive t e = eventActive s e)
    (he : ∀ e, eventMapped t e = eventMapped s e) (hk : t.tanks.recs = s.tanks.recs)
    (hfresh : t.tanks.fresh = s.tanks.fresh) (hg : t.tanks.grey = s.tanks.grey)
    (hh : t.heater.sensor = s.heater.sensor) (hp : f = .roadUnsafe → t.act.posMs = s.act.posMs)
    (hs : f = .roadUnsafe → t.act.stepMs = s.act.stepMs) (hq : t.params = s.params) :
    conditionHolds t f = conditionHolds s f := by
  simp only [conditionEvents, List.forall_mem_cons] at ha
  cases f <;>
    simp_all [conditionHolds, roadUnsafe, stepStowed, stepPosition, awningStowed, sensorLost,
      meterSensorLost, tankSensorLost, stepSensorLost]

/-- The effect of the edge, before the end of its command. -/
def estopEdge (s : State) (i : Fin 16) : State := wake (touchIdle (emergencyStop (joinedAt s i true)))

theorem exec_estopEdge (h : EdgeAt i .estop true n xs s) (order : List HandOff) :
    exec (.debounceComplete i xs order) s = .next (settle s (estopEdge s i)) := by
  rw [exec_edge h (by decide), changeBinding_edge h (by decide)]
  simp only [edgeAct, if_true, arbitrate_emergencyStop, estopEdge, wakeIf, alwaysWakes, Bool.true_or]

theorem estopEdge_motion (s : State) (i : Fin 16) :
    (estopEdge s i).motion = (emergencyStop (joinedAt s i true)).motion := by
  simp [estopEdge]

theorem estopEdge_active (s : State) (i : Fin 16) (e : InputEvent) :
    eventActive (estopEdge s i) e = eventActive (joinedAt s i true) e :=
  (eventActive_wake _ e).trans (eventActive_of_pins (by simp) e)

theorem estopEdge_mapped (s : State) (i : Fin 16) (e : InputEvent) :
    eventMapped (estopEdge s i) e = eventMapped (joinedAt s i true) e :=
  (eventMapped_wake _ e).trans (eventMapped_of_pins (by simp) e)

theorem estopEdge_power (s : State) (i : Fin 16) :
    (estopEdge s i).time.power = if asleep s then .leaving else s.time.power := by
  have hpower : (touchIdle (emergencyStop (joinedAt s i true))).time.power = s.time.power := by
    simp [joinedAt]
  rw [estopEdge, wake_power, asleep_congr hpower, hpower]

theorem estopEdge_frame (s : State) (i : Fin 16) :
    OnlyCompleteWake (estopEdge s i) (touchIdle (joinedAt s i true)) := by
  have hidle : ∀ u : State, (touchIdle u).time.idleDue = none := fun _ => rfl
  simp [OnlyCompleteWake, estopEdge, hidle]

/-- What the edge can change, as one equation. -/
theorem eq_of_estopEdge (ht : t = settle s (estopEdge s i)) :
    t = { afterWalk (afterEvent s t) t with
      heater := { (afterWalk (afterEvent s t) t).heater with cabinDue := t.heater.cabinDue }
      tanks :=
        { (afterWalk (afterEvent s t) t).tanks with
          senderDue := t.tanks.senderDue
          tempDue := t.tanks.tempDue }
      drive := t.drive
      motion := t.motion
      pins := t.pins
      time := { s.time with power := t.time.power, idleDue := t.time.idleDue } } := by
  have hevent : t = afterEvent (estopEdge s i) t := ht ▸ settle_eq_afterEvent s _
  have hframe := estopEdge_frame s i
  have hedge : t = { afterWalk (afterEvent (touchIdle (joinedAt s i true)) t) t with
      heater := { (afterWalk (afterEvent (touchIdle (joinedAt s i true)) t) t).heater with
        cabinDue := t.heater.cabinDue }
      tanks := { (afterWalk (afterEvent (touchIdle (joinedAt s i true)) t) t).tanks with
        senderDue := t.tanks.senderDue, tempDue := t.tanks.tempDue }
      drive := t.drive
      motion := t.motion
      pins := t.pins
      time := { (touchIdle (joinedAt s i true)).time with
        power := t.time.power, idleDue := t.time.idleDue } } := by
    rw [hevent]
    simp only [afterWalk, afterEvent, hframe]
  exact hedge

theorem estopEdge_origins (s : State) (i : Fin 16) : OriginsKeptBut [chDrive] s (estopEdge s i) := by
  obtain ⟨horigins, -⟩ := emergencyStop_arbiterKeeps (joinedAt s i true)
  exact fun ch hch => (origins_of_table (by simp [estopEdge]) ch).trans (horigins ch hch)

theorem estopEdge_flags (hs : Settled s) (h : EdgeAt i .estop true n xs s) :
    FlagsKeptBut [.estopActive, .moveFailed, .loadShed] s (settle s (estopEdge s i)) := fun f hf => by
  obtain ⟨hactive, hothers⟩ : f ≠ .estopActive ∧ f ∉ [Flag.moveFailed, .loadShed] := by simpa using hf
  have hflag : flagBits (estopEdge s i) f = flagBits s f :=
    (flagBits_of_flags (by simp [estopEdge]) f).trans (emergencyStop_flags (joinedAt s i true) f hothers)
  refine flagBits_settle_of_kept hs.1 (conditionHolds_of_reads (fun he => absurd he hactive) ?_ ?_
    (fun e he => ?_) (fun e => ?_) ?_ ?_ ?_ ?_ ?_ ?_ ?_) hflag
  case refine_3 =>
    rw [estopEdge_active, joinedAt_active_other h (by rintro rfl; simp [conditionEvents] at he)]
  case refine_4 => rw [estopEdge_mapped, joinedAt_mapped h]
  all_goals simp [estopEdge, joinedAt]

/-- The obligation's words for the debounce of a rising edge of ESTOP. -/
theorem edgeAt_estop {w : Bool} {pol : Polarity} {m : PinMode}
    (hpin : pinAt s i = ⟨m, pol, some (.input .estop), w, .joined false n⟩)
    (hoff : eventActive s .estop = false) (hn : n < (if s.time.power = .dormant then 2 else 20))
    (hxs : xs = List.replicate ((if s.time.power = .dormant then 2 else 20) - n)
      (decide (pol = .activeHigh))) : EdgeAt i .estop true n xs s := by
  have hcount : debounceCount .estop s.time.power = if s.time.power = .dormant then 2 else 20 := by
    simp [debounceCount]
  refine ⟨by rw [hpin], by rw [hpin]; rfl, hcount ▸ hn, ?_, fun j _ hj => ?_⟩
  · rw [hxs, hpin, hcount, Bool.true_beq]
  · rw [(eventActive_iff _ _).mpr ⟨j, hj⟩] at hoff
    cases hoff

end

/-- Settles O50: the emergency stop leaves the arbiter no claimant, so that its own outcome is that of the
edge. -/
theorem emergencyStopEndsEveryMotion : Obligations.EmergencyStopEndsEveryMotion := by
  intro s i samples order w n pol m hpin hoff hn hxs hs
  have hedge := edgeAt_estop hpin hoff hn hxs
  have hmotion : (settle s (estopEdge s i)).motion = (emergencyStop (joinedAt s i true)).motion := by
    simpa using estopEdge_motion s i
  have hslot : ∀ j, slotAt (settle s (estopEdge s i)) j =
      if (slotAt s j).holdsMotion = true then (slotAt s j).ended .abortedEstop else slotAt s j := fun j =>
    (slotAt_of_motion (by rw [hmotion]) j).trans (slotAt_emergencyStop (joinedAt s i true) j)
  have hoverride : ∀ b, overrideOf (settle s (estopEdge s i)) b =
      if (overrideOf s b).state = .none then overrideOf s b else (overrideOf s b).ended .abortedEstop :=
    fun b => (overrideOf_of_motion hmotion b).trans (overrideOf_emergencyStop (joinedAt s i true) b)
  have hstage := emergencyStop_stage (joinedAt s i true)
  have hdrive : (settle s (estopEdge s i)).drive = (emergencyStop (joinedAt s i true)).drive := by
    simp [estopEdge]
  have hactive : eventActive (settle s (estopEdge s i)) .estop = true := by
    rw [eventActive_of_pins (s := estopEdge s i) (by simp), estopEdge_active, (joinedAt_active hedge).2]
  have hpower : (settle s (estopEdge s i)).time.power = (estopEdge s i).time.power := by simp
  refine ⟨_, exec_estopEdge hedge order, hactive, ?flag, fun j hj => slotEnded_of_eq ?ended, fun j hj => ?kept,
    fun a _ => ⟨?none, fun ha => ?result⟩, by rw [hdrive]; exact hstage.1, fun hw => ?braking,
    hpower.trans (estopEdge_power s i), fun ch hch => ?origins, estopEdge_flags hs hedge, eq_of_estopEdge rfl⟩
  case flag => exact (flagsStand_iff _).mp (settle_settled _ _).1 .estopActive hactive
  case ended => rw [hslot, if_pos (by rcases hj with hj | hj <;> simp [Slot.holdsMotion, hj])]
  case kept => rw [hslot, if_neg (by rcases hj with hj | hj <;> simp [Slot.holdsMotion, hj])]
  case none =>
    rw [hoverride]
    split
    · assumption
    · rfl
  case result => rw [hoverride, if_neg ha]; rfl
  case braking => rw [hdrive]; exact hstage.2 hw
  case origins => rw [settle_origins, estopEdge_origins s i ch hch]

end Sys2Proof.Machine
end

section
/-! PROOFS. A post of a motion (R122): by MOVE_POST, by the switches and by the door (R150 to R152). -/

namespace Sys2Proof.Machine

/-! ## The post that a ring takes -/

/-- A motion as its post leaves it in the ring (R122). -/
def postedSlot (act : MoveAction) (target : Nat) (notify : Bool) (origin : MoveOrigin) : Slot :=
  ⟨.ready, act, if act = .moveTo then some target else none, notify, origin, none, 0, 0⟩

/-- The ring with a motion in the slot after its tail, and the wake that comes with it (R122, R190). -/
def withPost (a : Actuator) (x : Slot) (s : State) : State :=
  wake (setTail (setSlot s (nextSlot s a (tailOf s a)) x) a (nextSlot s a (tailOf s a)))

section
variable {s : State} {a : Actuator} {act : MoveAction} {target : Nat} {notify : Bool} {origin : MoveOrigin}

theorem postMotion_accepted (h : TargetFits a act target) (hr : RingTakes a s) :
    postMotion a act target notify origin s =
      (.accepted, some (nextSlot s a (tailOf s a)),
        arbitrate (withPost a (postedSlot act target notify origin) s)) := by
  obtain ⟨he, hfree⟩ := hr
  have hholds : (slotAt s (nextSlot s a (tailOf s a))).holdsMotion = false := by
    unfold Slot.holdsMotion
    rcases hfree with hx | hx <;> simp [hx]
  unfold postMotion
  simp only [targetFits_judged h, he, hholds, Bool.false_eq_true, if_false]
  rfl

theorem withPost_power (a : Actuator) (x : Slot) (s : State) :
    (withPost a x s).time.power = if asleep s then .leaving else s.time.power := by
  have hpower : (setTail (setSlot s (nextSlot s a (tailOf s a)) x) a (nextSlot s a (tailOf s a))).time.power =
      s.time.power := by simp
  rw [withPost, wake_power, asleep_congr hpower, hpower]

/-- A post leaves the part awake. -/
theorem asleep_of_woken {u : State} (h : u.time.power = if asleep s then .leaving else s.time.power) :
    asleep u = false := by
  unfold asleep at h ⊢
  split at h <;> simp_all

theorem wake_of_not_dormant (h : s.time.power ≠ .dormant) :
    wake s = s.setTime { s.time with
      power := if s.time.power = .entering then .leaving else s.time.power } := by
  have hsame : s = s.setTime { s.time with power := s.time.power } := rfl
  unfold wake
  split
  · next hd => exact absurd hd h
  · next he => rw [if_pos he]
  · next ha => rwa [if_neg (by simp [ha])]
  · next hl => rwa [if_neg (by simp [hl])]

end

/-! ## MOVE_POST (R122) -/

section
variable {s : State} {tag : Byte} {a : Actuator} {act : MoveAction} {target : Fin 65536} {notify : Bool}

theorem toNat_actuator (a : Actuator) : (BitVec.ofNat 8 a.code).toNat = a.code := by
  cases a <;> rfl

theorem toNat_moveAction (m : MoveAction) : (BitVec.ofNat 8 m.code).toNat = m.code := by
  cases m <;> rfl

/-- The payload of MOVE_POST (R217). -/
def postBytes (a : Actuator) (act : MoveAction) (target : Fin 65536) (notify : Bool) : List Byte :=
  BitVec.ofNat 8 a.code :: BitVec.ofNat 8 act.code :: (u16 target.val ++ flag8 notify)

theorem execMovePost_accepted (h : TargetFits a act target.val) (hr : RingTakes a s)
    (hat : RequestAt 7 tag (postBytes a act target notify) s) :
    exec (.movePost tag (postBytes a act target notify)) s =
      .next (settle s (answer (BitVec.ofNat 8 7) tag
        [0#8, BitVec.ofNat 8 a.code, BitVec.ofNat 8 (nextSlot s a (tailOf s a)).val]
        (arbitrate (withPost a (postedSlot act target.val notify .host) s)))) := by
  have hflag : flag8 notify = [BitVec.ofNat 8 (if notify then 1 else 0)] := rfl
  have hreply : movePostReply .accepted (BitVec.ofNat 8 a.code) (some (nextSlot s a (tailOf s a))) =
      [0#8, BitVec.ofNat 8 a.code, BitVec.ofNat 8 (nextSlot s a (tailOf s a)).val] := rfl
  simp only [postBytes, hflag] at hat ⊢
  rw [← hreply]
  refine execMovePost_eq hat ?_
  rw [parseFlag_flag8, postCodes_known (toNat_actuator a) (toNat_moveAction act), postMotion_accepted h hr]

/-- The frame of a post, as one equation. -/
theorem eq_of_post {x : Slot} {reply : List Byte} {t : State} (hp : s.time.power ≠ .dormant)
    (ht : t = afterEvent (answered 7 tag reply (arbitrate (withPost a x s))) t) :
    t = { afterWalk (afterRequest s t) t with
      drive := { t.drive with
        gap := s.drive.gap
        lastActuator := s.drive.lastActuator
        stallCount := s.drive.stallCount
        legTime := s.drive.legTime
        blank := s.drive.blank
        stallDue := s.drive.stallDue }
      motion := t.motion
      time := { s.time with power := t.time.power, idleDue := t.time.idleDue } } := by
  have hwake := wake_of_not_dormant (s := setTail (setSlot s (nextSlot s a (tailOf s a)) x) a
    (nextSlot s a (tailOf s a))) (by simpa using hp)
  generalize hb : withPost a x s = b at ht
  rw [withPost, hwake] at hb
  have hforth := arbitrate_frame b
  have hframe : OnlyArbiter (arbitrate b) b := by simp only [OnlyArbiter, hforth, and_self]
  have hposted : t = { afterWalk (afterRequest b t) t with
      drive := { t.drive with
        gap := b.drive.gap
        lastActuator := b.drive.lastActuator
        stallCount := b.drive.stallCount
        legTime := b.drive.legTime
        blank := b.drive.blank
        stallDue := b.drive.stallDue }
      motion := t.motion
      time := { b.time with power := t.time.power, idleDue := t.time.idleDue } } := by
    rw [ht]
    simp only [afterWalk, afterRequest, afterEvent, answered, State.setLink, hframe]
  rw [← hb] at hposted
  cases a <;> exact hposted

/-- While the arbiter does not act, a post changes its slot and the tail alone, but for a wake. -/
theorem arbitrate_post_idle {x : Slot} (hp : s.time.power ≠ .dormant)
    (h : s.drive.stage ≠ .idle ∨ s.time.power ≠ .active) :
    (arbitrate (withPost a x s)).motion.slots = vput s.motion.slots (nextSlot s a (tailOf s a)) x ∧
      (arbitrate (withPost a x s)).drive = s.drive ∧ (arbitrate (withPost a x s)).table = s.table := by
  have hrest : arbitrate (withPost a x s) = withPost a x s := by
    rcases h with h | h
    · exact arbitrate_of_busy (by simpa [withPost] using h)
    · refine arbitrate_of_inactive ?_
      rw [withPost_power]
      split
      · simp
      · exact h
  rw [hrest, withPost, wake_of_not_dormant (by simpa using hp)]
  cases a <;> exact ⟨rfl, rfl, rfl⟩

end

/-- The answer of a request whose effect `u` is a post. -/
theorem answered_post {s u t : State} {tag : Byte} {reply : List Byte} (hs : Settled s)
    (hframe : OnlyPost s u) (hacted : Acted s u) (ht : t = settle s (answered 7 tag reply u)) :
    Replied 7 tag reply s t ∧ t.motion = u.motion ∧ t.drive = u.drive ∧ t.table = u.table ∧
      t.time.power = u.time.power ∧ FlagsKeptBut [.moveDone, .moveFailed, .loadShed] s t := by
  have hlink : u.link.inbox = s.link.inbox ∧ u.link.replies = s.link.replies ∧ u.link.tx = s.link.tx := by
    simp only [hframe, and_self]
  refine ⟨⟨?_, ?_, ?_⟩, by simp [ht, answered], by simp [ht, answered], by simp [ht, answered],
    by simp [ht, answered], ht ▸ settle_flagsKept hs (fun f => ?conditions) hacted.flags⟩
  case conditions =>
    rw [conditionHolds_answered]
    refine conditionHolds_of_units ?_ hacted.active hacted.mapped ?_ ?_ ?_ ?_ ?_ ?_ ?_ ?_ f <;>
      simp only [hframe]
  all_goals simp [ht, answered, hlink]

theorem arbitrate_post_power {s : State} {a : Actuator} {x : Slot} (hp : s.time.power ≠ .dormant) :
    (arbitrate (withPost a x s)).time.power =
      if s.time.power = .entering then .leaving else s.time.power := by
  have harbiter : (arbitrate (withPost a x s)).time.power = (withPost a x s).time.power := by simp
  rw [harbiter, withPost_power]
  unfold asleep
  split <;> simp_all

/-- O44's first part: MOVE_POST. -/
theorem movePost_fills (s : State) (tag : Byte) (a : Actuator) (act : MoveAction) (target : Fin 65536)
    (notify : Bool) (h : TargetFits a act target.val) (hr : RingTakes a s)
    (hat : RequestAt 7 tag (postBytes a act target notify) s) (hs : Settled s) :
    let i := nextSlot s a (tailOf s a)
    ∃ t, exec (.movePost tag (postBytes a act target notify)) s = .next t ∧
      Replied 7 tag [0#8, BitVec.ofNat 8 a.code, BitVec.ofNat 8 i.val] s t ∧
      Posted a act (if act = .moveTo then some target.val else none) notify .host s t ∧
      (s.drive.stage ≠ .idle ∨ s.time.power ≠ .active →
        t.motion.slots = vput s.motion.slots i (postedSlot act target.val notify .host) ∧
          t.drive = s.drive ∧ t.table = s.table) ∧
      t.time.power = (if s.time.power = .entering then .leaving else s.time.power) ∧
      OriginsKeptBut [chDrive] s t ∧ FlagsKeptBut [.moveDone, .moveFailed, .loadShed] s t ∧
      t = { afterWalk (afterRequest s t) t with
        drive := { t.drive with
          gap := s.drive.gap
          lastActuator := s.drive.lastActuator
          stallCount := s.drive.stallCount
          legTime := s.drive.legTime
          blank := s.drive.blank
          stallDue := s.drive.stallDue }
        motion := t.motion
        time := { s.time with power := t.time.power, idleDue := t.time.idleDue } } := by
  intro i
  have hawake := not_dormant_of_requestAt hat
  have hidle := arbitrate_post_idle (a := a) (x := postedSlot act target.val notify .host) hawake
  have hpower := arbitrate_post_power (a := a) (x := postedSlot act target.val notify .host) hawake
  have hrun := execMovePost_accepted h hr hat
  have hevent := fun t => eq_of_post (t := t) (tag := tag) (a := a) (x := postedSlot act target.val notify .host)
    (reply := [0#8, BitVec.ofNat 8 a.code, BitVec.ofNat 8 i.val]) hawake
  obtain ⟨u, hu⟩ : ∃ u, (postMotion a act target.val notify .host s).2.2 = u := ⟨_, rfl⟩
  have hposted := (postMotion_posted (notify := notify) (origin := .host) h hr).2
  have hacted := postMotion_acted s a act target.val notify .host
  have hkeeps := postMotion_arbiterKeeps s a act target.val notify .host
  have hframe := postMotion_frame a act target.val notify .host s
  rw [hu] at hposted hacted hkeeps hframe
  rw [postMotion_accepted h hr] at hu
  dsimp only at hu
  simp only [hu] at hidle hpower hrun hevent
  have hheld : u.time.power ≠ .dormant := by
    rw [hpower]
    split
    · simp
    · exact hawake
  rw [answer_eq_answered _ _ _ _ hheld] at hrun
  obtain ⟨t, ht⟩ : ∃ t, t = settle s (answered 7 tag
    [0#8, BitVec.ofNat 8 a.code, BitVec.ofNat 8 i.val] u) := ⟨_, rfl⟩
  obtain ⟨hreplied, hmotion, hdrive, htable, htime, hflags⟩ := answered_post hs hframe hacted ht
  have hafter := settle_eq_afterEvent s (answered 7 tag
    [0#8, BitVec.ofNat 8 a.code, BitVec.ofNat 8 i.val] u)
  obtain ⟨horigins, -⟩ := hkeeps
  rw [← ht] at hrun hafter
  refine ⟨t, hrun, hreplied, hposted.of_motion hmotion, fun hbusy => ?busy, htime.trans hpower,
    fun ch hch => (origins_of_table htable ch).trans (horigins ch hch), hflags, hevent t hafter⟩
  case busy =>
    obtain ⟨hslots, hd, htab⟩ := hidle hbusy
    exact ⟨by rw [hmotion, hslots], hdrive.trans hd, htable.trans htab⟩

end Sys2Proof.Machine
end

section
/-! PROOFS. The posts of the switches and of the door (R150 to R152). -/

namespace Sys2Proof.Machine

/-! ## A switch's post -/

/-- In `v` the rings, the geometry, the emergency stop and the power state are those of `s`. -/
structure RingsAs (s v : State) : Prop where
  motion : v.motion = s.motion
  params : v.params = s.params
  estop : eventActive v .estop = eventActive s .estop
  power : v.time.power = s.time.power

section
variable {s v : State} {a : Actuator} {act : MoveAction}

theorem nextSlot_congr (hq : v.params = s.params) (a : Actuator) : nextSlot v a = nextSlot s a := by
  have hend : ringEnd v a = ringEnd s a := by cases a <;> simp [ringEnd, hq]
  have hfirst : ringFirst v a = ringFirst s a := by cases a <;> simp [ringFirst, hq]
  funext j
  simp only [nextSlot, hend, hfirst]

theorem RingsAs.tailOf (h : RingsAs s v) (a : Actuator) : tailOf v a = Machine.tailOf s a :=
  tailOf_of_tails (by rw [h.motion]) (by rw [h.motion]) a

theorem RingsAs.takes (h : RingsAs s v) (a : Actuator) : RingTakes a v ↔ RingTakes a s := by
  have hslot : ∀ j, slotAt v j = slotAt s j := slotAt_of_motion (by rw [h.motion])
  simp only [RingTakes, h.estop, nextSlot_congr h.params, h.tailOf, hslot]

theorem RingsAs.posted (h : RingsAs s v) {u : State} {target : Option Nat} {notify : Bool}
    {origin : MoveOrigin} (hp : Posted a act target notify origin v u) :
    Posted a act target notify origin s u := by
  simpa only [Posted, nextSlot_congr h.params, h.tailOf] using hp

theorem targetFits_zero (hact : act ≠ .moveTo) : TargetFits a act 0 := fun h => absurd h hact

/-- A switch's post into a ring that takes it. -/
theorem switchPost_posts (h : RingsAs s v) (hact : act ≠ .moveTo) (hr : RingTakes a s) :
    Posted a act none true .switch s (switchPost a act v) ∧
      (switchPost a act v).time.power = if asleep s then .leaving else s.time.power := by
  have hv := (h.takes a).mpr hr
  obtain ⟨-, hposted⟩ := postMotion_posted (notify := true) (origin := .switch) (targetFits_zero hact) hv
  rw [if_neg hact] at hposted
  refine ⟨h.posted hposted, ?_⟩
  have harbiter : ∀ b, (arbitrate b).time.power = b.time.power := fun b => by simp
  rw [switchPost, postMotion_accepted (targetFits_zero hact) hv, harbiter, withPost_power,
    asleep_congr h.power, h.power]

/-- A switch's post that the ring does not take is dropped. -/
theorem switchPost_dropped (h : RingsAs s v) (hact : act ≠ .moveTo) (hr : ¬ RingTakes a s) :
    switchPost a act v = v := by
  have hv : ¬ RingTakes a v := fun hv => hr ((h.takes a).mp hv)
  unfold switchPost
  cases he : eventActive v .estop with
  | true => rw [postMotion_estop (targetFits_zero hact) he]
  | false => rw [postMotion_full (targetFits_zero hact) he hv]

end

/-! ## What an edge posts -/

section
variable {s : State} {i : Fin 16} {e : InputEvent} {rising : Bool} {n : Nat} {xs : List Bool}

theorem joinedAt_ringsAs (h : EdgeAt i e rising n xs s) (he : e ≠ .estop) :
    RingsAs s (joinedAt s i rising) := ⟨rfl, rfl, joinedAt_active_other h he.symm, rfl⟩

/-- The step position reads the step's limit switches and its count (R140). -/
theorem stepPosition_congr {t : State} (hin : eventActive t .stepInLimit = eventActive s .stepInLimit)
    (hout : eventActive t .stepOutLimit = eventActive s .stepOutLimit)
    (hmin : eventMapped t .stepInLimit = eventMapped s .stepInLimit)
    (hmout : eventMapped t .stepOutLimit = eventMapped s .stepOutLimit)
    (hms : t.act.stepMs = s.act.stepMs) (hq : t.params = s.params) : stepPosition t = stepPosition s := by
  simp only [stepPosition, hin, hout, hmin, hmout, hms, hq]

theorem joinedAt_stepPosition (h : EdgeAt i e rising n xs s) (hin : e ≠ .stepInLimit)
    (hout : e ≠ .stepOutLimit) : stepPosition (joinedAt s i rising) = stepPosition s :=
  stepPosition_congr (joinedAt_active_other h hin.symm) (joinedAt_active_other h hout.symm)
    (joinedAt_mapped h _) (joinedAt_mapped h _) rfl rfl

/-- A press posts as the step position says (R150). -/
theorem stepPress_eq (v : State) :
    stepPress v =
      switchPost .step
        (if stepPosition v = .deployed ∨ stepPosition v = .between then .retract else .extend) v := by
  unfold stepPress
  cases h : stepPosition v <;> simp

/-- The door posts where auto-step is on, the ignition off and the step stowed (R152). -/
def DoorSteps (s : State) : Prop :=
  s.params.autoStep = true ∧ eventActive s .ignitionOn = false ∧ stepPosition s = .stowed

theorem doorStep_posting (h : DoorSteps s) : doorStep true s = switchPost .step .extend s := by
  obtain ⟨hauto, hoff, hstowed⟩ := h
  simp [doorStep, hauto, hoff, stepStowed, hstowed]

theorem doorStep_silent (h : rising = false ∨ ¬ DoorSteps s) : doorStep rising s = s := by
  rw [doorStep, if_neg]
  intro hact
  simp only [Bool.and_eq_true, Bool.not_eq_true', stepStowed, decide_eq_true_eq] at hact
  obtain ⟨⟨⟨hrising, hauto⟩, hoff⟩, hstowed⟩ := hact
  rcases h with h | h
  · simp [h] at hrising
  · exact h ⟨hauto, hoff, hstowed⟩

theorem entryDoor_ringsAs (rising : Bool) (v : State) : RingsAs v (entryDoor rising v) :=
  ⟨by simp, by simp, eventActive_of_pins (by simp) _, by simp⟩

theorem entryDoor_doorSteps (rising : Bool) (v : State) : DoorSteps (entryDoor rising v) ↔ DoorSteps v := by
  have ha := eventActive_of_pins (s := v) (t := entryDoor rising v) (by simp)
  have hm := eventMapped_of_pins (s := v) (t := entryDoor rising v) (by simp)
  have hposition : stepPosition (entryDoor rising v) = stepPosition v :=
    stepPosition_congr (ha _) (ha _) (hm _) (hm _) (by simp) (by simp)
  have hauto : (entryDoor rising v).params = v.params := by simp
  simp only [DoorSteps, hposition, hauto, ha]

/-- The door's two hand-offs: what the one for the step does, before or after the lamps'. -/
theorem doorEdge_motion (order : List HandOff) (rising : Bool) (v : State) :
    ∃ w, RingsAs v w ∧ (DoorSteps w ↔ DoorSteps v) ∧
      (doorEdge rising order v).motion = (doorStep rising w).motion ∧
      (doorEdge rising order v).time.power = (doorStep rising w).time.power := by
  unfold doorEdge
  rcases inOrder_pair order (by decide : HandOff.doorLamps ≠ .doorMotion) (entryDoor rising)
    (doorStep rising) v with hd | hd <;> rw [hd]
  · exact ⟨_, entryDoor_ringsAs rising v, entryDoor_doorSteps rising v, rfl, rfl⟩
  · exact ⟨v, ⟨rfl, rfl, rfl, rfl⟩, .rfl, by simp, by simp⟩

/-- From `s` the edge's act has left `u`: the post of `a` where the ring takes it, or nothing (R150 to R152). -/
structure PostsOn (cond : Prop) (a : Actuator) (act : MoveAction) (s u : State) : Prop where
  posted : cond → RingTakes a s → Posted a act none true .switch s u ∧
    u.time.power = if asleep s then .leaving else s.time.power
  dropped : ¬ cond ∨ ¬ RingTakes a s → u.motion = s.motion

theorem postsOn_switch {v : State} {a : Actuator} {act : MoveAction} (h : RingsAs s v) (hact : act ≠ .moveTo) :
    PostsOn (rising = true) a act s (if rising then switchPost a act v else v) := by
  refine ⟨fun hrising hr => by rw [if_pos hrising]; exact switchPost_posts h hact hr, fun hno => ?_⟩
  cases rising with
  | false => exact h.motion
  | true =>
    have hr : ¬ RingTakes a s := hno.resolve_left (by simp)
    rw [if_pos rfl, switchPost_dropped h hact hr, h.motion]

theorem postsOn_door (h : EdgeAt i .doorOpen rising n xs s) (order : List HandOff) :
    PostsOn (rising = true ∧ DoorSteps s) .step .extend s
      (doorEdge rising order (joinedAt s i rising)) := by
  have hv := joinedAt_ringsAs h (by decide)
  have hdoor : DoorSteps (joinedAt s i rising) ↔ DoorSteps s := by
    simp only [DoorSteps, joinedAt_stepPosition h (by decide) (by decide),
      joinedAt_active_other h (by decide : InputEvent.ignitionOn ≠ .doorOpen)]
    rfl
  obtain ⟨w, hw, hsteps, hmotion, hpower⟩ := doorEdge_motion order rising (joinedAt s i rising)
  have hrings : RingsAs s w := ⟨hw.motion.trans hv.motion, hw.params.trans hv.params,
    hw.estop.trans hv.estop, hw.power.trans hv.power⟩
  have hsilent : ∀ u : State, u.motion = (doorStep rising w).motion → doorStep rising w = w → u.motion = s.motion :=
    fun u hu hstep => by rw [hu, hstep, hrings.motion]
  refine ⟨fun ⟨hrising, hd⟩ hr => ?_, fun hno => ?_⟩
  · subst hrising
    rw [doorStep_posting (hsteps.mpr (hdoor.mpr hd))] at hmotion hpower
    obtain ⟨hposted, hwoken⟩ := switchPost_posts (act := .extend) hrings (by decide) hr
    exact ⟨hposted.of_motion hmotion, hpower.trans hwoken⟩
  · by_cases hposts : rising = true ∧ DoorSteps s
    · obtain ⟨rfl, hd⟩ := hposts
      have hr : ¬ RingTakes .step s := hno.resolve_left (by simp [hd])
      refine hsilent _ hmotion ?_
      rw [doorStep_posting (hsteps.mpr (hdoor.mpr hd)), switchPost_dropped hrings (by decide) hr]
    · refine hsilent _ hmotion (doorStep_silent ?_)
      cases rising with
      | false => exact .inl rfl
      | true => exact .inr fun hd => hposts ⟨rfl, hdoor.mp (hsteps.mp hd)⟩

/-- The end of an edge whose act posts, or not. -/
theorem EdgeEnd.postsOn {cond : Prop} {a : Actuator} {act : MoveAction} {wakes : Bool} {u t : State}
    (h : EdgeEnd wakes u t) (hu : PostsOn cond a act s u) : PostsOn cond a act s t := by
  refine ⟨fun hc hr => ?_, fun hno => h.motion.trans (hu.dropped hno)⟩
  obtain ⟨hposted, hpower⟩ := hu.posted hc hr
  refine ⟨hposted.of_motion h.motion, ?_⟩
  rw [h.power, asleep_of_woken hpower, Bool.and_false]
  exact hpower

/-- O44's second part: the edges that post. -/
theorem edge_posts (h : EdgeAt i e rising n xs s) (order : List HandOff) {a : Actuator} {act : MoveAction}
    (hwhich : (e = .stepSwitch ∧ a = .step ∧
        act = (if stepPosition s = .deployed ∨ stepPosition s = .between then .retract else .extend)) ∨
      (e = .awningOutSwitch ∧ a = .awning ∧ act = .extend) ∨
      (e = .awningInSwitch ∧ a = .awning ∧ act = .retract) ∨
      (e = .doorOpen ∧ a = .step ∧ act = .extend)) :
    ∃ t, exec (.debounceComplete i xs order) s = .next t ∧
      PostsOn (rising = true ∧ (e = .doorOpen → DoorSteps s)) a act s t := by
  obtain ⟨t, ht, hend⟩ := exec_edge_motions h (by rintro rfl; simp at hwhich) (by rintro rfl; simp at hwhich)
    order
  refine ⟨t, ht, hend.postsOn ?_⟩
  rcases hwhich with ⟨rfl, rfl, rfl⟩ | ⟨rfl, rfl, rfl⟩ | ⟨rfl, rfl, rfl⟩ | ⟨rfl, rfl, rfl⟩
  · simp only [edgeAct, stepPress_eq, joinedAt_stepPosition h (by decide) (by decide)]
    simpa using postsOn_switch (rising := rising) (joinedAt_ringsAs h (by decide)) (by split <;> simp)
  · simpa [edgeAct] using postsOn_switch (rising := rising) (act := .extend)
      (joinedAt_ringsAs h (by decide)) (by decide)
  · simpa [edgeAct] using postsOn_switch (rising := rising) (act := .retract)
      (joinedAt_ringsAs h (by decide)) (by decide)
  · simpa [edgeAct] using postsOn_door h order

end

/-- Settles O44: MOVE_POST by `movePost_fills`, the switches and the door by `edge_posts`. -/
theorem movePostFillsTheNextSlot : Obligations.MovePostFillsTheNextSlot := by
  refine ⟨fun s tag a act target notify hfit he hfree hat hs => ?request,
    fun s i e a act rising n xs order h hs hwhich => ?edge⟩
  case request =>
    obtain ⟨t, ht, hreplied, hposted, hbusy, hpower, horigins, hflags, hframe⟩ :=
      movePost_fills s tag a act target notify hfit ⟨he, hfree⟩ hat hs
    obtain ⟨htail, hother, -, haction, htarget, hnotify, horigin, hretries, hrunTime⟩ := hposted
    exact ⟨t, ht, hreplied, htail, hother, haction, htarget, hnotify, horigin, hretries, hrunTime, hbusy,
      hpower, horigins, hflags, hframe⟩
  case edge =>
    obtain ⟨t, ht, hposts⟩ := edge_posts h order hwhich
    refine ⟨t, ht, fun hrising hr hdoor => hposts.posted ⟨hrising, hdoor⟩ hr, fun hno => hposts.dropped ?_⟩
    rcases hno with hno | hno | ⟨he, hno⟩
    · exact .inl fun hc => by simp [hno] at hc
    · exact .inr hno
    · refine .inl fun ⟨_, hdoor⟩ => ?_
      obtain ⟨hauto, hoff, hstowed⟩ := hdoor he
      rcases hno with hno | hno | hno
      · simp [hno] at hauto
      · simp [hno] at hoff
      · exact hno hstowed

end Sys2Proof.Machine
end

section
/-! PROOFS. The pulses of the wind sensor (R147, R163). -/

namespace Sys2Proof.Machine

section
variable {s : State} {i : Fin 16} {level c : Bool} {n : Nat}

/-- What a change of level of the pin does, from the state in which its binding has changed (R163). -/
def pulseActed (s : State) (i : Fin 16) (c : Bool) : State :=
  if eventActive s .windPulse = eventActive (joinedAt s i c) .windPulse then joinedAt s i c
  else wakeIf (pinAt s i).wake (touchIdle
    (if eventActive (joinedAt s i c) .windPulse then windCount (joinedAt s i c) else joinedAt s i c))

theorem pulseJoined_mapped (h : (pinAt s i).event = some (.input .windPulse))
    (hb : (pinAt s i).binding = .joined c n) (b : Bool) (e : InputEvent) :
    eventMapped (joinedAt s i b) e = eventMapped s e := by
  by_cases he : e = .windPulse
  · subst he
    exact (setBinding_mapped h b 0).trans (eventMapped_of_joined h hb).symm
  · exact eventMapped_of_joinedTo (joinedTo_setBinding_event h he)

theorem changeBinding_pulse (h : (pinAt s i).event = some (.input .windPulse))
    (hb : (pinAt s i).binding = .joined c n) (b : Bool) (order : List HandOff) :
    changeBinding i (.joined b 0) order s = pulseActed s i b := by
  have hmapped := (pulseJoined_mapped h hb b .windPulse).symm
  have hwake : (pinAt (joinedAt s i b) i).wake = (pinAt s i).wake := by
    rw [joinedAt, pinAt_setBinding, if_pos rfl]
  have hform : changeBinding i (.joined b 0) order s =
      formEvent i .windPulse order s (joinedAt s i b) := by
    unfold changeBinding
    rw [inputEvent_eq h]
    rfl
  rw [hform, pulseActed]
  split
  · next ha => exact formEvent_unchanged order ha hmapped
  · next ha => simp [formEvent, ha, hmapped, hwake, edgeAct, alwaysWakes, wakeIf]

theorem exec_windPulse (h : (pinAt s i).event = some (.input .windPulse))
    (hb : (pinAt s i).binding = .joined c n) (hlevel : (pinAt s i).converted level = !c) :
    exec (.windPulse i level) s = .next (settle s (pulseActed s i (!c))) := by
  have hpulse : (pinAt s i).isPulse = true := by
    simp [Pin.isPulse, Pin.isJoined, hb, inputEvent_eq h]
  simp [exec, execWindPulse, perform_eq, hpulse, hlevel, hb, pulseOp, changeBinding_pulse h hb]

/-- What a pulse leaves, as one equation over any count. -/
theorem pulseActed_frame (s : State) (i : Fin 16) (c : Bool) (t : State)
    (ht : t = afterEvent (pulseActed s i c) t) :
    t = { afterEvent s t with
      wind := t.wind
      pins := t.pins
      heater := { s.heater with cabinDue := t.heater.cabinDue }
      tanks := { s.tanks with senderDue := t.tanks.senderDue, tempDue := t.tanks.tempDue }
      time := { s.time with power := t.time.power, idleDue := t.time.idleDue } } := by
  have hwake : ∀ (b : Bool) (x : State), t = afterEvent (wakeIf b x) t →
      t = { afterEvent x t with
        pins := t.pins
        heater := { x.heater with cabinDue := t.heater.cabinDue }
        tanks := { x.tanks with senderDue := t.tanks.senderDue, tempDue := t.tanks.tempDue }
        time := { x.time with power := t.time.power, idleDue := t.time.idleDue } } := fun b x hx => by
    have hforth := wakeIf_frame b x
    have hframe : OnlyWake (wakeIf b x) x := by simp only [OnlyWake, hforth, and_self]
    rw [hx]
    simp only [afterEvent, hframe]
  rw [pulseActed] at ht
  split at ht
  · rw [ht]; rfl
  · have hx := hwake _ _ ht
    split at hx
    · rw [hx]; rfl
    · rw [hx]; rfl

theorem pulseActed_wind (s : State) (i : Fin 16) (c : Bool) :
    (pulseActed s i c).wind =
      { s.wind with
        count :=
          if eventActive s .windPulse = false ∧ eventActive (joinedAt s i c) .windPulse = true then
            min 65535 (s.wind.count + 1)
          else s.wind.count } := by
  have hjoined : (joinedAt s i c).wind = s.wind := rfl
  unfold pulseActed
  cases ha : eventActive s .windPulse <;> cases hb : eventActive (joinedAt s i c) .windPulse <;>
    simp [windCount, hjoined]

theorem pulseActed_active (s : State) (i : Fin 16) (c : Bool) (e : InputEvent) :
    eventActive (pulseActed s i c) e = eventActive (joinedAt s i c) e := by
  unfold pulseActed
  split
  · rfl
  · rw [eventActive_wakeIf]
    split <;> rfl

theorem pulseActed_mapped (s : State) (i : Fin 16) (c : Bool) (e : InputEvent) :
    eventMapped (pulseActed s i c) e = eventMapped (joinedAt s i c) e := by
  unfold pulseActed
  split
  · rfl
  · rw [eventMapped_wakeIf]
    split <;> rfl

/-- A pulse touches no condition. -/
theorem conditionHolds_pulseActed (h : (pinAt s i).event = some (.input .windPulse))
    (hb : (pinAt s i).binding = .joined c n) (b : Bool) (f : Flag) :
    conditionHolds (pulseActed s i b) f = conditionHolds s f := by
  have hother : ∀ e, e ≠ .windPulse → eventActive (pulseActed s i b) e = eventActive s e := fun e he => by
    rw [pulseActed_active]
    exact setBinding_active h he
  have hwind : (pulseActed s i b).wind.lockout = s.wind.lockout := by rw [pulseActed_wind]
  refine conditionHolds_of_reads (fun _ => hother _ (by decide)) (fun _ => hwind) ?_
    (fun e he => hother e (by rintro rfl; simp [conditionEvents] at he))
    (fun e => by rw [pulseActed_mapped, pulseJoined_mapped h hb]) ?_ ?_ ?_ ?_ ?_ ?_ ?_
  all_goals
    unfold pulseActed
    repeat' split
    all_goals simp [joinedAt]

theorem pulseActed_flags (s : State) (i : Fin 16) (c : Bool) :
    (pulseActed s i c).link.flags = s.link.flags := by
  unfold pulseActed
  repeat' split
  all_goals simp [joinedAt]

end

/-- O53's first part: a change of level of a WIND_PULSE pin. -/
theorem windPulse_counts (s : State) (i : Fin 16) (level c : Bool) (n : Nat)
    (h : (pinAt s i).event = some (.input .windPulse)) (hb : (pinAt s i).binding = .joined c n)
    (hlevel : (pinAt s i).converted level = !c) (hs : Settled s) :
    ∃ t, exec (.windPulse i level) s = .next t ∧
      (pinAt t i).joinedTo .windPulse = some (!c) ∧
      t.wind =
        { s.wind with
          count :=
            if eventActive s .windPulse = false ∧ eventActive t .windPulse = true then
              min 65535 (s.wind.count + 1)
            else s.wind.count } ∧
      FlagsKeptBut [] s t ∧
      t = { afterEvent s t with
        wind := t.wind
        pins := t.pins
        heater := { s.heater with cabinDue := t.heater.cabinDue }
        tanks := { s.tanks with senderDue := t.tanks.senderDue, tempDue := t.tanks.tempDue }
        time := { s.time with power := t.time.power, idleDue := t.time.idleDue } } := by
  have hrun := exec_windPulse h hb hlevel
  obtain ⟨t, ht⟩ : ∃ t, t = settle s (pulseActed s i (!c)) := ⟨_, rfl⟩
  rw [← ht] at hrun
  have hafter := settle_eq_afterEvent s (pulseActed s i (!c))
  rw [← ht] at hafter
  refine ⟨t, hrun, ?joined, ?wind, ?flags, pulseActed_frame s i (!c) t hafter⟩
  case joined =>
    obtain ⟨hpin, -⟩ := settled_joined (order := []) h (ht.trans (by rw [changeBinding_pulse h hb]))
    rw [hpin]
    simp [Pin.joinedTo, h]
  case wind =>
    have hactive : eventActive t .windPulse = eventActive (joinedAt s i (!c)) .windPulse := by
      rw [eventActive_of_pins (s := pulseActed s i (!c)) (by simp [ht]), pulseActed_active]
    rw [hactive, ← pulseActed_wind, ht]
    simp
  case flags =>
    exact ht ▸ settle_flagsKept hs (conditionHolds_pulseActed h hb (!c)) fun f _ =>
      flagBits_of_flags (pulseActed_flags s i (!c)) f

end Sys2Proof.Machine
end

section
/-! PROOFS. Overrides that are raised (R117, R119, R143): what a raise leaves, whom it preempts, and that the
arbiter does not lose an override that is not at its destination. -/

namespace Sys2Proof.Machine

/-! ## The stowed states (R137, R140) -/

section
variable {s t : State}

theorem stowed_congr (ha : ∀ e ∈ conditionEvents, eventActive t e = eventActive s e)
    (hm : ∀ e, eventMapped t e = eventMapped s e) (hp : t.act.posMs = s.act.posMs)
    (hs : t.act.stepMs = s.act.stepMs) (hq : t.params = s.params) (b : Actuator) :
    stowed t b = stowed s b := by
  simp only [conditionEvents, List.forall_mem_cons] at ha
  obtain ⟨-, hin, hout, hawning, -⟩ := ha
  cases b with
  | step =>
    simp only [stowed, stepStowed,
      stepPosition_congr hin hout (hm _) (hm _) hs hq]
  | awning => simp only [stowed, awningStowed, hp, hm, hawning]

theorem stowed_of_pins (h : t.pins = s.pins) (hp : t.act.posMs = s.act.posMs)
    (hs : t.act.stepMs = s.act.stepMs) (hq : t.params = s.params) (b : Actuator) :
    stowed t b = stowed s b :=
  stowed_congr (fun e _ => eventActive_of_pins h e) (eventMapped_of_pins h) hp hs hq b

/-- The destination of a RETRACT is the stowed state (R125). -/
theorem destinationReached_retract {o : Owner} (h : ownerAction s o = .retract) :
    destinationReached s o = none ↔ stowed s o.actuator = false := by
  obtain ⟨b, m⟩ := o
  cases b with
  | step =>
    have hiff : stepPosition s = .stowed ↔ stepStowed s = true := by simp [stepStowed]
    simp only [destinationReached, h, stowed, hiff]
    split
    · next hs => split <;> simp [hs]
    · next hs => simpa using hs
  | awning =>
    simp only [destinationReached, h, stowed]
    split
    · next hs => split <;> simp [hs]
    · next hs => simpa using hs

theorem destinationReached_override (b : Actuator) :
    destinationReached s ⟨b, .override⟩ = none ↔ stowed s b = false :=
  destinationReached_retract rfl

end

/-! ## The raise (R117, R119) -/

/-- An override slot as its raise leaves it. -/
def OverrideSlot.raisedBy (x : OverrideSlot) (c : OverrideCause) : OverrideSlot :=
  { x with state := .raised, cause := some c, retries := 0, runTime := 0 }

/-- `s` with an override raised, before the motion that it preempts ends. -/
def withRaise (a : Actuator) (c : OverrideCause) (s : State) : State :=
  wake (setOverride s a ((overrideOf s a).raisedBy c))

section
variable {s : State} {a b : Actuator} {c : OverrideCause}

/-- An override is not raised while ESTOP is active, or where it is raised or active already. -/
theorem raiseOverride_refused (h : eventActive s .estop = true ∨ (overrideOf s a).state ≠ .none) :
    raiseOverride a c s = s := by
  unfold raiseOverride
  rw [if_pos (by rcases h with h | h <;> simp [h])]

/-- A raised override ends a slot's motion that holds the stage (R119). -/
def preempt (s : State) : State :=
  match s.drive.owner with
  | some ⟨_, .slot _⟩ => completeOwner .abortedPreempted s
  | some ⟨_, .override⟩ => s
  | none => s

theorem raiseOverride_eq (he : eventActive s .estop = false) (hn : (overrideOf s a).state = .none) :
    raiseOverride a c s = preempt (withRaise a c s) := by
  simp only [raiseOverride, he, hn, ne_eq, not_true_eq_false, decide_false, Bool.or_self, Bool.false_eq_true,
    if_false]
  rfl

/-- A raise either does nothing, or raises and preempts. -/
theorem raiseOverride_cases (P : State → Prop) (hrefused : P s) (hraised : P (preempt (withRaise a c s))) :
    P (raiseOverride a c s) := by
  by_cases h : eventActive s .estop = true ∨ (overrideOf s a).state ≠ .none
  · rwa [raiseOverride_refused h]
  · push Not at h
    rwa [raiseOverride_eq (by simpa using h.1) h.2]

theorem preempt_slot {p : Actuator} {j : Fin 16} (h : s.drive.owner = some ⟨p, .slot j⟩) :
    preempt s = completeOwner .abortedPreempted s := by
  simp only [preempt, h]

/-- A preemption completes the owner's motion, or does nothing. -/
theorem preempt_cases (P : State → Prop) (hkept : P s)
    (hended : (∀ p, s.drive.owner = some p → p.motion ≠ .override) →
      P (completeOwner .abortedPreempted s)) : P (preempt s) := by
  unfold preempt
  split
  · next heq => exact hended fun p hp => by rw [heq] at hp; cases hp; simp
  · exact hkept
  · exact hkept

theorem preempt_released (h : holdsStage s.drive.stage = false) : preempt s = s :=
  preempt_cases (· = s) rfl fun _ => completeOwner_released h _

theorem preempt_overrideOf (b : Actuator) (s : State) : overrideOf (preempt s) b = overrideOf s b :=
  preempt_cases (fun t => overrideOf t b = overrideOf s b) rfl fun h =>
    overrideOf_completeOwner_other (fun p hp hm => h p hp hm.1) _

@[simp] theorem preempt_frame (s : State) : OnlyComplete s (preempt s) :=
  preempt_cases (OnlyComplete s) (by simp [OnlyComplete]) fun _ => completeOwner_frame _ s

theorem preempt_acted (s : State) : Acted s (preempt s) :=
  preempt_cases (Acted s) (.refl s) fun _ => completeOwner_acted s _

theorem preempt_arbiterKeeps (s : State) : ArbiterKeeps s (preempt s) :=
  preempt_cases (ArbiterKeeps s) (.refl s) fun _ => completeOwner_arbiterKeeps s _

/-! ### The state with the override raised -/

theorem overrideOf_withRaise (a b : Actuator) (c : OverrideCause) (s : State) :
    overrideOf (withRaise a c s) b = if a = b then (overrideOf s b).raisedBy c else overrideOf s b := by
  refine (overrideOf_of_motion (s := setOverride s a ((overrideOf s a).raisedBy c)) (by simp [withRaise]) b).trans
    ((overrideOf_setOverride s a b _).trans ?_)
  by_cases hab : a = b <;> simp [hab]

@[simp] theorem withRaise_slots (a : Actuator) (c : OverrideCause) (s : State) :
    (withRaise a c s).motion.slots = s.motion.slots := by simp [withRaise]

@[simp] theorem withRaise_drive (a : Actuator) (c : OverrideCause) (s : State) :
    (withRaise a c s).drive = s.drive := by simp [withRaise]

@[simp] theorem withRaise_params (a : Actuator) (c : OverrideCause) (s : State) :
    (withRaise a c s).params = s.params := by simp [withRaise]

theorem withRaise_acted (a : Actuator) (c : OverrideCause) (s : State) : Acted s (withRaise a c s) :=
  .trans (.of_eq (by simp) (by simp) (by simp)) (wake_acted _)

theorem withRaise_arbiterKeeps (a : Actuator) (c : OverrideCause) (s : State) :
    ArbiterKeeps s (withRaise a c s) :=
  .of_table (by simp [withRaise]) (by simp [withRaise]) (by simp [withRaise]) (by simp [withRaise, State.now])

theorem raiseOverride_acted (a : Actuator) (c : OverrideCause) (s : State) : Acted s (raiseOverride a c s) :=
  raiseOverride_cases (Acted s) (.refl s) ((withRaise_acted a c s).trans (preempt_acted _))

theorem raiseOverride_arbiterKeeps (a : Actuator) (c : OverrideCause) (s : State) :
    ArbiterKeeps s (raiseOverride a c s) :=
  raiseOverride_cases (ArbiterKeeps s) (.refl s) ((withRaise_arbiterKeeps a c s).trans (preempt_arbiterKeeps _))

/-- The override that is raised. -/
theorem overrideOf_raiseOverride (he : eventActive s .estop = false) (hn : (overrideOf s a).state = .none) :
    overrideOf (raiseOverride a c s) a = (overrideOf s a).raisedBy c := by
  rw [raiseOverride_eq he hn, preempt_overrideOf, overrideOf_withRaise, if_pos rfl]

theorem overrideOf_raiseOverride_other (hab : a ≠ b) :
    overrideOf (raiseOverride a c s) b = overrideOf s b :=
  raiseOverride_cases (fun t => overrideOf t b = overrideOf s b) rfl
    (by rw [preempt_overrideOf, overrideOf_withRaise, if_neg hab])

/-- What a preemption leaves of the slot and of the stage (R116, R119). -/
structure Preempted (o : Owner) (j : Fin 16) (s t : State) : Prop where
  slot : slotAt t j = (slotAt s j).ended .abortedPreempted
  braking : afterWaking s.drive.stage = true → t.drive = brakingFrom o s

theorem completeOwner_preempted {o : Owner} {j : Fin 16} (hm : o.motion = .slot j)
    (ho : s.drive.owner = some o) (h : holdsStage s.drive.stage = true) :
    Preempted o j s (completeOwner .abortedPreempted s) := by
  have hslots := congrArg MotionTable.slots (completeOwner_motion ho h .abortedPreempted)
  refine ⟨?_, fun hw => by rw [completeOwner_afterWaking ho hw]; rfl⟩
  rw [slotAt_of_motion hslots, slotAt_finishMotion, if_pos hm]

theorem raiseOverride_preempts {o : Owner} {j : Fin 16} (hm : o.motion = .slot j)
    (he : eventActive s .estop = false) (hn : (overrideOf s a).state = .none)
    (ho : s.drive.owner = some o) (h : holdsStage s.drive.stage = true) :
    Preempted o j s (raiseOverride a c s) := by
  obtain ⟨p, m⟩ := o
  obtain rfl : m = .slot j := hm
  have howner : (withRaise a c s).drive.owner = some ⟨p, .slot j⟩ := by simp [ho]
  have hslot : slotAt (withRaise a c s) j = slotAt s j := slotAt_of_motion (withRaise_slots a c s) j
  rw [raiseOverride_eq he hn, preempt_slot howner]
  obtain ⟨hended, hbraking⟩ := completeOwner_preempted (s := withRaise a c s) (o := ⟨p, .slot j⟩) rfl howner
    (by simpa using h)
  rw [hslot] at hended
  rw [brakingFrom_congr rfl hslot (withRaise_drive a c s) (withRaise_params a c s), withRaise_drive] at hbraking
  exact ⟨hended, hbraking⟩

/-- With the stage held by no motion, a raise leaves the stage alone. -/
theorem raiseOverride_drive_released (h : holdsStage s.drive.stage = false) :
    (raiseOverride a c s).drive = s.drive :=
  raiseOverride_cases (fun t => t.drive = s.drive) rfl (by
    rw [preempt_released (by simpa using h), withRaise_drive])

end

/-! ## A raised override under the arbiter (R118, R124) -/

section
variable {s : State} {b : Actuator}

/-- The override `b` is `x`, as it was raised or as the arbiter took it, and not at its destination. -/
def RaisedOrTaken (b : Actuator) (x : OverrideSlot) (s : State) : Prop :=
  (overrideOf s b = x ∨ overrideOf s b = { x with state := .active }) ∧ stowed s b = false

theorem takeClaimant_raisedOrTaken {x : OverrideSlot} (c : Owner) (h : RaisedOrTaken b x s) :
    RaisedOrTaken b x (takeClaimant c s) := by
  obtain ⟨hx, hstowed⟩ := h
  have hkept : stowed (takeClaimant c s) b = stowed s b :=
    stowed_of_pins (by simp) (by simp) (by simp) (by simp) b
  refine ⟨?_, hkept.trans hstowed⟩
  by_cases hc : c.motion = .override ∧ c.actuator = b
  · have hchecked : checked c s = none := by
      obtain ⟨a, m⟩ := c
      obtain ⟨rfl, rfl⟩ := hc
      exact (destinationReached_override _).mpr hstowed
    cases hg : gapHolds s c with
    | true =>
      rw [takeClaimant_gap hg]
      cases b <;> exact hx
    | false =>
      rw [takeClaimant_claims hg hchecked, overrideOf_claim, overrideOf_activate, if_pos hc,
        overrideOf_servedBy]
      rcases hx with hx | hx <;> rw [hx] <;> exact .inr rfl
  · rwa [overrideOf_takeClaimant_other hc]

theorem arbitrate_raisedOrTaken {x : OverrideSlot} (h : RaisedOrTaken b x s) :
    RaisedOrTaken b x (arbitrate s) :=
  arbitrateN_keeps (RaisedOrTaken b x) (fun _ c _ _ ht => takeClaimant_raisedOrTaken c ht) _ s h

/-- What the obligations say of an override that has been raised. -/
theorem RaisedOrTaken.raisedBy {x : OverrideSlot} {c : OverrideCause} (h : RaisedOrTaken b (x.raisedBy c) s) :
    (overrideOf s b).state ≠ .none ∧ (overrideOf s b).cause = some c ∧ (overrideOf s b).retries = 0 ∧
      (overrideOf s b).runTime = 0 := by
  obtain ⟨hx, -⟩ := h
  rcases hx with hx | hx <;> rw [hx] <;> simp [OverrideSlot.raisedBy]

end

end Sys2Proof.Machine
end

section
/-! PROOFS. The end of a wind window (R147 to R149), with WIND_PULSE unmapped and mapped. -/

namespace Sys2Proof.Machine

/-! ## The judgement (R148) -/

/-- The wind record after the judgement of a window with this speed. -/
def judgedWind (speed : Nat) (s : State) : Wind :=
  if s.params.tripSpeed ≤ speed then
    { s.wind with
      high := min 2 (s.wind.high + 1)
      calm := 0
      lockout := s.wind.lockout || decide (1 ≤ s.wind.high) }
  else if s.wind.lockout then
    if s.params.lockoutRelease * 16 ≤ s.wind.calm + ticksSince s.now s.wind.start then
      { s.wind with high := 0, lockout := false, calm := 0 }
    else { s.wind with high := 0, calm := s.wind.calm + ticksSince s.now s.wind.start }
  else { s.wind with high := 0 }

/-- The second high window in a row starts the lockout, and the awning is out (R148). -/
def windTrips (speed : Nat) (s : State) : Prop :=
  s.params.tripSpeed ≤ speed ∧ 1 ≤ s.wind.high ∧ s.wind.lockout = false ∧ awningStowed s = false

section
variable {s : State} {speed : Nat}

theorem windJudge_trips (h : windTrips speed s) :
    windJudge speed s = raiseOverride .awning .wind (s.setWind (judgedWind speed s)) := by
  obtain ⟨hspeed, hhigh, hopen, hout⟩ := h
  simp [windJudge, judgedWind, hspeed, hopen, hout, hhigh]

theorem windJudge_quiet (h : ¬ windTrips speed s) : windJudge speed s = s.setWind (judgedWind speed s) := by
  unfold windJudge judgedWind
  by_cases hspeed : s.params.tripSpeed ≤ speed
  · by_cases hhigh : 1 ≤ s.wind.high
    · have hquiet : (!s.wind.lockout && !awningStowed s) = false := by
        by_contra hact
        refine h ⟨hspeed, hhigh, ?_⟩
        simpa using hact
      simp [hspeed, hquiet, hhigh]
    · have hone : min 2 (s.wind.high + 1) ≠ 2 := by omega
      simp [hspeed, hone, hhigh]
  · simp only [hspeed, if_false]
    repeat' split
    all_goals rfl

theorem windJudge_wind (speed : Nat) (s : State) : (windJudge speed s).wind = judgedWind speed s := by
  by_cases h : windTrips speed s
  · rw [windJudge_trips h]
    simp
  · rw [windJudge_quiet h]
    rfl

theorem windJudge_acted (speed : Nat) (s : State) : Acted s (windJudge speed s) := by
  have hset : Acted s (s.setWind (judgedWind speed s)) := .of_eq rfl rfl rfl
  by_cases h : windTrips speed s
  · rw [windJudge_trips h]
    exact hset.trans (raiseOverride_acted _ _ _)
  · rwa [windJudge_quiet h]

theorem windJudge_arbiterKeeps (speed : Nat) (s : State) : ArbiterKeeps s (windJudge speed s) := by
  have hset : ArbiterKeeps s (s.setWind (judgedWind speed s)) := .of_table rfl rfl rfl rfl
  by_cases h : windTrips speed s
  · rw [windJudge_trips h]
    exact hset.trans (raiseOverride_arbiterKeeps _ _ _)
  · rwa [windJudge_quiet h]

end

/-! ## The window's end -/

section
variable {s : State}

/-- A window that ends while WIND_PULSE is unmapped (log 32). -/
theorem exec_window_unmapped (hdue : reached s.now s.wind.due = true) (hs : Settled s)
    (h : eventMapped s .windPulse = false) :
    exec .windWindowEnd s = .next (nextWindow 0 s) := by
  have hsettled : settle s (nextWindow 0 s) = nextWindow 0 s := by
    have hconditions : ∀ f, conditionHolds (nextWindow 0 s) f = conditionHolds s f := fun f =>
      conditionHolds_of_reads (fun _ => rfl) (fun _ => rfl) rfl (fun _ _ => rfl) (fun _ => rfl) rfl rfl rfl
        rfl (fun _ => rfl) (fun _ => rfl) rfl
    refine settle_eq_of_settled ⟨(flagsStand_iff _).mpr fun f hf => ?_, hs.2⟩ fun f hf => ?_
    · rw [hconditions] at hf
      exact (flagsStand_iff s).mp hs.1 f hf
    · rwa [hconditions] at hf
  simp only [exec, execWindWindowEnd, perform_eq, hdue, if_true, windowEndOp, h, Bool.false_eq_true,
    if_false, hsettled]

/-- The effect of a window's end with WIND_PULSE mapped, before the arbiter acts. -/
def windowJudged (s : State) : State := nextWindow (windSpeed s) (windJudge (windSpeed s) s)

theorem exec_window_mapped (hdue : reached s.now s.wind.due = true) (h : eventMapped s .windPulse = true) :
    exec .windWindowEnd s = .next (settle s (arbitrate (windowJudged s))) := by
  simp only [exec, execWindWindowEnd, perform_eq, hdue, if_true, windowEndOp, h]
  rfl

theorem nextWindow_acted (speed : Nat) (s : State) : Acted s (nextWindow speed s) :=
  .of_eq (by simp) (by simp) (by simp)

theorem nextWindow_arbiterKeeps (speed : Nat) (s : State) : ArbiterKeeps s (nextWindow speed s) :=
  .of_table (by simp) (by simp) (by simp) (by simp [State.now])

theorem windowJudged_acted (s : State) : Acted s (windowJudged s) :=
  (windJudge_acted _ s).trans (nextWindow_acted _ _)

theorem windowJudged_arbiterKeeps (s : State) : ArbiterKeeps s (arbitrate (windowJudged s)) :=
  ArbiterKeeps.arbitrate (t := windowJudged s)
    ((windJudge_arbiterKeeps _ s).trans (nextWindow_arbiterKeeps _ _))

@[simp] theorem windowJudged_frame (s : State) : OnlyWindow s (windowJudged s) := by
  simp [OnlyWindow, windowJudged]

theorem windowJudged_wind (s : State) :
    (windowJudged s).wind =
      { judgedWind (windSpeed s) s with
        count := 0
        due := s.wind.due + 48
        start := s.now
        speed := windSpeed s } := by
  have hnow : (windJudge (windSpeed s) s).now = s.now := by simp [State.now]
  have hdue : (judgedWind (windSpeed s) s).due = s.wind.due := by
    unfold judgedWind
    repeat' split
    all_goals rfl
  rw [windowJudged, nextWindow, hnow]
  simp only [State.setWind_wind, windJudge_wind, hdue]

/-! ### A trip (R148) -/

theorem windowJudged_trips (h : windTrips (windSpeed s) s) (he : eventActive s .estop = false)
    (hn : (overrideOf s .awning).state = .none) :
    overrideOf (windowJudged s) .awning = (overrideOf s .awning).raisedBy .wind := by
  have hmotion : (windowJudged s).motion = (windJudge (windSpeed s) s).motion := rfl
  rw [overrideOf_of_motion hmotion, windJudge_trips h]
  exact overrideOf_raiseOverride (s := s.setWind (judgedWind (windSpeed s) s)) he hn

theorem windowJudged_preempts {o : Owner} {j : Fin 16} (h : windTrips (windSpeed s) s)
    (hm : o.motion = .slot j) (he : eventActive s .estop = false)
    (hn : (overrideOf s .awning).state = .none) (ho : s.drive.owner = some o)
    (hholds : holdsStage s.drive.stage = true) : Preempted o j s (windowJudged s) := by
  obtain ⟨hslot, hbraking⟩ := raiseOverride_preempts (s := s.setWind (judgedWind (windSpeed s) s))
    (a := .awning) (c := .wind) hm he hn ho hholds
  rw [← windJudge_trips h] at hslot hbraking
  exact ⟨hslot, hbraking⟩

theorem Preempted.arbitrate {o : Owner} {j : Fin 16} {t : State} (h : Preempted o j s t) :
    Preempted o j s (arbitrate t) := by
  obtain ⟨hslot, hbraking⟩ := h
  refine ⟨by rw [slotAt_arbitrate (by simp [hslot, Slot.ended]), hslot], fun hw => ?_⟩
  rw [arbitrate_of_busy (by simp [hbraking hw, brakingFrom]), hbraking hw]

theorem Preempted.of_eq {o : Owner} {j : Fin 16} {t u : State} (h : Preempted o j s u)
    (hm : t.motion = u.motion) (hd : t.drive = u.drive) : Preempted o j s t :=
  ⟨(slotAt_of_motion (by rw [hm]) j).trans h.slot, fun hw => hd.trans (h.braking hw)⟩

/-- With a stage that brakes or waits in GAP, the override stays RAISED. -/
theorem windowJudged_raised (h : windTrips (windSpeed s) s) (he : eventActive s .estop = false)
    (hn : (overrideOf s .awning).state = .none) (hidle : s.drive.stage ≠ .idle)
    (hholds : holdsStage s.drive.stage = false) :
    overrideOf (arbitrate (windowJudged s)) .awning = (overrideOf s .awning).raisedBy .wind := by
  have hdrive : (windowJudged s).drive = s.drive := by
    have hjudged : (windowJudged s).drive = (windJudge (windSpeed s) s).drive := rfl
    rw [hjudged, windJudge_trips h]
    exact raiseOverride_drive_released (s := s.setWind (judgedWind (windSpeed s) s)) hholds
  rw [arbitrate_of_busy (by rwa [hdrive]), windowJudged_trips h he hn]

end

/-! ## The whole window -/

section
variable {s t : State}

/-- The flags at the end of a window: WIND_LOCKOUT follows the lockout (R149, R202). -/
theorem windowEnd_flags (hs : Settled s) (ht : t = settle s (arbitrate (windowJudged s))) :
    FlagsKeptBut [.windLockout, .moveDone, .moveFailed, .loadShed] s t ∧
      flagSet t .windLockout = (t.wind.lockout || flagSet s .windLockout) := by
  have hacted := (windowJudged_acted s).trans (arbitrate_acted _)
  have hframe : OnlyWindow s (arbitrate (windowJudged s)) := by simp [OnlyWindow]
  have hwind : t.wind = (arbitrate (windowJudged s)).wind := by simp [ht]
  generalize arbitrate (windowJudged s) = u at *
  refine ⟨fun f hf => ?_, ?_⟩
  · obtain ⟨hlockout, hothers⟩ : f ≠ .windLockout ∧ f ∉ [Flag.moveDone, .moveFailed, .loadShed] := by
      simpa using hf
    rw [ht]
    refine flagBits_settle_of_kept hs.1 ?_ (hacted.flags f hothers)
    refine conditionHolds_of_reads (fun _ => hacted.active _) (fun h => absurd h hlockout) ?_
      (fun e _ => hacted.active e) hacted.mapped ?_ ?_ ?_ ?_ (fun _ => ?_) (fun _ => ?_) ?_ <;>
      simp only [hframe]
  · have hkept := hacted.flags .windLockout (by decide)
    cases hl : t.wind.lockout with
    | true =>
      have hset := (flagsStand_iff t).mp (ht ▸ (settle_settled s u).1) .windLockout hl
      rw [hset]
      rfl
    | false =>
      have hopen : conditionHolds u .windLockout = false := by
        rw [hwind] at hl
        exact hl
      rw [flagSet, ht, flagBits_settle, hopen, if_neg (by simp), hkept]
      rfl

end

/-- The figures of the judgement for a window below the trip speed (R148, R149). -/
theorem judgedWind_calm {s : State} {speed : Nat} (h : speed < s.params.tripSpeed) :
    (judgedWind speed s).high = 0 ∧
      (s.wind.lockout = true →
        (s.wind.calm + ticksSince s.now s.wind.start < s.params.lockoutRelease * 16 →
          (judgedWind speed s).lockout = true ∧
            (judgedWind speed s).calm = s.wind.calm + ticksSince s.now s.wind.start) ∧
        (s.params.lockoutRelease * 16 ≤ s.wind.calm + ticksSince s.now s.wind.start →
          (judgedWind speed s).lockout = false ∧ (judgedWind speed s).calm = 0)) ∧
      (s.wind.lockout = false → (judgedWind speed s).lockout = false) := by
  have hlow : ¬ s.params.tripSpeed ≤ speed := by omega
  rw [judgedWind, if_neg hlow]
  cases hl : s.wind.lockout with
  | false => simp [hl]
  | true =>
    by_cases hc : s.params.lockoutRelease * 16 ≤ s.wind.calm + ticksSince s.now s.wind.start
    · simp [hc]
    · simp [hl, hc]

/-- Settles O53: a pulse by `windPulse_counts`; the end of a window by its judgement, and the override that it
raises under the arbiter. -/
theorem windPulsesAndWindows : Obligations.WindPulsesAndWindows := by
  refine ⟨windPulse_counts, fun s hdue hs => ⟨exec_window_unmapped hdue hs, fun hmapped => ?_⟩⟩
  obtain ⟨t, ht⟩ : ∃ t, t = settle s (arbitrate (windowJudged s)) := ⟨_, rfl⟩
  have hrun := exec_window_mapped hdue hmapped
  rw [← ht] at hrun
  have hmotion : t.motion = (arbitrate (windowJudged s)).motion := by simp [ht]
  have hdrive : t.drive = (arbitrate (windowJudged s)).drive := by simp [ht]
  have hwind : t.wind = { judgedWind (windSpeed s) s with
      count := 0, due := s.wind.due + 48, start := s.now, speed := windSpeed s } := by
    have hjudged := windowJudged_wind s
    have harbiter : t.wind = (windowJudged s).wind := by simp [ht]
    rw [harbiter, hjudged]
  obtain ⟨hflags, hlockout⟩ := windowEnd_flags hs ht
  obtain ⟨horigins, -⟩ := windowJudged_arbiterKeeps s
  refine ⟨t, hrun, by rw [hwind]; rfl, by rw [hwind], by rw [hwind], by rw [hwind], fun hlow => ?calm,
    fun hhigh => ⟨?high, ?calmed, ?lockout, fun h1 hopen hout he hn => ?trip,
      fun h1 hopen hout he hn hidle hholds => ?raised⟩, hlockout, fun ch hch => ?origins, hflags, ?_⟩
  case calm => rw [hwind]; exact judgedWind_calm hlow
  case high => rw [hwind]; exact congrArg Wind.high (if_pos hhigh)
  case calmed => rw [hwind]; exact congrArg Wind.calm (if_pos hhigh)
  case lockout => rw [hwind]; exact congrArg Wind.lockout (if_pos hhigh)
  case trip =>
    have htrips : windTrips (windSpeed s) s := ⟨hhigh, h1, hopen, hout⟩
    have hacted := windowJudged_acted s
    have hstowed : stowed (windowJudged s) .awning = false :=
      (stowed_congr (fun e _ => hacted.active e) hacted.mapped (by simp) (by simp) (by simp) .awning).trans hout
    obtain ⟨hstate, hcause, hretries, -⟩ := (arbitrate_raisedOrTaken (b := .awning)
      ⟨.inl (windowJudged_trips htrips he hn), hstowed⟩).raisedBy
    have hslot := overrideOf_of_motion hmotion .awning
    refine ⟨by rwa [hslot], by rwa [hslot], by rwa [hslot], fun b _ j ho hholds => ?_⟩
    obtain ⟨hended, hbraking⟩ :=
      (windowJudged_preempts htrips rfl he hn ho hholds).arbitrate.of_eq hmotion hdrive
    exact ⟨slotEnded_of_eq hended, hbraking⟩
  case raised =>
    have htrips : windTrips (windSpeed s) s := ⟨hhigh, h1, hopen, hout⟩
    rw [overrideOf_of_motion hmotion, windowJudged_raised htrips he hn hidle hholds]
    exact ⟨rfl, rfl⟩
  case origins => exact (origins_of_table (by simp [ht]) ch).trans (horigins ch hch)
  all_goals simp [ht]

end Sys2Proof.Machine
end

section
/-! PROOFS. A millisecond of drive (R115, R126, R138, R141, R142): what the motor's part leaves, and what an
actuator that leaves its stowed state adds with the ignition on (R143). -/

namespace Sys2Proof.Machine

/-! ## The counts of a motion (R115) -/

section
variable (s : State) (o : Owner) (retries runTime : Nat)

theorem slotAt_setOwnerCounts (j : Fin 16) :
    slotAt (setOwnerCounts s o retries runTime) j =
      if o.motion = .slot j then { slotAt s j with retries := retries, runTime := runTime }
      else slotAt s j := by
  obtain ⟨a, m⟩ := o
  cases m with
  | slot i =>
    refine (slotAt_setSlot s i j _).trans ?_
    by_cases hij : i = j
    · subst hij
      simp [slotAt]
    · simp [hij]
  | override =>
    have h : (setOwnerCounts s ⟨a, .override⟩ retries runTime).motion.slots = s.motion.slots := by
      simp [setOwnerCounts]
    simpa using slotAt_of_motion h j

theorem overrideOf_setOwnerCounts (b : Actuator) :
    overrideOf (setOwnerCounts s o retries runTime) b =
      if o.motion = .override ∧ o.actuator = b then
        { overrideOf s b with retries := retries, runTime := runTime }
      else overrideOf s b := by
  obtain ⟨a, m⟩ := o
  cases m with
  | slot i => cases b <;> rfl
  | override =>
    refine (overrideOf_setOverride s a b _).trans ?_
    by_cases hab : a = b <;> simp [hab]

theorem motionCounts_setOwnerCounts : MotionCounts o retries runTime s (setOwnerCounts s o retries runTime) :=
  ⟨fun i hi => by rw [slotAt_setOwnerCounts, if_pos hi],
    fun ho => by rw [overrideOf_setOwnerCounts, if_pos ⟨ho, rfl⟩]⟩

theorem ownerAction_setOwnerCounts (p : Owner) :
    ownerAction (setOwnerCounts s o retries runTime) p = ownerAction s p := by
  obtain ⟨b, m⟩ := p
  cases m with
  | slot j =>
    exact (congrArg Slot.action (slotAt_setOwnerCounts s o retries runTime j)).trans (by split <;> rfl)
  | override => rfl

end

theorem MotionCounts.of_motion {o : Owner} {retries runTime : Nat} {s t u : State}
    (h : MotionCounts o retries runTime s u) (hm : t.motion = u.motion) :
    MotionCounts o retries runTime s t := by
  obtain ⟨hslot, hoverride⟩ := h
  exact ⟨fun i hi => (slotAt_of_motion (by rw [hm]) i).trans (hslot i hi),
    fun ho => (overrideOf_of_motion hm _).trans (hoverride ho)⟩

/-- The counts that a motion has. -/
theorem motionCounts_same (o : Owner) {s t : State} (hm : t.motion = s.motion) :
    MotionCounts o (ownerRetries s o) (ownerRunTime s o) s t := by
  refine MotionCounts.of_motion (u := s) ⟨fun i hi => ?_, fun ho => ?_⟩ hm
  · simp only [ownerRetries, ownerRunTime, hi]
    rfl
  · simp only [ownerRetries, ownerRunTime, ho]

/-! ## The motor's part (R115, R126) -/

/-- The stall count that a counted sample makes (R126). -/
def sampledCount (high : Bool) (s : State) : Nat := if high = true then min 200 (s.drive.stallCount + 1) else 0

/-- The stage after a millisecond of drive: the timers, and in RUNNING the leg time and the stall count. -/
def msStage (high : Bool) (s : State) : DriveStage :=
  { s.drive with
    phaseTimer := s.drive.phaseTimer - 1
    gap := s.drive.gap.map (fun g => { g with ms := g.ms - 1 })
    legTime := if s.drive.stage = .running then s.drive.legTime + 1 else s.drive.legTime
    stallCount :=
      if s.drive.stage = .running ∧ (s.drive.legTime + 1) % 10 = 0 ∧ s.drive.blank < s.drive.legTime + 1 then
        sampledCount high s
      else s.drive.stallCount
    stallDue :=
      if s.drive.stage = .running ∧ (s.drive.legTime + 1) % 10 = 0 ∧ s.drive.blank < s.drive.legTime + 1 then
        decide (s.params.stallTime ≤ sampledCount high s * 10)
      else s.drive.stallDue }

/-- The millisecond's counts, before the position moves. -/
def msCounted (x : MotorSample) (o : Owner) (s : State) : State :=
  if s.drive.stage = .running then addRunTime o (sampleMotor o x (runTimers s)) else runTimers s

section
variable {s : State} {o : Owner} {d : Direction} {x : MotorSample}

theorem driveMotor_driven (ho : s.drive.owner = some o) (hd : s.drive.direction = some d)
    (hs : s.drive.stage = .running ∨ s.drive.stage = .backing) :
    driveMotor x (runTimers s) =
      moveActuator (decide (s.drive.stage = .running)) o d (msCounted x o s) := by
  have howner : (runTimers s).drive.owner = some o := ho
  have hdirection : (runTimers s).drive.direction = some d := hd
  rcases hs with hs | hs
  · have hstage : (runTimers s).drive.stage = .running := hs
    simp only [driveMotor, howner, hdirection, hstage, msCounted, hs, if_true, decide_true]
  · have hstage : (runTimers s).drive.stage = .backing := hs
    have hother : ¬ s.drive.stage = .running := by simp [hs]
    simp only [driveMotor, howner, hdirection, hstage, msCounted, hother, if_false, decide_false]

theorem moveActuator_rest (toward : Bool) (o : Owner) (d : Direction) (s : State) :
    (moveActuator toward o d s).drive = s.drive ∧ (moveActuator toward o d s).motion = s.motion ∧
      (moveActuator toward o d s).table = s.table := ⟨by simp, by simp, by simp⟩

theorem sampleMotor_counted (o : Owner) (x : MotorSample)
    (h : (s.drive.legTime + 1) % 10 = 0 ∧ s.drive.blank < s.drive.legTime + 1) :
    sampleMotor o x s = s.setDrive { s.drive with
      legTime := s.drive.legTime + 1
      stallCount := sampledCount (overThreshold s o.actuator x) s
      stallDue := decide (s.params.stallTime ≤ sampledCount (overThreshold s o.actuator x) s * 10) } := by
  simp only [sampleMotor]
  rw [if_pos (by simpa using h)]
  rfl

theorem sampleMotor_uncounted (o : Owner) (x : MotorSample)
    (h : ¬ ((s.drive.legTime + 1) % 10 = 0 ∧ s.drive.blank < s.drive.legTime + 1)) :
    sampleMotor o x s = s.setDrive { s.drive with legTime := s.drive.legTime + 1 } := by
  simp only [sampleMotor]
  rw [if_neg (by simpa using h)]

theorem msCounted_drive (x : MotorSample) (o : Owner) (s : State) :
    (msCounted x o s).drive = msStage (overThreshold s o.actuator x) s := by
  have hhigh : overThreshold (runTimers s) o.actuator x = overThreshold s o.actuator x := by
    cases x <;> cases o.actuator <;> rfl
  have hcount : sampledCount (overThreshold s o.actuator x) (runTimers s) =
      sampledCount (overThreshold s o.actuator x) s := rfl
  by_cases hs : s.drive.stage = .running
  · have hadd : ∀ u, (addRunTime o u).drive = u.drive := fun u => by simp
    rw [msCounted, if_pos hs, hadd]
    by_cases hc : (s.drive.legTime + 1) % 10 = 0 ∧ s.drive.blank < s.drive.legTime + 1
    · rw [sampleMotor_counted (s := runTimers s) o x hc, hhigh, hcount]
      rw [msStage, if_pos hs, if_pos ⟨hs, hc⟩, if_pos ⟨hs, hc⟩]
      rfl
    · rw [sampleMotor_uncounted (s := runTimers s) o x hc]
      rw [msStage, if_pos hs, if_neg fun h => hc h.2, if_neg fun h => hc h.2]
      rfl
  · rw [msCounted, if_neg hs, msStage, if_neg hs, if_neg fun h => hs h.1, if_neg fun h => hs h.1]
    rfl

theorem ownerRetries_congr {t : State} (hm : t.motion = s.motion) (o : Owner) :
    ownerRetries t o = ownerRetries s o := by
  unfold ownerRetries overrideOf
  rw [hm]

theorem ownerRunTime_congr {t : State} (hm : t.motion = s.motion) (o : Owner) :
    ownerRunTime t o = ownerRunTime s o := by
  unfold ownerRunTime overrideOf
  rw [hm]

theorem msCounted_motionCounts (x : MotorSample) (o : Owner) (s : State) :
    MotionCounts o (ownerRetries s o) (ownerRunTime s o + if s.drive.stage = .running then 1 else 0) s
      (msCounted x o s) := by
  unfold msCounted
  split
  · have hm : (sampleMotor o x (runTimers s)).motion = s.motion := by simp
    have hset := motionCounts_setOwnerCounts (sampleMotor o x (runTimers s)) o (ownerRetries s o)
      (ownerRunTime s o + 1)
    rw [addRunTime, ownerRetries_congr hm, ownerRunTime_congr hm]
    simpa only [MotionCounts, slotAt_of_motion (congrArg MotionTable.slots hm), overrideOf_of_motion hm] using hset
  · exact motionCounts_same o rfl

end

end Sys2Proof.Machine
end

section
/-! PROOFS. The positions that a millisecond of drive moves, and the departure from the stowed state that it may
make (R138, R141 to R143). -/

namespace Sys2Proof.Machine

/-! ## The positions (R138, R141, R142) -/

section
variable {s : State} {o : Owner} (toward : Bool) (d : Direction)

/-- A count of a travel after a millisecond of drive. -/
def movedCount (toward : Bool) (d : Direction) (travel n : Nat) : Nat :=
  if decide (d = .extend) == toward then min travel (n + 1) else n - 1

theorem moveActuator_awning (ho : o.actuator = .awning) :
    (moveActuator toward o d s).act =
      { s.act with posMs := s.act.posMs.map (movedCount toward d s.params.awningTravel) } := by
  simp only [moveActuator, ho]
  rfl

theorem moveActuator_step (ho : o.actuator = .step) {n : Nat} (hn : s.act.stepMs = some n) :
    (moveActuator toward o d s).act =
      { s.act with stepMs := some (movedCount toward d s.params.stepTravel n) } := by
  simp only [moveActuator, ho, hn]
  rfl

theorem moveActuator_step_posMs (ho : o.actuator = .step) :
    (moveActuator toward o d s).act.posMs = s.act.posMs := by
  simp only [moveActuator, ho]
  split
  · rfl
  · simp
  · rfl

/-- The homing count, which may set the position (R142). -/
theorem moveActuator_homing (ho : o.actuator = .step) (hn : s.act.stepMs = none) {h : Nat}
    (hh : s.act.homing = some h) :
    (moveActuator toward o d s).act =
      if s.params.stepTravel ≤ (if toward then h + 1 else h - 1) ∧ destinationSwitchMapped s o = false then
        { s.act with
          stepMs := some (if ownerAction s o = .extend then s.params.stepTravel else 0)
          homing := none }
      else { s.act with homing := some (if toward then h + 1 else h - 1) } := by
  have hend : stepEnd s o = if ownerAction s o = .extend then s.params.stepTravel else 0 := by
    unfold stepEnd
    cases ownerAction s o <;> simp
  simp only [moveActuator, ho, hn, hh, moveHoming, hend, Bool.and_eq_true, decide_eq_true_eq,
    Bool.not_eq_true']
  exact (apply_ite State.act _ _ _).trans rfl

/-- A motion moves the position of its own actuator alone. -/
theorem moveActuator_stowed_other {b : Actuator} (hb : b ≠ o.actuator) :
    stowed (moveActuator toward o d s) b = stowed s b := by
  have ha := eventActive_of_pins (s := s) (t := moveActuator toward o d s) (by simp)
  have hm := eventMapped_of_pins (s := s) (t := moveActuator toward o d s) (by simp)
  cases b with
  | step =>
    have ho : o.actuator = .awning := by cases h : o.actuator <;> simp_all
    have hms : (moveActuator toward o d s).act.stepMs = s.act.stepMs := by rw [moveActuator_awning _ _ ho]
    simp only [stowed, stepStowed, stepPosition_congr (ha _) (ha _) (hm _) (hm _) hms (by simp)]
  | awning =>
    have ho : o.actuator = .step := by cases h : o.actuator <;> simp_all
    simp only [stowed, awningStowed, moveActuator_step_posMs toward d ho, ha, hm]

/-- While the step position is unknown, the switches alone make the step stowed. -/
theorem stepStowed_of_unknown {t : State} (hn : s.act.stepMs = none)
    (ha : ∀ e, eventActive t e = eventActive s e) (h : stepStowed s = true) : stepStowed t = true := by
  simp only [stepStowed, stepPosition, hn, decide_eq_true_eq] at h
  simp only [stepStowed, stepPosition, ha, decide_eq_true_eq]
  cases hin : eventActive s .stepInLimit <;> cases hout : eventActive s .stepOutLimit <;> simp_all

end

/-! ## A departure from the stowed state (R143) -/

section
variable {s before : State} {a : Actuator}

/-- No override is raised for `a`: the ignition is off, the actuator has not left, or the raise is refused. -/
def StaysUnraised (before s : State) (a : Actuator) : Prop :=
  eventActive s .ignitionOn = false ∨ (stowed before a = true → stowed s a = true) ∨
    (overrideOf s a).state ≠ .none

theorem raiseIfLeft_quiet (h : StaysUnraised before s a) : raiseIfLeft before s a = s := by
  unfold raiseIfLeft
  rcases h with h | h | h
  · simp [h]
  · rw [if_neg]
    intro hleft
    simp only [Bool.and_eq_true, Bool.not_eq_true'] at hleft
    obtain ⟨⟨-, hbefore⟩, hnow⟩ := hleft
    simp [h hbefore] at hnow
  · rw [raiseOverride_refused (.inr h), ite_self]

theorem stowWatch_quiet (h : ∀ a, StaysUnraised before s a) : stowWatch before s = s := by
  rw [stowWatch, raiseIfLeft_quiet (h .step), raiseIfLeft_quiet (h .awning)]

/-- What a raise leaves of a motor that has been switched on, or brakes: the motion's run time, and the stage in
BRAKING at most. -/
structure MotorKept (s t : State) : Prop where
  table : t.table = s.table
  owner : t.drive.owner = s.drive.owner
  on : t.drive.stage ≠ .idle ∧ t.drive.stage ≠ .claimed
  runTime : ∀ j, (slotAt t j).runTime = (slotAt s j).runTime
  homing : (∀ o, s.drive.owner = some o → o.actuator ≠ .step) → t.act.homing = s.act.homing
  flags : FlagsKeptBut [.moveFailed] s t

theorem MotorKept.trans {s t u : State} (h : MotorKept s t) (k : MotorKept t u) : MotorKept s u where
  table := k.table.trans h.table
  owner := k.owner.trans h.owner
  on := k.on
  runTime j := (k.runTime j).trans (h.runTime j)
  homing hs := (k.homing (by rwa [h.owner])).trans (h.homing hs)
  flags f hf := (k.flags f hf).trans (h.flags f hf)

theorem MotorKept.refl (hs : s.drive.stage ≠ .idle ∧ s.drive.stage ≠ .claimed) : MotorKept s s :=
  ⟨rfl, rfl, hs, fun _ => rfl, fun _ => rfl, fun _ _ => rfl⟩

theorem completeOwner_motorKept (hs : s.drive.stage ≠ .idle ∧ s.drive.stage ≠ .claimed) :
    MotorKept s (completeOwner .abortedPreempted s) := by
  cases hholds : holdsStage s.drive.stage with
  | false => rw [completeOwner_released hholds]; exact .refl hs
  | true =>
    cases ho : s.drive.owner with
    | none => rw [completeOwner, ho]; exact .refl hs
    | some o =>
      have hw := (holdsStage_cases hholds).resolve_left hs.2
      have hslots := congrArg MotionTable.slots (completeOwner_motion ho hholds .abortedPreempted)
      have hflags := finishMotion_flags s o .abortedPreempted
      refine ⟨?_, ?_, ?_, fun j => ?_, fun hstep => ?_, fun f hf => ?_⟩
      case refine_4 =>
        rw [slotAt_of_motion hslots, slotAt_finishMotion]
        split <;> rfl
      all_goals rw [completeOwner_afterWaking ho hw]
      · simp
      · rfl
      · exact ⟨by simp [brakingFrom], by simp [brakingFrom]⟩
      · simp [hstep o ho]
      · exact hflags f hf

theorem raiseOverride_motorKept {c : OverrideCause}
    (hs : s.drive.stage ≠ .idle ∧ s.drive.stage ≠ .claimed) : MotorKept s (raiseOverride a c s) := by
  have hraise : MotorKept s (withRaise a c s) :=
    ⟨by simp [withRaise], by simp, by simpa using hs,
      fun j => congrArg Slot.runTime (slotAt_of_motion (withRaise_slots a c s) j), fun _ => by simp [withRaise],
      fun f _ => flagBits_of_flags (by simp [withRaise]) f⟩
  exact raiseOverride_cases (MotorKept s) (.refl hs)
    (preempt_cases (MotorKept s) hraise fun _ => hraise.trans (completeOwner_motorKept hraise.on))

theorem stowWatch_motorKept (before : State) (hs : s.drive.stage ≠ .idle ∧ s.drive.stage ≠ .claimed) :
    MotorKept s (stowWatch before s) := by
  have hleft : ∀ (u : State) (b : Actuator), u.drive.stage ≠ .idle ∧ u.drive.stage ≠ .claimed →
      MotorKept u (raiseIfLeft before u b) := fun u b hu => by
    unfold raiseIfLeft
    exact ite_keeps (MotorKept u) _ _ _ (raiseOverride_motorKept hu) (.refl hu)
  have hstep := hleft s .step hs
  exact hstep.trans (hleft _ .awning hstep.on)

end

end Sys2Proof.Machine
end

section
/-! PROOFS. A millisecond of drive as a whole (R115, R126, R138, R141 to R143): the motor's part, then the
overrides that a departure from the stowed state raises. -/

namespace Sys2Proof.Machine

/-- The timers' and the motor's part of a millisecond. -/
def driven (x : MotorSample) (s : State) : State := driveMotor x (runTimers s)

/-! ## The motor's part -/

@[simp] theorem driven_frame (x : MotorSample) (s : State) :
    (driven x s).meter = s.meter ∧ (driven x s).table = s.table ∧ (driven x s).lamps = s.lamps ∧
      (driven x s).heater = s.heater ∧ (driven x s).tanks = s.tanks ∧ (driven x s).wind = s.wind ∧
      (driven x s).pins = s.pins ∧ (driven x s).time = s.time ∧ (driven x s).link = s.link ∧
      (driven x s).params = s.params ∧ (driven x s).pending = s.pending := by
  simp [driven]

@[simp] theorem msCounted_frame (x : MotorSample) (o : Owner) (s : State) :
    (msCounted x o s).act = s.act ∧ (msCounted x o s).params = s.params ∧ (msCounted x o s).pins = s.pins := by
  unfold msCounted
  split <;> simp

theorem ownerAction_msCounted (x : MotorSample) (o p : Owner) (s : State) :
    ownerAction (msCounted x o s) p = ownerAction s p := by
  unfold msCounted
  split
  · rw [addRunTime, ownerAction_setOwnerCounts]
    exact ownerAction_congr (by simp) p
  · rfl

theorem destinationSwitchMapped_msCounted (x : MotorSample) (o p : Owner) (s : State) :
    destinationSwitchMapped (msCounted x o s) p = destinationSwitchMapped s p := by
  have hm := eventMapped_of_pins (s := s) (t := msCounted x o s) (by simp)
  simp only [destinationSwitchMapped, destinationSwitch, ownerAction_msCounted, hm]

section
variable {s : State} {o : Owner} {d : Direction} (x : MotorSample)
variable (ho : s.drive.owner = some o) (hd : s.drive.direction = some d)
  (hs : s.drive.stage = .running ∨ s.drive.stage = .backing)
include ho hd hs

theorem driven_eq :
    driven x s = moveActuator (decide (s.drive.stage = .running)) o d (msCounted x o s) :=
  driveMotor_driven ho hd hs

theorem driven_drive : (driven x s).drive = msStage (overThreshold s o.actuator x) s := by
  rw [driven_eq x ho hd hs, (moveActuator_rest _ _ _ _).1, msCounted_drive]

theorem driven_motion : (driven x s).motion = (msCounted x o s).motion := by
  rw [driven_eq x ho hd hs, (moveActuator_rest _ _ _ _).2.1]

theorem driven_counts :
    MotionCounts o (ownerRetries s o) (ownerRunTime s o + if s.drive.stage = .running then 1 else 0) s
      (driven x s) :=
  (msCounted_motionCounts x o s).of_motion (driven_motion x ho hd hs)

theorem driven_awning (ha : o.actuator = .awning) :
    (driven x s).act = { s.act with
      posMs := s.act.posMs.map (movedCount (decide (s.drive.stage = .running)) d s.params.awningTravel) } := by
  rw [driven_eq x ho hd hs, moveActuator_awning _ _ ha]
  simp

theorem driven_step (ha : o.actuator = .step) {n : Nat} (hn : s.act.stepMs = some n) :
    (driven x s).act = { s.act with
      stepMs := some (movedCount (decide (s.drive.stage = .running)) d s.params.stepTravel n) } := by
  rw [driven_eq x ho hd hs, moveActuator_step _ _ ha (n := n) (by simpa using hn)]
  simp

theorem driven_step_posMs (ha : o.actuator = .step) : (driven x s).act.posMs = s.act.posMs := by
  rw [driven_eq x ho hd hs, moveActuator_step_posMs _ _ ha]
  simp

theorem driven_homing (ha : o.actuator = .step) (hn : s.act.stepMs = none) {h n : Nat}
    (hh : s.act.homing = some h) (hcount : n = if s.drive.stage = .running then h + 1 else h - 1) :
    (driven x s).act =
      if s.params.stepTravel ≤ n ∧ destinationSwitchMapped s o = false then
        { s.act with
          stepMs := some (if ownerAction s o = .extend then s.params.stepTravel else 0)
          homing := none }
      else { s.act with homing := some n } := by
  rw [driven_eq x ho hd hs, moveActuator_homing _ _ ha (by simpa using hn) (h := h) (by simpa using hh),
    hcount, ownerAction_msCounted, destinationSwitchMapped_msCounted]
  simp

theorem driven_stowed_other {b : Actuator} (hb : b ≠ o.actuator) : stowed (driven x s) b = stowed s b := by
  rw [driven_eq x ho hd hs, moveActuator_stowed_other _ _ hb]
  exact stowed_of_pins (by simp) (by simp) (by simp) (by simp) b

theorem driven_on : (driven x s).drive.stage ≠ .idle ∧ (driven x s).drive.stage ≠ .claimed := by
  have hstage : (driven x s).drive.stage = s.drive.stage := by simp [driven_drive x ho hd hs, msStage]
  rw [hstage]
  rcases hs with h | h <;> simp [h]

/-! ## The whole millisecond -/

theorem driven_motorKept : MotorKept (driven x s) (stowWatch s (driven x s)) :=
  stowWatch_motorKept s (driven_on x ho hd hs)

/-- The stage stays held or braking, so that the arbiter has no part in the millisecond. -/
theorem exec_driveMillisecond (hp : s.time.power ≠ .dormant) :
    exec (.driveMillisecond x) s = .next (settle s (stowWatch s (driven x s))) := by
  have hms : driveMs x s = stowWatch s (driven x s) :=
    arbitrate_of_busy (driven_motorKept x ho hd hs).on.1
  simp [exec, execDriveMillisecond, perform_eq, hp, hms]

/-- A millisecond that raises no override. -/
theorem exec_driveMillisecond_quiet (hp : s.time.power ≠ .dormant)
    (hquiet : ∀ b, StaysUnraised s (driven x s) b) :
    exec (.driveMillisecond x) s = .next (settle s (driven x s)) := by
  rw [exec_driveMillisecond x ho hd hs hp, stowWatch_quiet hquiet]

end

section
variable {s : State} (x : MotorSample)

theorem stowWatch_acted (before s : State) : Acted s (stowWatch before s) := by
  have hleft : ∀ u b, Acted u (raiseIfLeft before u b) := fun u b => by
    unfold raiseIfLeft
    exact ite_keeps (Acted u) _ _ _ (raiseOverride_acted b _ u) (.refl u)
  exact (hleft s .step).trans (hleft _ .awning)

/-- What the millisecond leaves beside the stage, the motions and the positions, with the ignition off. -/
theorem eq_of_driven {t : State} (ht : t = settle s (driven x s)) :
    t = { afterEvent s t with drive := t.drive, motion := t.motion, act := t.act } := by
  have hevent : t = afterEvent (driven x s) t := ht ▸ settle_eq_afterEvent s _
  have hframe := driven_frame x s
  rw [hevent]
  simp only [afterEvent, hframe]

/-- A millisecond raises MOVE_FAILED alone, for the motion that an override preempts, and ROAD_UNSAFE follows the
positions (R129, R146). -/
theorem driveMillisecond_flags {t : State} (hs : Settled s)
    (hkept : MotorKept (driven x s) (stowWatch s (driven x s)))
    (ht : t = settle s (stowWatch s (driven x s))) : FlagsKeptBut [.moveFailed, .roadUnsafe] s t := by
  have hacted := stowWatch_acted s (driven x s)
  have hactive : ∀ e, eventActive (stowWatch s (driven x s)) e = eventActive s e := fun e =>
    (hacted.active e).trans (eventActive_of_pins (by simp) e)
  have hmapped : ∀ e, eventMapped (stowWatch s (driven x s)) e = eventMapped s e := fun e =>
    (hacted.mapped e).trans (eventMapped_of_pins (by simp) e)
  intro f hf
  obtain ⟨hfailed, hroad⟩ : f ≠ .moveFailed ∧ f ≠ .roadUnsafe := by simpa using hf
  rw [ht]
  refine flagBits_settle_of_kept hs.1 (conditionHolds_of_reads (fun _ => hactive _) (fun _ => ?_) ?_
    (fun e _ => hactive e) hmapped ?_ ?_ ?_ ?_ (fun h => absurd h hroad) (fun h => absurd h hroad) ?_)
    ((hkept.flags f (by simpa using hfailed)).trans (flagBits_of_flags (by simp) f))
  all_goals simp

end

end Sys2Proof.Machine
end

section
/-! PROOFS. The statement about a millisecond of drive, by the kinds of motion that raise no override and by what
an override leaves of the millisecond. -/

namespace Sys2Proof.Machine

/-- With the ignition off a millisecond raises no override. -/
theorem driven_quiet_of_ignitionOff {s : State} (x : MotorSample) (hi : eventActive s .ignitionOn = false)
    (b : Actuator) : StaysUnraised s (driven x s) b :=
  .inl ((eventActive_of_pins (by simp) _).trans hi)

section
variable {s : State} {o : Owner} {d : Direction} (x : MotorSample)
variable (ho : s.drive.owner = some o) (hd : s.drive.direction = some d)
  (hs : s.drive.stage = .running ∨ s.drive.stage = .backing)
include ho hd hs

/-- The motion of an ACTIVE override raises none: its own is not NONE, the other actuator does not move. -/
theorem driven_quiet_of_override (hm : o.motion = .override) (ha : (overrideOf s o.actuator).state = .active)
    (b : Actuator) : StaysUnraised s (driven x s) b := by
  by_cases hb : b = o.actuator
  · refine .inr (.inr ?_)
    obtain ⟨-, hcounts⟩ := driven_counts x ho hd hs
    rw [hb, hcounts hm]
    simp [ha]
  · exact .inr (.inl fun h => (driven_stowed_other x ho hd hs hb).trans h)

/-- While the step position is unknown the homing count moves nothing out of the stowed state. -/
theorem driven_quiet_of_unknown (ha : o.actuator = .step) (hn : s.act.stepMs = none) (b : Actuator) :
    StaysUnraised s (driven x s) b := by
  refine .inr (.inl fun h => ?_)
  cases b with
  | step => exact stepStowed_of_unknown hn (fun e => eventActive_of_pins (by simp) e) h
  | awning => exact (driven_stowed_other x ho hd hs (by simp [ha])).trans h

theorem driven_runTime {i : Fin 16} (hm : o.motion = .slot i) :
    (slotAt (driven x s) i).runTime =
      (slotAt s i).runTime + if s.drive.stage = .running then 1 else 0 := by
  have hrun : ownerRunTime s o = (slotAt s i).runTime := by
    simp only [ownerRunTime, hm]
    rfl
  obtain ⟨hslot, -⟩ := driven_counts x ho hd hs
  rw [hslot i hm, hrun]

end

/-- Settles O49: what the motor's part does stands, whether or not a departure from the stowed state raises an
override; where none can be raised the outcome is the motor's part itself. -/
theorem aMillisecondOfDrive : Obligations.AMillisecondOfDrive := by
  constructor
  · intro s x a i d leg extend high ho hd hp hstage hs
    have hkept := driven_motorKept x ho hd hstage
    have hon := exec_driveMillisecond x ho hd hstage hp
    have hdriven := driven_drive x ho hd hstage
    have hhigh : overThreshold s a x = high := by cases x <;> cases a <;> rfl
    rw [hhigh] at hdriven
    obtain ⟨t, ht⟩ : ∃ t, t = settle s (stowWatch s (driven x s)) := ⟨_, rfl⟩
    have hgap : t.drive.gap = (msStage high s).gap := by simp [ht, hdriven]
    have hleg : t.drive.legTime = (msStage high s).legTime := by simp [ht, hdriven]
    have hcount : t.drive.stallCount = (msStage high s).stallCount := by simp [ht, hdriven]
    have hdue : t.drive.stallDue = (msStage high s).stallDue := by simp [ht, hdriven]
    have hrun : (slotAt t i).runTime =
        (slotAt s i).runTime + if s.drive.stage = .running then 1 else 0 := by
      have hslots : t.motion.slots = (stowWatch s (driven x s)).motion.slots := by simp [ht]
      rw [slotAt_of_motion hslots, hkept.runTime, driven_runTime x ho hd hstage rfl]
    have hpos : t.act.posMs = (driven x s).act.posMs := by simp [ht]
    have hms : t.act.stepMs = (driven x s).act.stepMs := by simp [ht]
    have hhoming : a = .awning → t.act.homing = (driven x s).act.homing := fun ha => by
      have h : t.act.homing = (stowWatch s (driven x s)).act.homing := by simp [ht]
      refine h.trans (hkept.homing fun p hown => ?_)
      obtain rfl : (⟨a, .slot i⟩ : Owner) = p := by
        simpa [hdriven, msStage, ho] using hown
      simp [ha]
    refine ⟨t, by rw [hon, ht], hgap, fun hr => ⟨?_, ?_, ?count, ?due⟩, fun hb => ?backing,
      fun ha => ?awning, fun ha => ?step, fun hi => ?off, ?_, driveMillisecond_flags x hs hkept ht⟩
    · rw [hrun, if_pos hr]
    · rw [hleg]; exact if_pos hr
    case count => rw [hcount]; simp [msStage, hr, sampledCount, leg]
    case due => rw [hdue, hcount]; simp +contextual [msStage, hr, leg]
    case backing =>
      have hn : ¬ s.drive.stage = .running := by simp [hb]
      refine ⟨by rw [hrun, if_neg hn, Nat.add_zero], ?_, ?_, ?_⟩
      · rw [hleg]; exact if_neg hn
      · rw [hcount]; exact if_neg fun h => hn h.1
      · rw [hdue]; exact if_neg fun h => hn h.1
    case awning =>
      rw [hpos, hms, hhoming ha, driven_awning x ho hd hstage ha]
      exact ⟨rfl, rfl, rfl⟩
    case step =>
      refine ⟨by rw [hpos, driven_step_posMs x ho hd hstage ha], fun n hn => ?_⟩
      rw [hms, driven_step x ho hd hstage ha hn]
      rfl
    case off =>
      rw [stowWatch_quiet fun b => driven_quiet_of_ignitionOff x hi b] at ht
      have hdrive : t.drive = msStage high s := by simp [ht, hdriven]
      exact ⟨by rw [hdrive]; rfl, by rw [hdrive]; rfl, eq_of_driven x ht⟩
    · have h : t.table = (stowWatch s (driven x s)).table := by simp [ht]
      rw [h, hkept.table]
      simp
  · intro s x o d h leg counted high count extend homed ho hd hp hstage hs
    have hhigh : overThreshold s o.actuator x = high := by
      cases x <;> cases ha : o.actuator <;> simp [high, ha] <;> rfl
    refine ⟨fun hm hactive => ?override, fun ha hn hh => ?homing⟩
    case override =>
      have hrun := exec_driveMillisecond_quiet x ho hd hstage hp
        (driven_quiet_of_override x ho hd hstage hm hactive)
      have hdrive : (settle s (driven x s)).drive = (driven x s).drive := by simp
      have hact : (settle s (driven x s)).act = (driven x s).act := by simp
      refine ⟨_, hrun, (driven_counts x ho hd hstage).of_motion (by simp), ?_, fun ha => ?_, fun ha p hp => ?_⟩
      · rw [hdrive, driven_drive x ho hd hstage, hhigh]
        rfl
      · rw [hact, driven_awning x ho hd hstage ha]
        rfl
      · rw [hact, driven_step x ho hd hstage ha hp]
        rfl
    case homing =>
      have hrun := exec_driveMillisecond_quiet x ho hd hstage hp
        (driven_quiet_of_unknown x ho hd hstage ha hn)
      have hact : (settle s (driven x s)).act = (driven x s).act := by simp
      exact ⟨_, hrun, hact.trans <| driven_homing x ho hd hstage ha hn hh rfl⟩

end Sys2Proof.Machine
end

section
/-! PROOFS. The timers of the stage (R115, R116, R127) and the arbiter's outcome for the claimant that it chooses
(R118, R124). -/

namespace Sys2Proof.Machine

/-! ## Timers within a motion (R115, R127) -/

section
variable {s : State} {d : DriveStage}

theorem conditionHolds_setDrive (s : State) (d : DriveStage) (f : Flag) :
    conditionHolds (s.setDrive d) f = conditionHolds s f :=
  conditionHolds_congr rfl rfl rfl rfl rfl rfl rfl rfl rfl f

theorem driveActive_of_stage (h : s.drive.stage ≠ .idle) : driveActive s = true := by
  simp [driveActive, h]

/-- A stage that is not IDLE is an activity, so that no idle due instant is set (R187). -/
theorem idleConditions_of_driveActive (h : driveActive s = true) : idleConditions s = false := by
  simp [idleConditions, activities, h]

/-- A stage that goes from one phase to another settles at once. -/
theorem settle_setDrive (hs : Settled s) (hbefore : s.drive.stage ≠ .idle) (hd : d.stage ≠ .idle) :
    settle s (s.setDrive d) = s.setDrive d := by
  obtain ⟨hflags, hidle⟩ := hs
  rw [flagsStand_iff] at hflags
  have hconditions := conditionHolds_setDrive s d
  refine settle_eq_of_settled ⟨(flagsStand_iff _).mpr fun f hf => ?_, ?_⟩ fun f hf => hconditions f ▸ hf
  · exact hflags f (hconditions f ▸ hf)
  · have hclosed : ∀ t : State, t.drive.stage ≠ .idle → idleConditions t = false := fun t ht =>
      idleConditions_of_driveActive (driveActive_of_stage ht)
    rw [IdleFollows, hclosed s hbefore] at hidle
    rw [IdleFollows, hclosed (s.setDrive d) hd]
    exact hidle

end

/-! ## The claimant that the arbiter takes (R118, R124) -/

theorem MotionEnded.of_source {o : Owner} {r : MotionResult} {s t u : State} (h : MotionEnded o r u t)
    (hm : u.motion = s.motion) : MotionEnded o r s t := by
  obtain ⟨hslot, hoverride⟩ := h
  refine ⟨fun i hi => ?_, fun ho => by rw [hoverride ho, overrideOf_of_motion hm]⟩
  have hsame : slotAt u i = slotAt s i := slotAt_of_motion (by rw [hm]) i
  simpa only [SlotEnded, hsame] using hslot i hi

section
variable {s : State} {c : Owner} {r : MotionResult}

/-- The claim leaves the stage CLAIMED or in WAKING for its owner. -/
theorem claim_stage (o : Owner) (k : Origin) (s : State) :
    ((claim o k s).drive.stage = .claimed ∨ (claim o k s).drive.stage = .waking) ∧
      (claim o k s).drive.owner = some o ∧ (claim o k s).drive.lastServed = s.drive.lastServed := by
  rcases claim_drive (o := o) (k := k) (s := s) with h | h <;> rw [h]
  · exact ⟨.inl rfl, rfl, rfl⟩
  · exact ⟨.inr rfl, rfl, rfl⟩

variable (hidle : s.drive.stage = .idle) (hactive : s.time.power = .active) (hc : chosen s = some c)
include hidle hactive hc

/-- A claimant of the other actuator waits in GAP. -/
theorem arbitrate_gap (hg : gapHolds s c = true) :
    arbitrate s = s.setDrive { s.drive with stage := .gap } := by
  rw [arbitrate_of_chosen hidle hactive hc, takeClaimant_gap hg]
  exact arbitrateN_of_busy _ (by simp)

/-- A claimant that passes its checks claims the stage, and the arbiter rests. -/
theorem arbitrate_claims (hg : gapHolds s c = false) (hr : checked c s = none) :
    arbitrate s = claim c (claimOrigin c) (activate c (servedBy c s)) := by
  rw [arbitrate_of_chosen hidle hactive hc, takeClaimant_claims hg hr]
  refine arbitrateN_of_busy _ ?_
  rcases (claim_stage c (claimOrigin c) (activate c (servedBy c s))).1 with h | h <;> simp [h]

/-- A claimant that a check completes stays so, whoever comes after it. -/
theorem arbitrate_ended (hg : gapHolds s c = false) (hr : checked c s = some r) :
    MotionEnded c r s (arbitrate s) := by
  rw [arbitrate_of_chosen hidle hactive hc, takeClaimant_ended hg hr]
  exact ((finishMotion_motionEnded _ c r).arbitrateN 18).of_source (servedBy_motion c s)

end

/-- Without a gap timer the arbiter leaves no stage in GAP. -/
theorem arbitrate_ungapped {s : State} (hgap : s.drive.gap = none) (hs : s.drive.stage ≠ .gap) :
    (arbitrate s).drive.stage ≠ .gap := by
  refine (arbitrateN_keeps (fun t => t.drive.gap = none ∧ t.drive.stage ≠ .gap)
    (fun t c hidle _ ⟨hnone, _⟩ => ⟨by simp [hnone], ?_⟩) 19 s ⟨hgap, hs⟩).2
  have hg : gapHolds t c = false := by simp [gapHolds, hnone]
  cases hr : checked c t with
  | none =>
    rw [takeClaimant_claims hg hr]
    rcases (claim_stage c (claimOrigin c) (activate c (servedBy c t))).1 with h | h <;> simp [h]
  | some r =>
    have hstage : (servedBy c t).drive.stage = t.drive.stage := by
      unfold servedBy
      split <;> rfl
    rw [takeClaimant_ended hg hr]
    simp [hstage, hidle]

/-! ## The checks (R124) -/

section
variable {s : State} {c : Owner} {j : Fin 16}

/-- What the destination of a RETRACT depends on. -/
theorem destinationReached_retract_congr {t : State} (hs : ownerAction s c = .retract)
    (ht : ownerAction t c = .retract) (h : t.pins = s.pins) (hp : t.act.posMs = s.act.posMs)
    (hms : t.act.stepMs = s.act.stepMs) (hq : t.params = s.params) :
    destinationReached t c = destinationReached s c := by
  have ha := eventActive_of_pins h
  have hm := eventMapped_of_pins h
  have hstep : stepPosition t = stepPosition s :=
    stepPosition_congr (ha _) (ha _) (hm _) (hm _) hms hq
  have hawning : awningStowed t = awningStowed s := by simp only [awningStowed, ha, hm, hp]
  obtain ⟨a, m⟩ := c
  cases a <;> simp only [destinationReached, hs, ht, hstep, hawning, ha, hm]

/-- Check 1 for a slot that does not retract. -/
theorem checked_interlock (hm : c.motion = .slot j) (hact : (slotAt s j).action ≠ .retract)
    (h : eventActive s .ignitionOn = true ∨ eventActive s .estop = true ∨ s.meter.band = .critical ∨
      (c.actuator = .awning ∧ s.wind.lockout = true)) : checked c s = some .refusedInterlock := by
  obtain ⟨a, m⟩ := c
  obtain rfl : m = .slot j := hm
  dsimp only at h
  have hstands : ∀ u : State, u = s.setDrive { s.drive with lastServed := a } →
      startCheck u a j = some .refusedInterlock := by
    rintro u rfl
    have hslot : (slotAt (s.setDrive { s.drive with lastServed := a }) j).action = (slotAt s j).action := rfl
    have hevents := eventActive_of_pins (s := s) (t := s.setDrive { s.drive with lastServed := a }) rfl
    simp only [startCheck, hslot, hact, hevents]
    rw [if_pos]
    rcases h with h | h | h | h <;> simp [h]
  exact hstands _ rfl

/-- A RETRACT meets check 3 alone, as an override does. -/
theorem checked_retract (h : ownerAction s c = .retract) :
    checked c s = none ↔ stowed s c.actuator = false := by
  obtain ⟨a, m⟩ := c
  have hdestination := fun (u : State) (hu : u.motion = s.motion) =>
    destinationReached_retract (s := u) (o := ⟨a, m⟩) ((ownerAction_congr hu _).trans h)
  cases m with
  | slot j =>
    have hslot : (slotAt s j).action = .retract := h
    have hserved : (slotAt (servedBy ⟨a, .slot j⟩ s) j).action = .retract := by rw [slotAt_servedBy, hslot]
    simp only [checked, startCheck, hserved, decide_true, Bool.not_true, Bool.false_and, Bool.and_false,
      Bool.false_eq_true, if_false]
    exact hdestination _ rfl
  | override => exact hdestination _ rfl

end

/-- An override that is not stowed is granted at once, as class 0 (R32, R118). -/
theorem arbitrate_override {s : State} {a : Actuator} (hidle : s.drive.stage = .idle)
    (hactive : s.time.power = .active) (hc : chosen s = some ⟨a, .override⟩)
    (hg : gapHolds s ⟨a, .override⟩ = false) (hr : stowed s a = false)
    (ho : origins s chDrive = OriginSet.empty) :
    overrideOf (arbitrate s) a = { overrideOf s a with state := .active } ∧
      (arbitrate s).drive.owner = some ⟨a, .override⟩ ∧ (arbitrate s).drive.stage = .waking ∧
      (arbitrate s).drive.direction = some .retract ∧
      (arbitrate s).drive.phaseTimer = s.params.settleTime ∧
      origins (arbitrate s) chDrive = { OriginSet.empty with override := some 0 } := by
  have hclaims := arbitrate_claims hidle hactive hc hg ((checked_retract (c := ⟨a, .override⟩) rfl).mpr hr)
  obtain ⟨v, hv⟩ : ∃ v, v = activate ⟨a, .override⟩ s := ⟨_, rfl⟩
  have horigins : origins v chDrive = .empty := by
    rw [hv]
    exact (origins_of_table (by simp [activate]) chDrive).trans ho
  have hparams : v.params = s.params := by simp [hv, activate]
  have hop : arbitrate s = claim ⟨a, .override⟩ .override v := by rw [hv]; exact hclaims
  have hdrive := claim_override_drive (o := ⟨a, .override⟩) horigins
  rw [hop, hdrive, claim_origins, horigins, overrideOf_claim, hv, overrideOf_activate, if_pos ⟨rfl, rfl⟩]
  rw [hv] at hparams
  exact ⟨rfl, rfl, rfl, rfl, congrArg Params.settleTime hparams, rfl⟩

end Sys2Proof.Machine
end

section
/-! PROOFS. The ends of the stage's timers (R115, R116, R118, R124, R127). -/

namespace Sys2Proof.Machine

/-! ## The end of the brake hold (R116) -/

/-- The gap timer after a stop of the motor of `o` (R118). -/
def dueGap (o : Owner) (s : State) : Option GapTimer :=
  if s.params.gapTime = 0 then s.drive.gap else some ⟨s.params.gapTime, o.actuator⟩

/-- The stage is left without owner, before the arbiter acts. -/
def brakeEnded (o : Owner) (s : State) : State :=
  (releaseStage s).setDrive { s.drive.idled with lastActuator := o.actuator, gap := dueGap o s }

section
variable {s : State} {o c : Owner}

theorem brakeEndOp_eq (ho : s.drive.owner = some o) : brakeEndOp s = arbitrate (brakeEnded o s) := by
  have hgap : s.drive.idled.gap = s.drive.gap := rfl
  simp only [brakeEndOp, ho, releaseStage_drive, hgap]
  rfl

theorem brakeEnded_drive :
    (brakeEnded o s).drive = { s.drive.idled with lastActuator := o.actuator, gap := dueGap o s } := rfl

theorem brakeEnded_motion (o : Owner) (s : State) : (brakeEnded o s).motion = s.motion := by
  simp [brakeEnded]

theorem brakeEnded_frame (o : Owner) (s : State) :
    (brakeEnded o s).meter = s.meter ∧ (brakeEnded o s).wind = s.wind ∧ (brakeEnded o s).pins = s.pins ∧
      (brakeEnded o s).act.posMs = s.act.posMs ∧ (brakeEnded o s).act.stepMs = s.act.stepMs ∧
      (brakeEnded o s).params = s.params := by
  simp [brakeEnded]

theorem brakeEnded_origins (o : Owner) (s : State) : origins (brakeEnded o s) chDrive = OriginSet.empty := by
  have hreleased := releaseStage_origins s chDrive
  rw [if_pos rfl] at hreleased
  exact hreleased

theorem brakeEnded_chosen (o : Owner) (s : State) : chosen (brakeEnded o s) = chosen s :=
  chosen_congr (brakeEnded_motion o s) (by simp [brakeEnded]) rfl

theorem brakeEnded_gapHolds :
    gapHolds (brakeEnded o s) c = true ↔ ∃ g ∈ dueGap o s, g.actuator ≠ c.actuator := by
  simp [gapHolds, brakeEnded_drive, Option.any_eq_true]

theorem brakeEnded_stowed (o : Owner) (s : State) (b : Actuator) : stowed (brakeEnded o s) b = stowed s b := by
  obtain ⟨-, -, hpins, hpos, hms, hparams⟩ := brakeEnded_frame o s
  exact stowed_of_pins hpins hpos hms hparams b

/-- Check 3 for an override. -/
theorem brakeEnded_checked_override (o : Owner) (s : State) (b : Actuator) :
    checked ⟨b, .override⟩ (brakeEnded o s) = destinationReached s ⟨b, .override⟩ := by
  obtain ⟨-, -, hpins, hpos, hms, hparams⟩ := brakeEnded_frame o s
  exact destinationReached_retract_congr rfl rfl hpins hpos hms hparams

theorem brakeEndOp_motionsActed (ho : s.drive.owner = some o) : MotionsActed s (brakeEndOp s) := by
  have hkept : ArbiterKeeps s (brakeEnded o s) :=
    (releaseStage_arbiterKeeps s).trans (.of_table rfl rfl rfl rfl)
  have hacted : Acted s (brakeEnded o s) := (releaseStage_acted s).trans (.of_eq rfl rfl rfl)
  refine .of_arbiter (brakeEndOp_frame s) ?_ ?_ <;> rw [brakeEndOp_eq ho]
  · exact hkept.arbitrate
  · exact hacted.trans (arbitrate_acted _)

theorem exec_brakeHoldEnd (hs : s.drive.stage = .braking) :
    exec .brakeHoldEnd s = .next (settle s (brakeEndOp s)) := by
  simp [exec, execBrakeHoldEnd, perform_eq, hs]

end

/-! ## The end of the gap timer (R118) -/

section
variable {s : State}

/-- The gap timer is removed; a stage in GAP is IDLE before the arbiter acts. -/
def gapEnded (s : State) : State := s.setDrive { s.drive.idled with gap := none }

theorem gapEndOp_gap (h : s.drive.stage = .gap) : gapEndOp s = arbitrate (gapEnded s) := by
  simp only [gapEndOp, h, if_true]
  rfl

theorem gapEndOp_other (h : s.drive.stage ≠ .gap) : gapEndOp s = s.setDrive { s.drive with gap := none } := by
  simp only [gapEndOp, h, if_false]

theorem gapEndOp_motionsActed (s : State) : MotionsActed s (gapEndOp s) := by
  by_cases h : s.drive.stage = .gap
  · have hkept : ArbiterKeeps s (gapEnded s) := .of_table rfl rfl rfl rfl
    have hacted : Acted s (gapEnded s) := .of_eq rfl rfl rfl
    rw [gapEndOp_gap h]
    exact .of_arbiter (by simp [OnlyBrakeEnd, gapEnded, DriveStage.idled]) hkept.arbitrate
      (hacted.trans (arbitrate_acted _))
  · rw [gapEndOp_other h]
    exact .of_arbiter (by simp [OnlyBrakeEnd]) (.of_table rfl rfl rfl rfl) (.of_eq rfl rfl rfl)

theorem gapEndOp_gapless (s : State) : (gapEndOp s).drive.gap = none := by
  by_cases h : s.drive.stage = .gap
  · rw [gapEndOp_gap h]
    simp [gapEnded]
  · rw [gapEndOp_other h]
    rfl

end

/-! ## Who is taken at the end of the brake hold (R118, R124) -/

section
variable {s t : State} {o c : Owner} {j : Fin 16}
variable (ho : s.drive.owner = some o) (hpower : s.time.power = .active) (hc : chosen s = some c)
include ho hpower hc

/-- A claimant that passes its checks claims the stage. -/
theorem brakeEnd_claims (hg : gapHolds (brakeEnded o s) c = false)
    (hr : checked c (brakeEnded o s) = none) :
    brakeEndOp s = claim c (claimOrigin c) (activate c (servedBy c (brakeEnded o s))) := by
  rw [brakeEndOp_eq ho]
  exact arbitrate_claims (s := brakeEnded o s) rfl (by simpa [brakeEnded] using hpower)
    ((brakeEnded_chosen o s).trans hc) hg hr

variable (ht : MotionsSettled s (brakeEndOp s) t)
include ht

/-- One of the other actuator waits in GAP. -/
theorem brakeEnd_gap (hg : gapHolds (brakeEnded o s) c = true) :
    t.drive.stage = .gap ∧ t.drive.owner = none ∧ t.motion = s.motion ∧
      origins t chDrive = OriginSet.empty := by
  have hgap := arbitrate_gap (s := brakeEnded o s) rfl (by simpa [brakeEnded] using hpower)
    ((brakeEnded_chosen o s).trans hc) hg
  rw [← brakeEndOp_eq ho] at hgap
  refine ⟨by rw [ht.drive, hgap]; rfl, by rw [ht.drive, hgap]; rfl, ?_, ?_⟩
  · rw [ht.motion, hgap]
    exact brakeEnded_motion o s
  · rw [origins_of_table ht.table, hgap]
    exact brakeEnded_origins o s

/-- A claimant that a check completes. -/
theorem brakeEnd_ended {r : MotionResult} (hg : gapHolds (brakeEnded o s) c = false)
    (hr : checked c (brakeEnded o s) = some r) : MotionEnded c r s t := by
  have hended := arbitrate_ended (s := brakeEnded o s) rfl (by simpa [brakeEnded] using hpower)
    ((brakeEnded_chosen o s).trans hc) hg hr
  rw [← brakeEndOp_eq ho] at hended
  exact (hended.of_source (brakeEnded_motion o s)).of_motion ht.motion

/-- An override is granted at once, as class 0. -/
theorem brakeEnd_override (hm : c.motion = .override) (hg : gapHolds (brakeEnded o s) c = false)
    (hr : stowed s c.actuator = false) :
    overrideOf t c.actuator = { overrideOf s c.actuator with state := .active } ∧
      t.drive.owner = some c ∧ t.drive.stage = .waking ∧ t.drive.direction = some .retract ∧
      t.drive.phaseTimer = s.params.settleTime ∧
      origins t chDrive = { OriginSet.empty with override := some 0 } := by
  obtain ⟨a, m⟩ := c
  obtain rfl : m = .override := hm
  have htaken := arbitrate_override (s := brakeEnded o s) rfl (by simpa [brakeEnded] using hpower)
    ((brakeEnded_chosen o s).trans hc) hg ((brakeEnded_stowed o s a).trans hr) (brakeEnded_origins o s)
  have hparams : (brakeEnded o s).params = s.params := by simp [brakeEnded]
  rw [← brakeEndOp_eq ho, overrideOf_of_motion (brakeEnded_motion o s), hparams] at htaken
  rw [overrideOf_of_motion ht.motion, ht.drive, origins_of_table ht.table]
  exact htaken

/-- A RETRACT that is not at its destination becomes ACTIVE. -/
theorem brakeEnd_retract (hm : c.motion = .slot j) (hact : (slotAt s j).action = .retract)
    (hg : gapHolds (brakeEnded o s) c = false) (hr : destinationReached s c = none) :
    slotAt t j = { slotAt s j with state := .active } ∧ t.drive.owner = some c ∧
      t.drive.lastServed = c.actuator ∧ (t.drive.stage = .claimed ∨ t.drive.stage = .waking) ∧
      origins t chDrive = { OriginSet.empty with motion := some 0 } := by
  obtain ⟨a, m⟩ := c
  obtain rfl : m = .slot j := hm
  have hretract : ownerAction (brakeEnded o s) ⟨a, .slot j⟩ = .retract :=
    (ownerAction_congr (brakeEnded_motion o s) _).trans hact
  have hstowed : stowed (brakeEnded o s) a = false :=
    (brakeEnded_stowed o s a).trans ((destinationReached_retract (o := ⟨a, .slot j⟩) hact).mp hr)
  have hclaims := brakeEnd_claims ho hpower hc hg ((checked_retract hretract).mpr hstowed)
  obtain ⟨v, hv⟩ : ∃ v, v = activate ⟨a, .slot j⟩ (servedBy ⟨a, .slot j⟩ (brakeEnded o s)) := ⟨_, rfl⟩
  have hop : brakeEndOp s = claim ⟨a, .slot j⟩ .motion v := by rw [hv]; exact hclaims
  obtain ⟨hstage, howner, hserved⟩ := claim_stage ⟨a, .slot j⟩ .motion v
  rw [← hop] at hstage howner hserved
  refine ⟨?_, by rw [ht.drive, howner], ?_, by rwa [ht.drive], ?_⟩
  · rw [slotAt_of_motion (congrArg MotionTable.slots ht.motion), hop, slotAt_claim, hv, slotAt_activate,
      if_pos rfl, slotAt_servedBy, slotAt_of_motion (congrArg MotionTable.slots (brakeEnded_motion o s))]
  · rw [ht.drive, hserved, hv]
    rfl
  · have horigins : origins v chDrive = .empty := by
      rw [hv]
      exact (origins_of_table (by simp [activate, servedBy]) chDrive).trans (brakeEnded_origins o s)
    rw [origins_of_table ht.table, hop, claim_origins, horigins]
    rfl

end

/-- Settles O47: a timer within a motion changes the stage alone; the ends of the brake hold and of the gap timer
leave the stage to the arbiter, whose outcome is that of the claimant that it chooses. -/
theorem stageTimersEndTheirPhases : Obligations.StageTimersEndTheirPhases := by
  refine ⟨fun s o hs => ⟨fun h => ?settle, fun h => ?retryWait, fun h ho => ?backoff⟩,
    fun s o hs => ⟨fun h ho => ?brake, fun h => ?gap⟩, fun s o c h ho hpower hc _ hs => ?taken⟩
  case settle =>
    simp only [exec, execSettleEnd, perform_eq, h, decide_true, if_true]
    exact congrArg _ (settle_setDrive hs (by simp [h]) (by simp))
  case retryWait =>
    simp only [exec, execRetryWaitEnd, perform_eq, h, decide_true, if_true]
    exact congrArg _ (settle_setDrive hs (by simp [h]) (by simp))
  case backoff =>
    simp only [exec, execBackoffEnd, perform_eq, h, decide_true, if_true, enterRetryWait, ho,
      Option.map_some, Option.getD_some]
    exact congrArg _ (settle_setDrive hs (by simp [h]) (by simp))
  case brake =>
    obtain ⟨hsettled, hframe⟩ := (brakeEndOp_motionsActed ho).settle hs
    refine ⟨_, exec_brakeHoldEnd h, ?_, ?_, fun hnone => ?_, hsettled.origins, hsettled.flags, hframe⟩
    · rw [hsettled.drive, brakeEndOp_eq ho]
      simp [brakeEnded_drive]
    · rw [hsettled.drive, brakeEndOp_eq ho]
      simp [brakeEnded_drive, dueGap]
    · have hrest : brakeEndOp s = brakeEnded o s := by
        rw [brakeEndOp_eq ho]
        rcases hnone with hc | hpower
        · exact arbitrate_of_unclaimed ((brakeEnded_chosen o s).trans hc)
        · exact arbitrate_of_inactive (by simpa [brakeEnded] using hpower)
      rw [hsettled.drive, hsettled.motion, origins_of_table hsettled.table, hrest]
      exact ⟨rfl, rfl, rfl, rfl, brakeEnded_origins o s, brakeEnded_motion o s⟩
  case gap =>
    obtain ⟨hsettled, hframe⟩ := (gapEndOp_motionsActed s).settle hs
    have hrun : exec .gapTimerEnd s = .next (settle s (gapEndOp s)) := by
      simp [exec, execGapTimerEnd, perform_eq, h]
    refine ⟨_, hrun, by rw [hsettled.drive, gapEndOp_gapless], fun hs => ?_, fun hs => ?_, hsettled.origins,
      hsettled.flags, hframe⟩
    · rw [gapEndOp_other hs]
      exact settle_eq_afterEvent s _
    · rw [hsettled.drive, gapEndOp_gap hs]
      exact arbitrate_ungapped rfl (by simp [gapEnded, DriveStage.idled])
  case taken =>
    obtain ⟨hsettled, -⟩ := (brakeEndOp_motionsActed ho).settle hs
    have hfree : (∀ g ∈ dueGap o s, g.actuator = c.actuator) →
        gapHolds (brakeEnded o s) c = false := fun hall => by
      rw [Bool.eq_false_iff, Ne, brakeEnded_gapHolds]
      rintro ⟨g, hg, hother⟩
      exact hother (hall g hg)
    refine ⟨_, exec_brakeHoldEnd h, fun g hg hother => ?other,
      fun hall hm => ⟨fun hr => ?override, fun r hr => ?ended⟩,
      fun hall j hm hact hlocked => ?interlock, fun hall j hm hact hr => ?retract⟩
    case other =>
      exact brakeEnd_gap ho hpower hc hsettled (brakeEnded_gapHolds.mpr ⟨g, hg, hother⟩)
    case override =>
      obtain ⟨a, m⟩ := c
      obtain rfl : m = .override := hm
      exact brakeEnd_override ho hpower hc hsettled rfl (hfree hall) ((destinationReached_override a).mp hr)
    case ended =>
      obtain ⟨a, m⟩ := c
      obtain rfl : m = .override := hm
      exact brakeEnd_ended ho hpower hc hsettled (hfree hall) ((brakeEnded_checked_override o s a).trans hr)
    case interlock =>
      obtain ⟨hmeter, hwind, hpins, -⟩ := brakeEnded_frame o s
      have hevents := eventActive_of_pins hpins
      have hslot : slotAt (brakeEnded o s) j = slotAt s j :=
        slotAt_of_motion (congrArg MotionTable.slots (brakeEnded_motion o s)) j
      refine (brakeEnd_ended ho hpower hc hsettled (hfree hall) (checked_interlock hm ?_ ?_)).1 j hm
      · rwa [hslot]
      · rwa [hevents, hevents, hmeter, hwind]
    case retract => exact brakeEnd_retract ho hpower hc hsettled hm hact (hfree hall) hr

end Sys2Proof.Machine
end

section
/-! PROOFS. The ends of a motion that no edge brings (R114, R125, R128): the grant wait, the time-out and the
destination. -/

namespace Sys2Proof.Machine

section
variable {s t : State} {o c : Owner} {r : MotionResult}

/-! ## An owner that has ended does not come back (R118) -/

theorem claims_takeClaimant_other (hc : Claims c s) (ho : ¬ Claims o s) : ¬ Claims o (takeClaimant c s) := by
  obtain ⟨a, m⟩ := o
  cases m with
  | slot j =>
    have hother : c.motion ≠ .slot j := fun hm => ho (by simpa only [Claims, hm] using hc)
    simpa only [Claims, slotAt_takeClaimant_other hother] using ho
  | override =>
    have hother : ¬ (c.motion = .override ∧ c.actuator = a) := fun ⟨hm, ha⟩ =>
      ho (by simpa only [Claims, hm, ha] using hc)
    simpa only [Claims, overrideOf_takeClaimant_other hother] using ho

theorem takeClaimant_owner (c : Owner) (s : State) :
    (takeClaimant c s).drive.owner = s.drive.owner ∨ (takeClaimant c s).drive.owner = some c := by
  have hserved : (servedBy c s).drive.owner = s.drive.owner := by
    unfold servedBy
    split <;> rfl
  refine takeClaimant_cases (fun t => t.drive.owner = s.drive.owner ∨ t.drive.owner = some c) (.inl rfl)
    (fun r => .inl (by simp [hserved])) (.inr ?_)
  obtain ⟨-, howner, -⟩ := claim_stage c (claimOrigin c) (activate c (servedBy c s))
  exact howner

/-- The arbiter does not give the stage to an owner that does not claim it. -/
theorem arbitrate_owner_ne (hs : s.drive.owner ≠ some o) (ho : ¬ Claims o s) :
    (arbitrate s).drive.owner ≠ some o := by
  refine (arbitrateN_keeps (fun t => t.drive.owner ≠ some o ∧ ¬ Claims o t)
    (fun t c _ hc ⟨hne, hclaims⟩ => ⟨?_, claims_takeClaimant_other (chosen_claims hc) hclaims⟩) 19 s ⟨hs, ho⟩).1
  rcases takeClaimant_owner c t with h | h <;> rw [h]
  · exact hne
  · rintro hcc
    obtain rfl : c = o := Option.some.inj hcc
    exact hclaims (chosen_claims hc)

theorem not_claims_of_ended (h : MotionEnded o r s t) : ¬ Claims o t := by
  obtain ⟨a, m⟩ := o
  obtain ⟨hslot, hoverride⟩ := h
  cases m with
  | slot j =>
    obtain ⟨hcomplete, -⟩ := hslot j rfl
    simp [Claims, hcomplete]
  | override =>
    have hnone : (overrideOf t a).state = .none := by rw [hoverride rfl]
    simp [Claims, hnone]

/-! ## The motion that holds the stage completes (R114, R116, R129) -/

theorem completeOwner_motionsActed (r : MotionResult) (s : State) :
    MotionsActed s (arbitrate (completeOwner r s)) :=
  .of_arbiter (by simp [OnlyBrakeEnd]) (completeOwner_arbiterKeeps s r).arbitrate
    ((completeOwner_acted s r).trans (arbitrate_acted _))

/-- After WAKING the stage brakes, and the arbiter has no part. -/
theorem arbitrate_completeOwner_afterWaking (ho : s.drive.owner = some o)
    (hw : afterWaking s.drive.stage = true) : (arbitrate (completeOwner r s)).drive = brakingFrom o s := by
  have hdrive : (completeOwner r s).drive = brakingFrom o s := by rw [completeOwner_afterWaking ho hw]; rfl
  rw [arbitrate_of_busy (by rw [hdrive]; simp [brakingFrom]), hdrive]

/-- In CLAIMED the owner loses the stage. -/
theorem arbitrate_completeOwner_claimed (ho : s.drive.owner = some o) (hc : s.drive.stage = .claimed) :
    (arbitrate (completeOwner r s)).drive.owner ≠ some o := by
  refine arbitrate_owner_ne ?_ (not_claims_of_ended (completeOwner_motionEnded ho (by rw [hc]; rfl) r))
  rw [completeOwner_claimed ho hc, releaseStage_drive]
  simp [DriveStage.idled]

theorem arbitrate_completeOwner_ended (ho : s.drive.owner = some o) (hholds : holdsStage s.drive.stage = true)
    (r : MotionResult) : MotionEnded o r s (arbitrate (completeOwner r s)) :=
  (completeOwner_motionEnded ho hholds r).arbitrateN 19

theorem testDestination_reached (ho : s.drive.owner = some o) (hholds : holdsStage s.drive.stage = true)
    (hr : destinationReached s o = some r) : testDestination s = completeOwner r s := by
  simp only [testDestination, ho, hholds, hr, if_true]

/-! ## The commands -/

theorem exec_grantWaitExpiry (hc : s.drive.stage = .claimed) :
    exec .grantWaitExpiry s = .next (settle s (arbitrate (completeOwner .refusedBudget s))) := by
  simp [exec, execGrantWaitExpiry, perform_eq, hc]

theorem exec_motionTimeout (ho : s.drive.owner = some o) (hs : s.drive.stage = .running)
    (h : travelTime s o.actuator * 3 / 2 < ownerRunTime s o) :
    exec .motionTimeout s = .next (settle s (completeOwner .failedTimeout s)) := by
  simp [exec, execMotionTimeout, perform_eq, timedOut, hs, ho, h]

theorem exec_destinationReached (ho : s.drive.owner = some o) (hholds : holdsStage s.drive.stage = true)
    (hr : destinationReached s o = some r) :
    exec .destinationReached s = .next (settle s (arbitrate (completeOwner r s))) := by
  simp [exec, execDestinationReached, perform_eq, destinationDue, hholds, ho, hr,
    testDestination_reached ho hholds hr]

/-- The end of a command that ends a motion after WAKING, as one equation. -/
theorem eq_of_completed (ho : s.drive.owner = some o) (hw : afterWaking s.drive.stage = true)
    (ht : t = settle s (completeOwner r s)) :
    t = { afterEvent s t with
      drive := brakingFrom o s
      motion := t.motion
      act := { s.act with homing := if o.actuator = .step then none else s.act.homing } } := by
  have hcompleted := completeOwner_afterWaking ho hw r
  have hevent : t = afterEvent (completeOwner r s) t := ht ▸ settle_eq_afterEvent s _
  have hframe := finishMotion_frame o r s
  rw [hevent, hcompleted]
  simp only [afterEvent, State.setDrive, State.setAct, hframe]

/-- A time-out raises MOVE_FAILED alone. -/
theorem completed_flags (hs : Settled s) (ho : s.drive.owner = some o)
    (hw : afterWaking s.drive.stage = true) (r : MotionResult) :
    FlagsKeptBut [resultFlag r] s (settle s (completeOwner r s)) := by
  refine settle_flagsKept hs (fun f => ?_) fun f hf => ?_
  · have ha := eventActive_of_pins (s := s) (t := completeOwner r s) (by simp)
    have hm := eventMapped_of_pins (s := s) (t := completeOwner r s) (by simp)
    exact conditionHolds_of_units (by simp) ha hm (by simp) (by simp) (by simp) (by simp) (by simp) (by simp)
      (by simp) (by simp) f
  · rw [completeOwner_afterWaking ho hw]
    exact (flagBits_of_flags rfl f).trans (finishMotion_flags s o r f hf)

end

end Sys2Proof.Machine
end

section
/-! PROOFS. A stall (R126, R127): what each outcome leaves, and the overrides that the position it sets may raise
(R143). -/

namespace Sys2Proof.Machine

/-! ## What stands through a stall -/

/-- The loads and their timers stand. -/
structure LoadsKept (s t : State) : Prop where
  table : t.table = s.table
  lamps : t.lamps = s.lamps
  heater : t.heater.state = s.heater.state ∧ t.heater.glowDue = s.heater.glowDue ∧
    t.heater.purgeDue = s.heater.purgeDue
  pump : t.tanks.pumpDue = s.tanks.pumpDue

theorem LoadsKept.refl (s : State) : LoadsKept s s := ⟨rfl, rfl, ⟨rfl, rfl, rfl⟩, rfl⟩

theorem LoadsKept.trans {s t u : State} (h : LoadsKept s t) (k : LoadsKept t u) : LoadsKept s u := by
  obtain ⟨htable, hlamps, ⟨hstate, hglow, hpurge⟩, hpump⟩ := h
  obtain ⟨ktable, klamps, ⟨kstate, kglow, kpurge⟩, kpump⟩ := k
  exact ⟨ktable.trans htable, klamps.trans hlamps,
    ⟨kstate.trans hstate, kglow.trans hglow, kpurge.trans hpurge⟩, kpump.trans hpump⟩

/-- What a raise leaves while no motion holds the stage. -/
structure RaisesBeside (s t : State) : Prop where
  drive : t.drive = s.drive
  slots : t.motion.slots = s.motion.slots
  act : t.act = s.act
  flags : t.link.flags = s.link.flags
  loads : LoadsKept s t

theorem RaisesBeside.refl (s : State) : RaisesBeside s s := ⟨rfl, rfl, rfl, rfl, .refl s⟩

theorem RaisesBeside.trans {s t u : State} (h : RaisesBeside s t) (k : RaisesBeside t u) :
    RaisesBeside s u :=
  ⟨k.drive.trans h.drive, k.slots.trans h.slots, k.act.trans h.act, k.flags.trans h.flags,
    h.loads.trans k.loads⟩

section
variable {s t before : State} {a : Actuator}

theorem raiseOverride_beside {c : OverrideCause} (h : holdsStage s.drive.stage = false) :
    RaisesBeside s (raiseOverride a c s) := by
  refine raiseOverride_cases (RaisesBeside s) (.refl s) ?_
  rw [preempt_released (by simpa using h)]
  refine ⟨by simp, by simp, by simp [withRaise], by simp [withRaise], ⟨by simp [withRaise], ?_, ?_, ?_⟩⟩ <;>
    simp [withRaise]

theorem stowWatch_beside (before : State) (h : holdsStage s.drive.stage = false) :
    RaisesBeside s (stowWatch before s) := by
  have hleft : ∀ (u : State) (b : Actuator), holdsStage u.drive.stage = false →
      RaisesBeside u (raiseIfLeft before u b) := fun u b hu => by
    unfold raiseIfLeft
    exact ite_keeps (RaisesBeside u) _ _ _ (raiseOverride_beside hu) (.refl u)
  have hstep := hleft s .step h
  exact hstep.trans (hleft _ .awning (by rwa [hstep.drive]))

theorem raiseIfLeft_acted (before s : State) (a : Actuator) : Acted s (raiseIfLeft before s a) := by
  unfold raiseIfLeft
  exact ite_keeps (Acted s) _ _ _ (raiseOverride_acted a _ s) (.refl s)

theorem raiseIfLeft_stowed (before s : State) (a b : Actuator) :
    stowed (raiseIfLeft before s a) b = stowed s b := by
  have hacted := raiseIfLeft_acted before s a
  exact stowed_congr (fun e _ => hacted.active e) hacted.mapped (by simp) (by simp) (by simp) b

theorem overrideOf_raiseIfLeft_other {b : Actuator} (hab : a ≠ b) :
    overrideOf (raiseIfLeft before s a) b = overrideOf s b := by
  unfold raiseIfLeft
  exact ite_keeps (fun t => overrideOf t b = overrideOf s b) _ _ _ (overrideOf_raiseOverride_other hab) rfl

/-- The override of an actuator that has not left its stowed state. -/
theorem overrideOf_stowWatch (h : stowed before a = true → stowed s a = true) :
    overrideOf (stowWatch before s) a = overrideOf s a := by
  cases a with
  | step =>
    rw [stowWatch, overrideOf_raiseIfLeft_other (by decide), raiseIfLeft_quiet (.inr (.inl h))]
  | awning =>
    have hstays : StaysUnraised before (raiseIfLeft before s .step) .awning :=
      .inr (.inl fun hb => (raiseIfLeft_stowed before s .step .awning).trans (h hb))
    rw [stowWatch, raiseIfLeft_quiet hstays, overrideOf_raiseIfLeft_other (by decide)]

/-- Nothing leaves its stowed state where the positions and the pins stand. -/
theorem stowWatch_still (h : ∀ b, stowed s b = stowed before b) : stowWatch before s = s :=
  stowWatch_quiet fun b => .inr (.inl fun hb => (h b).trans hb)

theorem MotionEnded.of_eq {o : Owner} {r : MotionResult} {u : State} (h : MotionEnded o r s u)
    (hslots : t.motion.slots = u.motion.slots)
    (hoverride : o.motion = .override → overrideOf t o.actuator = overrideOf u o.actuator) :
    MotionEnded o r s t := by
  obtain ⟨hslot, hover⟩ := h
  refine ⟨fun i hi => ?_, fun ho => (hoverride ho).trans (hover ho)⟩
  have hsame : slotAt t i = slotAt u i := slotAt_of_motion hslots i
  simpa only [SlotEnded, hsame] using hslot i hi

end

/-! ## The outcomes (R127) -/

section
variable {s : State} {o : Owner} {r : MotionResult}

theorem setAtEnd_units (o : Owner) (s : State) :
    (setAtEnd o s).drive = s.drive ∧ (setAtEnd o s).motion = s.motion ∧
      (setAtEnd o s).params = s.params ∧ (setAtEnd o s).pins = s.pins := by simp

theorem brakingFrom_of_motion {t : State} (hm : t.motion = s.motion) (hd : t.drive = s.drive)
    (hq : t.params = s.params) : brakingFrom o t = brakingFrom o s := by
  simp only [brakingFrom, ownerAction_congr hm, ownerRetries_congr hm, ownerRunTime_congr hm, hd, hq]

theorem brakingFrom_setAtEnd (o : Owner) (s : State) : brakingFrom o (setAtEnd o s) = brakingFrom o s := by
  obtain ⟨hdrive, hmotion, hparams, -⟩ := setAtEnd_units o s
  exact brakingFrom_of_motion hmotion hdrive hparams

theorem setAtEnd_loads (o : Owner) (s : State) : LoadsKept s (setAtEnd o s) :=
  ⟨by simp, by simp, ⟨by simp, by simp, by simp⟩, by simp⟩

/-- The switches alone make the step stowed, or the count 0 with the inner switch unmapped (R140). -/
theorem stepPosition_stowed_iff : stepPosition s = .stowed ↔
    eventActive s .stepOutLimit = false ∧ (eventActive s .stepInLimit = true ∨
      (s.act.stepMs = some 0 ∧ eventMapped s .stepInLimit = false)) := by
  unfold stepPosition
  cases eventActive s .stepInLimit with
  | true => cases eventActive s .stepOutLimit <;> simp
  | false =>
    cases eventActive s .stepOutLimit with
    | true => simp
    | false =>
      cases s.act.stepMs with
      | none => simp
      | some n =>
        by_cases hn : n = 0 ∧ eventMapped s .stepInLimit = false
        · simp [hn]
        · simp only [Bool.false_and, Bool.false_eq_true, if_false, Bool.and_eq_true, decide_eq_true_eq,
            Bool.not_eq_true', hn, true_and, false_or, Option.some.injEq, iff_false]
          split <;> simp

/-- The end of a RETRACT is the stowed state, where it was not left by a switch (R127, log 54). -/
theorem setAtEnd_stowed (h : ownerAction s o = .retract) (hb : stowed s o.actuator = true) :
    stowed (setAtEnd o s) o.actuator = true := by
  obtain ⟨-, -, hparams, hpins⟩ := setAtEnd_units o s
  have ha := eventActive_of_pins hpins
  have hm := eventMapped_of_pins hpins
  obtain ⟨a, m⟩ := o
  cases a with
  | step =>
    have hms : (setAtEnd ⟨.step, m⟩ s).act.stepMs = some 0 := by simp [setAtEnd, h]
    simp only [stowed, stepStowed, decide_eq_true_eq, stepPosition_stowed_iff, ha, hm, hms, true_and] at hb ⊢
    obtain ⟨hout, hin⟩ := hb
    exact ⟨hout, hin.imp_right And.right⟩
  | awning =>
    have hpos : (setAtEnd ⟨.awning, m⟩ s).act.posMs = some 0 := by simp [setAtEnd, h]
    simp only [stowed, awningStowed, ha, hm, hpos, Bool.and_eq_true] at hb ⊢
    exact ⟨rfl, hb.2⟩

theorem completeOwner_loads (ho : s.drive.owner = some o) (hw : afterWaking s.drive.stage = true) :
    LoadsKept s (completeOwner r s) := by
  rw [completeOwner_afterWaking ho hw]
  exact ⟨by simp, by simp, ⟨by simp, by simp, by simp⟩, by simp⟩

theorem completeOwner_stowed (r : MotionResult) (s : State) (b : Actuator) :
    stowed (completeOwner r s) b = stowed s b :=
  stowed_of_pins (by simp) (by simp) (by simp) (by simp) b

theorem completeOwner_flags (ho : s.drive.owner = some o) (hw : afterWaking s.drive.stage = true) :
    FlagsKeptBut [.moveDone, .moveFailed] s (completeOwner r s) := fun f hf => by
  rw [completeOwner_afterWaking ho hw]
  refine (flagBits_of_flags rfl f).trans (finishMotion_flags s o r f fun h => hf ?_)
  obtain rfl : f = resultFlag r := by simpa using h
  unfold resultFlag
  split <;> simp

/-- What a stall leaves, beside the motion and the stage. -/
structure Stalled (s u : State) : Prop where
  loads : LoadsKept s u
  flags : FlagsKeptBut [.moveDone, .moveFailed] s u
  busy : u.drive.stage ≠ .idle
  beside : RaisesBeside u (stowWatch s u)

/-- A completion after WAKING at positions that a stall has set, or left. -/
theorem stalled_completeOwner {v : State} (ho : v.drive.owner = some o)
    (hw : afterWaking v.drive.stage = true) (hloads : LoadsKept s v) (hflags : v.link.flags = s.link.flags) :
    Stalled s (completeOwner r v) := by
  have hstage : (completeOwner r v).drive.stage = .braking := by rw [completeOwner_afterWaking ho hw]; rfl
  exact ⟨hloads.trans (completeOwner_loads ho hw),
    fun f hf => (completeOwner_flags ho hw f hf).trans (flagBits_of_flags hflags f), by simp [hstage],
    stowWatch_beside s (by rw [hstage]; rfl)⟩

/-- A retry moves nothing. -/
theorem stowWatch_retry (o : Owner) (s : State) : stowWatch s (retry o s) = retry o s :=
  stowWatch_still fun b =>
    stowed_of_pins (by simp [retry]) (by simp [retry]) (by simp [retry]) (by simp [retry]) b

theorem stalled_retry : Stalled s (retry o s) := by
  refine ⟨⟨by simp, by simp, ⟨by simp, by simp, by simp⟩, by simp⟩, fun f _ => flagBits_of_flags (by simp) f,
    by simp [retry], ?_⟩
  rw [stowWatch_retry]
  exact .refl _

theorem stallOp_stalled (ho : s.drive.owner = some o) (hw : afterWaking s.drive.stage = true) :
    Stalled s (stallOp s) := by
  obtain ⟨hdrive, -⟩ := setAtEnd_units o s
  simp only [stallOp, ho]
  repeat' split
  · exact stalled_completeOwner ho hw (.refl s) rfl
  · exact stalled_completeOwner (by rw [hdrive, ho]) (by rwa [hdrive]) (setAtEnd_loads o s) (by simp)
  · exact stalled_retry
  · exact stalled_completeOwner ho hw (.refl s) rfl

/-! ### The command -/

/-- The state that a stall leaves, before the end of the command. -/
def stallEnd (s : State) : State := stowWatch s (stallOp s)

theorem exec_motorStall (ho : s.drive.owner = some o) (hs : s.drive.stage = .running)
    (hdue : s.drive.stallDue = true) : exec .motorStall s = .next (settle s (stallEnd s)) := by
  have hstalled := stallOp_stalled ho (by rw [hs]; rfl)
  have hbusy : (stowWatch s (stallOp s)).drive.stage ≠ .idle := by
    rw [hstalled.beside.drive]
    exact hstalled.busy
  simp [exec, execMotorStall, perform_eq, stalled, hs, hdue, arbitrate_of_busy hbusy, stallEnd]

/-- A stall that ends a motion at its place. -/
theorem stallEnd_completed (ho : s.drive.owner = some o) (hw : afterWaking s.drive.stage = true)
    (h : stallOp s = completeOwner r s) :
    MotionEnded o r s (stallEnd s) ∧ (stallEnd s).drive = brakingFrom o s := by
  have hstill : stallEnd s = completeOwner r s := by
    rw [stallEnd, h, stowWatch_still (completeOwner_stowed r s)]
  rw [hstill]
  exact ⟨completeOwner_motionEnded ho (holdsStage_of_afterWaking hw) r, by
    rw [completeOwner_afterWaking ho hw]; rfl⟩

/-- A stall in the end zone with the destination switch unmapped. -/
theorem stallEnd_atEnd (ho : s.drive.owner = some o) (hw : afterWaking s.drive.stage = true)
    (hzone : inEndZone s o = true) (hmapped : destinationSwitchMapped s o = false) :
    MotionEnded o .doneEndByStall s (stallEnd s) ∧ (stallEnd s).drive = brakingFrom o s ∧
      (stallEnd s).act.posMs = (setAtEnd o s).act.posMs ∧
      (stallEnd s).act.stepMs = (setAtEnd o s).act.stepMs := by
  obtain ⟨hdrive, hmotion, -, -⟩ := setAtEnd_units o s
  have hop : stallOp s = completeOwner .doneEndByStall (setAtEnd o s) := by
    simp only [stallOp, ho, hzone, hmapped, if_true, Bool.false_eq_true, if_false]
  have howner : (setAtEnd o s).drive.owner = some o := by rw [hdrive, ho]
  have hwaking : afterWaking (setAtEnd o s).drive.stage = true := by rwa [hdrive]
  have hbeside := (stallOp_stalled ho hw).beside
  have hended : MotionEnded o .doneEndByStall s (stallOp s) := by
    rw [hop]
    exact (completeOwner_motionEnded howner (holdsStage_of_afterWaking hwaking) _).of_source hmotion
  refine ⟨hended.of_eq hbeside.slots fun hm => overrideOf_stowWatch fun hb => ?_, ?_, ?_, ?_⟩
  · have haction : ownerAction s o = .retract := by
      obtain ⟨b, m⟩ := o
      obtain rfl : m = .override := hm
      rfl
    rw [hop, completeOwner_stowed]
    exact setAtEnd_stowed haction hb
  · rw [stallEnd, hbeside.drive, hop, ← brakingFrom_setAtEnd o s, completeOwner_afterWaking howner hwaking]
    rfl
  · rw [stallEnd, hbeside.act, hop]
    simp
  · rw [stallEnd, hbeside.act, hop]
    simp

/-- A stall that only retries. -/
theorem stallEnd_retry (ho : s.drive.owner = some o) (hzone : inEndZone s o = false)
    (hr : ownerRetries s o < s.params.maxRetries) :
    MotionCounts o (ownerRetries s o + 1) (ownerRunTime s o) s (stallEnd s) ∧
      (stallEnd s).drive = { s.drive with stage := .backing, phaseTimer := s.params.backoffTime } := by
  have hop : stallOp s = retry o s := by
    simp only [stallOp, ho, hzone, Bool.false_eq_true, if_false, hr, if_true]
  rw [stallEnd, hop, stowWatch_retry]
  refine ⟨(motionCounts_setOwnerCounts s o _ _).of_motion rfl, ?_⟩
  simp [retry]

end

end Sys2Proof.Machine
end

section
/-! PROOFS. The end of a stall's command, and the edges of the limit switches (R125, R127, R139, R141). -/

namespace Sys2Proof.Machine

/-! ## The end of a stall's command -/

section
variable {s t : State} {o : Owner}

theorem stallEnd_acted (s : State) (e : InputEvent) :
    eventActive (stallEnd s) e = eventActive s e ∧ eventMapped (stallEnd s) e = eventMapped s e := by
  have hacted := stowWatch_acted s (stallOp s)
  exact ⟨(hacted.active e).trans (eventActive_of_pins (by simp) e),
    (hacted.mapped e).trans (eventMapped_of_pins (by simp) e)⟩

variable (hs : Settled s) (ho : s.drive.owner = some o) (hw : afterWaking s.drive.stage = true)
include ho hw

theorem stallEnd_loads : LoadsKept s (stallEnd s) :=
  (stallOp_stalled ho hw).loads.trans (stallOp_stalled ho hw).beside.loads

include hs in
/-- A stall raises the flag of its result, and ROAD_UNSAFE follows the positions (R129, R146). -/
theorem stallEnd_flags : FlagsKeptBut [.moveDone, .moveFailed, .roadUnsafe] s (settle s (stallEnd s)) := by
  have hstalled := stallOp_stalled ho hw
  intro f hf
  obtain ⟨hresult, hroad⟩ : f ∉ [Flag.moveDone, .moveFailed] ∧ f ≠ .roadUnsafe := by
    simp only [List.mem_cons, List.not_mem_nil, or_false, not_or] at hf ⊢
    exact ⟨⟨hf.1, hf.2.1⟩, hf.2.2⟩
  refine flagBits_settle_of_kept hs.1 (conditionHolds_of_reads (fun _ => (stallEnd_acted s _).1) (fun _ => ?_) ?_
    (fun e _ => (stallEnd_acted s e).1) (fun e => (stallEnd_acted s e).2) ?_ ?_ ?_ ?_
    (fun h => absurd h hroad) (fun h => absurd h hroad) ?_)
    ((flagBits_of_flags hstalled.beside.flags f).trans (hstalled.flags f hresult))
  all_goals simp [stallEnd]

/-- What a stall can change, as one equation. -/
theorem eq_of_stallEnd (ht : t = settle s (stallEnd s)) :
    t = { afterEvent s t with
      drive := t.drive, motion := t.motion, act := t.act
      heater := { s.heater with cabinDue := t.heater.cabinDue }
      tanks := { s.tanks with senderDue := t.tanks.senderDue, tempDue := t.tanks.tempDue }
      pins := t.pins
      time := { s.time with power := t.time.power, idleDue := t.time.idleDue } } := by
  obtain ⟨htable, hlamps, hheater, hpump⟩ := stallEnd_loads ho hw
  have hevent : t = afterEvent (stallEnd s) t := ht ▸ settle_eq_afterEvent s _
  have hframe : OnlyMillisecond (stallEnd s) s := by simp [OnlyMillisecond, stallEnd]
  rw [hevent]
  simp only [afterEvent, hframe, ← htable, ← hlamps, ← hheater, ← hpump]

end

end Sys2Proof.Machine
end

section
/-! PROOFS. A known step position through the arbiter: no homing count begins while `step_ms` is known
(R141, R142). -/

namespace Sys2Proof.Machine

/-- The step's count is known, and none is homing (R142). -/
def StepKnown (s : State) : Prop := s.act.stepMs ≠ none ∧ s.act.homing = none

theorem StepKnown.of_act {s t : State} (h : StepKnown s) (ha : t.act = s.act) : StepKnown t := by
  rwa [StepKnown, ha]

/-! ## Through a re-evaluation (R44, R115) -/

section
variable {s : State}

theorem StepKnown.driveHandOff (h : StepKnown s) : StepKnown (driveHandOff s) := by
  obtain ⟨hknown, hhoming⟩ := h
  have hstart : s.act.stepMs.isNone = false := by
    rwa [Bool.eq_false_iff, Ne, Option.isNone_iff_eq_none]
  unfold Machine.driveHandOff
  repeat' split
  · simp only [enterWaking, hstart, Bool.and_false, Bool.false_eq_true, if_false]
    exact ⟨hknown, hhoming⟩
  · exact ⟨hknown, hhoming⟩
  · exact ⟨hknown, hhoming⟩

theorem StepKnown.handOff (h : StepKnown s) (before again : List Channel) :
    StepKnown (handOff before again s) := by
  unfold Machine.handOff
  exact StepKnown.driveHandOff (h.of_act (by simp))

theorem StepKnown.runWalk (n : Nat) (before : List Channel) (h : StepKnown s) :
    StepKnown (runWalk n before s) := by
  induction n generalizing before s with
  | zero => exact h
  | succ n ih =>
    have hwalk : StepKnown (walk s) := h.of_act (by simp)
    unfold Machine.runWalk
    refine ite_keeps StepKnown _ _ _ (hwalk.handOff _ _) (ih _ ?_)
    exact (hwalk.handOff before (regranted s)).of_act (by simp)

theorem StepKnown.reevaluate (h : StepKnown s) (before : State) : StepKnown (reevaluate before s) := by
  have hrelist : StepKnown (relist before s) := h.of_act (by simp)
  unfold Machine.reevaluate
  exact ite_keeps StepKnown _ _ _ hrelist (hrelist.runWalk _ _)

/-! ## Through completions, claims and raises -/

theorem StepKnown.completeOwner (h : StepKnown s) (r : MotionResult) : StepKnown (completeOwner r s) := by
  cases hholds : holdsStage s.drive.stage with
  | false => rwa [completeOwner_released hholds]
  | true =>
    cases ho : s.drive.owner with
    | none => rwa [Machine.completeOwner, ho]
    | some o =>
      rcases holdsStage_cases hholds with hc | hw
      · rw [completeOwner_claimed ho hc]
        exact StepKnown.reevaluate (h.of_act (by simp)) _
      · obtain ⟨hknown, hhoming⟩ := h
        rw [completeOwner_afterWaking ho hw]
        exact ⟨hknown, by simp [hhoming]⟩

theorem servedBy_act (c : Owner) (s : State) : (servedBy c s).act = s.act := by
  unfold servedBy
  split <;> rfl

theorem StepKnown.arbitrate (h : StepKnown s) : StepKnown (arbitrate s) :=
  arbitrateN_keeps StepKnown (fun t c _ _ ht => by
    refine takeClaimant_cases StepKnown (ht.of_act rfl) (fun r => ?_) ?_
    · exact ht.of_act (Eq.trans (by simp) (servedBy_act c t))
    · have hactivate : (activate c (servedBy c t)).act = t.act :=
        Eq.trans (by simp only [activate_frame c (servedBy c t)]) (servedBy_act c t)
      exact StepKnown.reevaluate (ht.of_act (Eq.trans (by simp) hactivate)) _) 19 s h

theorem StepKnown.raiseIfLeft (h : StepKnown s) (before : State) (a : Actuator) :
    StepKnown (raiseIfLeft before s a) := by
  have hraised : StepKnown (withRaise a .ignition s) := h.of_act (by simp [withRaise])
  unfold Machine.raiseIfLeft
  exact ite_keeps StepKnown _ _ _ (raiseOverride_cases StepKnown h
    (preempt_cases StepKnown hraised fun _ => hraised.completeOwner _)) h

theorem StepKnown.testDestination (h : StepKnown s) : StepKnown (testDestination s) := by
  unfold Machine.testDestination
  repeat' split
  · exact h
  · exact h.completeOwner _
  · exact h
  · exact h

theorem StepKnown.positionFollow (h : StepKnown s) (before : State) : StepKnown (positionFollow before s) :=
  ((h.testDestination.raiseIfLeft before .step).raiseIfLeft before .awning).arbitrate

end

end Sys2Proof.Machine
end

section
/-! PROOFS. The edges of the limit switches (R125, R139, R141, R143): the position that an edge sets, and the motion
that ends at it. -/

namespace Sys2Proof.Machine

/-! ## What follows a position (R118, R125, R143) -/

section
variable {s u t before : State} {o : Owner} {r : MotionResult}

theorem completeOwner_stage_released (ho : s.drive.owner = some o) (r : MotionResult) :
    holdsStage (completeOwner r s).drive.stage = false := by
  cases hholds : holdsStage s.drive.stage with
  | false => rwa [completeOwner_released hholds]
  | true =>
    rcases holdsStage_cases hholds with hc | hw
    · rw [completeOwner_claimed ho hc]
      exact releaseStage_released _
    · rw [completeOwner_afterWaking ho hw]
      rfl

/-- A motion at its destination ends, and no raise or claim that follows touches it. -/
theorem positionFollow_ended (ho : u.drive.owner = some o) (hholds : holdsStage u.drive.stage = true)
    (hr : destinationReached u o = some r)
    (hstays : o.motion = .override → stowed u o.actuator = true) :
    MotionEnded o r u (positionFollow before u) := by
  have hended := completeOwner_motionEnded ho hholds r
  have hbeside := stowWatch_beside before (completeOwner_stage_released ho r)
  have hwatched : MotionEnded o r u (stowWatch before (completeOwner r u)) :=
    hended.of_eq hbeside.slots fun hm => overrideOf_stowWatch fun _ =>
      (completeOwner_stowed r u _).trans (hstays hm)
  rw [positionFollow, testDestination_reached ho hholds hr]
  exact hwatched.arbitrateN 19

theorem EdgeEnd.reached {wakes : Bool} (h : EdgeEnd wakes (positionFollow before u) t)
    (hm : u.motion = s.motion) (hd : u.drive = s.drive) (ho : s.drive.owner = some o)
    (hholds : holdsStage s.drive.stage = true) (hr : destinationReached u o = some r)
    (hstays : o.motion = .override → stowed u o.actuator = true) : MotionEnded o r s t :=
  h.motionEnded ((positionFollow_ended (by rw [hd, ho]) (by rwa [hd]) hr hstays).of_source hm)

theorem EdgeEnd.positions {wakes : Bool} (h : EdgeEnd wakes (positionFollow before u) t) :
    t.act.posMs = u.act.posMs ∧ t.act.stepMs = u.act.stepMs := by
  rw [h.act]
  simp

/-- With a known count no homing count is left. -/
theorem EdgeEnd.homing {wakes : Bool} (h : EdgeEnd wakes (positionFollow before u) t) (hu : StepKnown u) :
    t.act.homing = none := by
  rw [h.act]
  exact (hu.positionFollow before).2

end

section
variable {s : State} {i j : Fin 16} {e : InputEvent} {rising : Bool} {n : Nat} {xs : List Bool}

/-- The event of an edge is mapped. -/
theorem joinedAt_mapped_self (h : EdgeAt i e rising n xs s) :
    eventMapped (joinedAt s i rising) e = true := by
  obtain ⟨hevent, -⟩ := h
  exact setBinding_mapped hevent rising 0

/-! ## The switches of the step (R141) -/

theorem stepInLimit_edge (h : EdgeAt i .stepInLimit rising n xs s) (order : List HandOff) :
    ∃ t, exec (.debounceComplete i xs order) s = .next t ∧
      t.act.posMs = s.act.posMs ∧
      t.act.stepMs =
        (if rising then some 0
        else if eventActive s .stepOutLimit then some s.params.stepTravel else s.act.stepMs) ∧
      (rising = true ∨ eventActive s .stepOutLimit = true → t.act.homing = none) ∧
      (rising = true → eventActive s .stepOutLimit = false → s.drive.owner = some ⟨.step, .slot j⟩ →
        holdsStage s.drive.stage = true → (slotAt s j).action = .retract → SlotEnded j .doneEndSwitch s t) := by
  obtain ⟨t, hrun, hend⟩ := exec_edge_motions h (by decide) (by decide) order
  have hact : edgeAct s .stepInLimit rising order (joinedAt s i rising) =
      positionFollow s (stepInEdge rising (joinedAt s i rising)) := rfl
  rw [hact] at hend
  have hout := joinedAt_active_other h (e' := .stepOutLimit) (by decide)
  obtain ⟨hpos, hms⟩ := hend.positions
  refine ⟨t, hrun, hpos.trans (by simp [joinedAt]), hms.trans ?ms, fun hset => hend.homing ?known,
    fun hr hopen ho hholds hret => ?ended⟩
  case ms =>
    unfold stepInEdge
    rw [hout]
    repeat' split
    all_goals rfl
  case known =>
    unfold stepInEdge
    rw [hout]
    rcases hset with hr | hopen
    · rw [if_pos hr]
      exact ⟨by simp, rfl⟩
    · rw [if_pos hopen]
      split
      all_goals exact ⟨by simp, rfl⟩
  case ended =>
    subst hr
    have hevents := eventActive_of_pins (s := joinedAt s i true) (t := stepInEdge true (joinedAt s i true))
      (by simp)
    have hin : eventActive (stepInEdge true (joinedAt s i true)) .stepInLimit = true :=
      (hevents _).trans (joinedAt_active h).2
    have hstowed : stepPosition (stepInEdge true (joinedAt s i true)) = .stowed :=
      stepPosition_stowed_iff.mpr ⟨(hevents _).trans (hout.trans hopen), .inl hin⟩
    have hretract : ownerAction (stepInEdge true (joinedAt s i true)) ⟨.step, .slot j⟩ = .retract :=
      (ownerAction_congr (s := s) (by simp [joinedAt]) _).trans hret
    refine (hend.reached (r := .doneEndSwitch) (by simp [joinedAt]) (by simp [joinedAt]) ho hholds ?_
      (fun hm => by simp at hm)).1 j rfl
    simp only [destinationReached, hretract, hstowed, hin, if_true]

theorem stepOutLimit_edge (h : EdgeAt i .stepOutLimit rising n xs s) (order : List HandOff) :
    ∃ t, exec (.debounceComplete i xs order) s = .next t ∧
      t.act.posMs = s.act.posMs ∧
      t.act.stepMs =
        (if rising then some s.params.stepTravel
        else if eventActive s .stepInLimit then some 0 else s.act.stepMs) ∧
      (rising = true ∨ eventActive s .stepInLimit = true → t.act.homing = none) ∧
      (rising = true → s.drive.owner = some ⟨.step, .slot j⟩ → holdsStage s.drive.stage = true →
        (slotAt s j).action = .extend → SlotEnded j .doneEndSwitch s t) := by
  obtain ⟨t, hrun, hend⟩ := exec_edge_motions h (by decide) (by decide) order
  have hact : edgeAct s .stepOutLimit rising order (joinedAt s i rising) =
      positionFollow s (stepOutEdge rising (joinedAt s i rising)) := rfl
  rw [hact] at hend
  have hin := joinedAt_active_other h (e' := .stepInLimit) (by decide)
  obtain ⟨hpos, hms⟩ := hend.positions
  refine ⟨t, hrun, hpos.trans (by simp [joinedAt]), hms.trans ?ms, fun hset => hend.homing ?known,
    fun hr ho hholds hext => ?ended⟩
  case ms =>
    unfold stepOutEdge
    rw [hin]
    repeat' split
    all_goals rfl
  case known =>
    unfold stepOutEdge
    rw [hin]
    rcases hset with hr | hopen
    · rw [if_pos hr]
      exact ⟨by simp, rfl⟩
    · rw [if_pos hopen]
      split
      all_goals exact ⟨by simp, rfl⟩
  case ended =>
    subst hr
    have hout : eventActive (stepOutEdge true (joinedAt s i true)) .stepOutLimit = true :=
      (eventActive_of_pins (by simp) _).trans (joinedAt_active h).2
    have hmapped : eventMapped (stepOutEdge true (joinedAt s i true)) .stepOutLimit = true :=
      (eventMapped_of_pins (by simp) _).trans (joinedAt_mapped_self h)
    have hextend : ownerAction (stepOutEdge true (joinedAt s i true)) ⟨.step, .slot j⟩ = .extend :=
      (ownerAction_congr (s := s) (by simp [joinedAt]) _).trans hext
    refine (hend.reached (r := .doneEndSwitch) (by simp [joinedAt]) (by simp [joinedAt]) ho hholds ?_
      (fun hm => by simp at hm)).1 j rfl
    simp only [destinationReached, hextend, hmapped, hout, if_true]

end

end Sys2Proof.Machine
end

section
/-! PROOFS. The edges of AWNING_IN_LIMIT (R125, R139, R143, log 44). -/

namespace Sys2Proof.Machine

/-! ## A departure of the awning (R143) -/

section
variable {s before : State} {b : Actuator}

theorem completeOwner_override_none (h : (overrideOf s b).state = .none) (r : MotionResult) :
    (overrideOf (completeOwner r s) b).state = .none := by
  cases hholds : holdsStage s.drive.stage with
  | false => rwa [completeOwner_released hholds]
  | true =>
    cases ho : s.drive.owner with
    | none => rwa [completeOwner, ho]
    | some o =>
      rw [overrideOf_of_motion (completeOwner_motion ho hholds r), overrideOf_finishMotion]
      split
      · rfl
      · exact h

theorem testDestination_cases (P : State → Prop) (hkept : P s) (hended : ∀ r, P (completeOwner r s)) :
    P (testDestination s) := by
  unfold testDestination
  repeat' split
  · exact hkept
  · exact hended _
  · exact hkept
  · exact hkept

/-- With the ignition on, an awning that has left its stowed state has its override raised. -/
theorem stowWatch_raises_awning (hi : eventActive s .ignitionOn = true) (he : eventActive s .estop = false)
    (hbefore : awningStowed before = true) (hleft : stowed s .awning = false)
    (hn : (overrideOf s .awning).state = .none) :
    RaisedOrTaken .awning ((overrideOf s .awning).raisedBy .ignition) (stowWatch before s) := by
  have hacted := raiseIfLeft_acted before s .step
  have hother : overrideOf (raiseIfLeft before s .step) .awning = overrideOf s .awning :=
    overrideOf_raiseIfLeft_other (by decide)
  have hstowed := (raiseIfLeft_stowed before s .step .awning).trans hleft
  have hraise : stowWatch before s = raiseOverride .awning .ignition (raiseIfLeft before s .step) := by
    rw [stowWatch]
    unfold raiseIfLeft at hacted hstowed ⊢
    rw [if_pos]
    rw [(hacted.active _).trans hi, hstowed]
    simpa [stowed] using hbefore
  refine ⟨.inl ?_, (raiseIfLeft_stowed before _ .awning .awning).trans hstowed⟩
  rw [hraise, ← hother]
  exact overrideOf_raiseOverride ((hacted.active _).trans he) (by rw [hother, hn])

end

/-! ## The edges -/

section
variable {s : State} {i j : Fin 16} {rising : Bool} {n : Nat} {xs : List Bool} {order : List HandOff}

/-- The awning at its switch (R139). -/
def awningJoined (s : State) (i : Fin 16) (rising : Bool) : State := awningInEdge rising (joinedAt s i rising)

theorem awningJoined_units (s : State) (i : Fin 16) (rising : Bool) :
    (awningJoined s i rising).drive = s.drive ∧ (awningJoined s i rising).motion = s.motion ∧
      (awningJoined s i rising).params = s.params ∧ (awningJoined s i rising).act.stepMs = s.act.stepMs ∧
      (awningJoined s i rising).act.posMs = (if rising then some 0 else s.act.posMs) := by
  unfold awningJoined awningInEdge
  cases rising <;> exact ⟨rfl, rfl, rfl, rfl, rfl⟩

theorem awningJoined_active (e : InputEvent) :
    eventActive (awningJoined s i rising) e = eventActive (joinedAt s i rising) e :=
  eventActive_of_pins (by simp [awningJoined]) e

theorem awningJoined_mapped (e : InputEvent) :
    eventMapped (awningJoined s i rising) e = eventMapped (joinedAt s i rising) e :=
  eventMapped_of_pins (by simp [awningJoined]) e

theorem awningJoined_stowed (h : EdgeAt i .awningInLimit true n xs s) :
    awningStowed (awningJoined s i true) = true := by
  obtain ⟨-, -, -, -, hpos⟩ := awningJoined_units s i true
  simp only [awningStowed, hpos, awningJoined_active, (joinedAt_active h).2, if_true, decide_true, Bool.or_true,
    Bool.and_self]

/-- The step stands where it was through an edge of the awning's switch. -/
theorem awningJoined_step (h : EdgeAt i .awningInLimit rising n xs s) :
    stowed (awningJoined s i rising) .step = stowed s .step := by
  obtain ⟨-, -, hparams, hms, -⟩ := awningJoined_units s i rising
  have hactive : ∀ e, e ≠ .awningInLimit → eventActive (awningJoined s i rising) e = eventActive s e :=
    fun e he => (awningJoined_active e).trans (joinedAt_active_other h he)
  have hmapped : ∀ e, eventMapped (awningJoined s i rising) e = eventMapped s e :=
    fun e => (awningJoined_mapped e).trans (joinedAt_mapped h e)
  simp only [stowed, stepStowed, stepPosition_congr (hactive _ (by decide)) (hactive _ (by decide))
    (hmapped _) (hmapped _) hms hparams]

theorem exec_awningInLimit (h : EdgeAt i .awningInLimit rising n xs s) (order : List HandOff) :
    ∃ t wakes, exec (.debounceComplete i xs order) s = .next t ∧
      EdgeEnd wakes (awningEdgeFollow rising s (awningJoined s i rising)) t := by
  obtain ⟨t, hrun, hend⟩ := exec_edge_motions h (by decide) (by decide) order
  exact ⟨t, _, hrun, hend⟩

section
variable {t : State} {wakes : Bool}

/-- The awning's RETRACT and its override end at the switch (R139). -/
theorem awningIn_ends {o : Owner} (h : EdgeAt i .awningInLimit true n xs s)
    (hend : EdgeEnd wakes (awningEdgeFollow true s (awningJoined s i true)) t) (ha : o.actuator = .awning)
    (ho : s.drive.owner = some o) (hholds : holdsStage s.drive.stage = true)
    (hret : ownerAction s o = .retract) : MotionEnded o .doneEndSwitch s t := by
  obtain ⟨hdrive, hmotion, -⟩ := awningJoined_units s i true
  have hretract : ownerAction (awningJoined s i true) o = .retract := (ownerAction_congr hmotion o).trans hret
  have hstops : awningRunsOn (awningJoined s i true) = false := by
    simp [awningRunsOn, hdrive, ho, hretract]
  have hstowed := awningJoined_stowed h
  have hmapped : eventMapped (awningJoined s i true) .awningInLimit = true :=
    (awningJoined_mapped _).trans (joinedAt_mapped_self h)
  rw [awningEdgeFollow, hstops, Bool.and_false, if_neg (by simp)] at hend
  refine hend.reached hmotion hdrive ho hholds ?_ fun _ => by rw [ha]; exact hstowed
  simp only [destinationReached, ha, hretract, hstowed, hmapped, if_true]

/-- An EXTEND or a MOVE_TO of the awning runs on from the new zero (R139, log 44). -/
theorem awningIn_runsOn (h : EdgeAt i .awningInLimit true n xs s)
    (hend : EdgeEnd wakes (awningEdgeFollow true s (awningJoined s i true)) t)
    (ho : s.drive.owner = some ⟨.awning, .slot j⟩) (hholds : holdsStage s.drive.stage = true)
    (hact : (slotAt s j).action ≠ .retract) : slotAt t j = slotAt s j ∧ t.drive = s.drive := by
  obtain ⟨hdrive, hmotion, -⟩ := awningJoined_units s i true
  have haction : ownerAction (awningJoined s i true) ⟨.awning, .slot j⟩ ≠ .retract := by
    rw [ownerAction_congr hmotion]
    exact hact
  have hruns : awningRunsOn (awningJoined s i true) = true := by
    simp [awningRunsOn, hdrive, ho, haction]
  have hquiet : stowWatch s (awningJoined s i true) = awningJoined s i true := stowWatch_quiet fun b => by
    refine .inr (.inl fun hb => ?_)
    cases b with
    | step => rwa [awningJoined_step h]
    | awning => exact awningJoined_stowed h
  have hbusy : (awningJoined s i true).drive.stage ≠ .idle := by
    rw [hdrive]
    intro hidle
    simp [hidle, holdsStage] at hholds
  rw [awningEdgeFollow, hruns, Bool.and_self, if_pos rfl, hquiet, arbitrate_of_busy hbusy] at hend
  exact ⟨(hend.slotAt j).trans (slotAt_of_motion (by rw [hmotion]) j), hend.drive.trans hdrive⟩

/-- With the ignition on the awning leaves its stowed state with its switch (R143). -/
theorem awningIn_raises (h : EdgeAt i .awningInLimit false n xs s)
    (hend : EdgeEnd wakes (awningEdgeFollow false s (awningJoined s i false)) t)
    (hi : eventActive s .ignitionOn = true) (hstowed : awningStowed s = true)
    (he : eventActive s .estop = false) (hn : (overrideOf s .awning).state = .none) :
    (overrideOf t .awning).state ≠ .none ∧ (overrideOf t .awning).cause = some .ignition := by
  obtain ⟨-, hmotion, -⟩ := awningJoined_units s i false
  have hactive : ∀ e, e ≠ .awningInLimit → eventActive (awningJoined s i false) e = eventActive s e :=
    fun e he => (awningJoined_active e).trans (joinedAt_active_other h he)
  have hout : stowed (awningJoined s i false) .awning = false := by
    have hmapped := (awningJoined_mapped (s := s) (i := i) (rising := false) _).trans (joinedAt_mapped_self h)
    have hopen := (awningJoined_active (s := s) (i := i) (rising := false) _).trans (joinedAt_active h).2
    simp [stowed, awningStowed, hmapped, hopen]
  have htested : Acted (awningJoined s i false) (testDestination (awningJoined s i false)) :=
    testDestination_cases (Acted _) (.refl _) (completeOwner_acted _)
  have hnone : (overrideOf (awningJoined s i false) .awning).state = .none := by
    rwa [overrideOf_of_motion hmotion]
  have hraised := stowWatch_raises_awning (before := s) (s := testDestination (awningJoined s i false))
    ((htested.active _).trans ((hactive _ (by decide)).trans hi))
    ((htested.active _).trans ((hactive _ (by decide)).trans he)) hstowed
    (testDestination_cases (fun v => stowed v .awning = false) hout fun r =>
      (completeOwner_stowed r _ _).trans hout)
    (testDestination_cases (fun v => (overrideOf v .awning).state = .none) hnone
      (completeOwner_override_none hnone))
  obtain ⟨hstate, hcause, -⟩ := (arbitrate_raisedOrTaken hraised).raisedBy
  rw [hend.overrideOf]
  exact ⟨hstate, hcause⟩

end

theorem awningInLimit_edge (h : EdgeAt i .awningInLimit rising n xs s) (order : List HandOff) :
    ∃ t, exec (.debounceComplete i xs order) s = .next t ∧
      t.act.stepMs = s.act.stepMs ∧ t.act.posMs = (if rising then some 0 else s.act.posMs) ∧
      (rising = true → s.drive.owner = some ⟨.awning, .slot j⟩ → holdsStage s.drive.stage = true →
        (slotAt s j).action = .retract → SlotEnded j .doneEndSwitch s t) ∧
      (rising = true → s.drive.owner = some ⟨.awning, .slot j⟩ → holdsStage s.drive.stage = true →
        (slotAt s j).action ≠ .retract → slotAt t j = slotAt s j ∧ t.drive = s.drive) ∧
      (rising = true → s.drive.owner = some ⟨.awning, .override⟩ → holdsStage s.drive.stage = true →
        MotionEnded ⟨.awning, .override⟩ .doneEndSwitch s t) ∧
      (rising = false → eventActive s .ignitionOn = true → awningStowed s = true →
        eventActive s .estop = false → (overrideOf s .awning).state = .none →
          (overrideOf t .awning).state ≠ .none ∧ (overrideOf t .awning).cause = some .ignition) := by
  obtain ⟨t, wakes, hrun, hend⟩ := exec_awningInLimit h order
  obtain ⟨-, -, -, hms, hpos⟩ := awningJoined_units s i rising
  have hact := hend.act
  refine ⟨t, hrun, by rw [hact, ← hms]; simp, by rw [hact, ← hpos]; simp, fun hr ho hholds hret => ?ends,
    fun hr ho hholds hret => ?runsOn, fun hr ho hholds => ?overrideEnds, fun hr hi hstowed he hn => ?raises⟩
  case ends =>
    subst hr
    exact (awningIn_ends (o := ⟨.awning, .slot j⟩) h hend rfl ho hholds hret).1 j rfl
  case runsOn =>
    subst hr
    exact awningIn_runsOn h hend ho hholds hret
  case overrideEnds =>
    subst hr
    exact awningIn_ends h hend rfl ho hholds rfl
  case raises =>
    subst hr
    exact awningIn_raises h hend hi hstowed he hn

end

end Sys2Proof.Machine
end

section
/-! PROOFS. The rising edge of IGNITION_ON at the motions (R117, R119, R133, R143): the hand-offs in any order. -/

namespace Sys2Proof.Machine

/-! ## Hand-offs in order (log 3) -/

/-- What one hand-off turns `P` into, where the others keep `P` and all of them keep `Q`. -/
theorem inOrder_reaches (P Q : State → Prop) (order : List HandOff)
    {acts : List (HandOff × (State → State))} {a : HandOff × (State → State)} (s : State)
    (hdistinct : (acts.map Prod.fst).Nodup) (ha : a ∈ acts) (hs : P s)
    (hP : ∀ b ∈ acts, b.1 ≠ a.1 → ∀ t, P t → P (b.2 t)) (hPQ : ∀ t, P t → Q (a.2 t))
    (hQ : ∀ b ∈ acts, ∀ t, Q t → Q (b.2 t)) : Q (inOrder order acts s) := by
  induction order generalizing acts s with
  | nil =>
    simp only [inOrder_nil]
    induction acts generalizing s with
    | nil => cases ha
    | cons b acts ih =>
      have htail : ∀ b ∈ acts, ∀ t, Q t → Q (b.2 t) := fun b hb => hQ b (by simp [hb])
      obtain ⟨hb, hacts⟩ := List.nodup_cons.mp hdistinct
      rcases List.mem_cons.mp ha with rfl | ha
      · exact inOrder_keeps Q [] acts (a.2 s) (hPQ s hs) htail
      · have hne : b.1 ≠ a.1 := fun h => hb (h ▸ List.mem_map_of_mem ha)
        exact ih (b.2 s) hacts ha (hP b (by simp) hne s hs) (fun b hb => hP b (by simp [hb])) htail
  | cons k rest ih =>
    unfold inOrder
    split
    · next b hb =>
      have hbmem := List.mem_of_find?_eq_some hb
      have hbk : b.1 = k := by simpa using List.find?_some hb
      have hrest : ∀ b' ∈ acts.filter (fun x => decide (x.1 ≠ k)), b' ∈ acts :=
        fun b' hb' => List.mem_of_mem_filter hb'
      by_cases hak : a.1 = k
      · have hab : a = b := List.inj_on_of_nodup_map hdistinct ha hbmem (hak.trans hbk.symm)
        exact inOrder_keeps Q rest _ _ (hab ▸ hPQ s hs) fun b' hb' => hQ b' (hrest b' hb')
      · exact ih _ (hdistinct.sublist (List.filter_sublist.map _))
          (List.mem_filter.mpr ⟨ha, by simpa using hak⟩) (hP b hbmem (fun h => hak (h.symm.trans hbk)) s hs)
          (fun b' hb' => hP b' (hrest b' hb')) fun b' hb' => hQ b' (hrest b' hb')
    · exact ih s hdistinct ha hs hP hQ

/-! ## The three hand-offs -/

/-- What the hand-offs of the edge keep: they hold tanks, end the motion of a slot, and raise overrides. -/
theorem ignitionActs_keep (P : State → Prop) (htanks : ∀ t, P t → P (ignitionTanksEdge true t))
    (hended : ∀ t, P t → (∀ p, t.drive.owner = some p → p.motion ≠ .override) →
      P (completeOwner .abortedPreempted t))
    (hraised : ∀ a t, P t → P (raiseOverride a .ignition t)) :
    ∀ b ∈ ignitionActs, ∀ t, P t → P (b.2 t) := by
  have hout : ∀ a t, P t → P (raiseIfOut t a) := fun a t ht => by
    unfold raiseIfOut
    exact ite_keeps P _ _ _ ht (hraised a t ht)
  intro b hb t ht
  simp only [ignitionActs, List.mem_cons, List.not_mem_nil, or_false] at hb
  rcases hb with rfl | rfl | rfl
  · exact htanks t ht
  · show P (ignitionAbort t)
    unfold ignitionAbort
    split
    · next heq =>
      exact ite_keeps P _ _ _ ht (hended t ht fun p hp => by rw [heq] at hp; cases hp; simp)
    · exact ht
    · exact ht
  · exact hout _ _ (hout _ _ ht)

theorem ignitionActs_nodup : (ignitionActs.map Prod.fst).Nodup := by decide

/-! ### The override of an actuator that is out (R117, R143) -/

section
variable {s : State} {b : Actuator} {x : OverrideSlot}

/-- The override `b` has been raised for the ignition, and is not at its destination. -/
def RaisedOut (b : Actuator) (x : OverrideSlot) (s : State) : Prop :=
  overrideOf s b = x.raisedBy .ignition ∧ stowed s b = false

/-- The override `b` may be raised: ESTOP is off, the actuator is out, the override is NONE. -/
def RaiseDue (b : Actuator) (x : OverrideSlot) (s : State) : Prop :=
  overrideOf s b = x ∧ x.state = .none ∧ stowed s b = false ∧ eventActive s .estop = false

theorem ignitionTanksEdge_stowed (s : State) (b : Actuator) :
    stowed (ignitionTanksEdge true s) b = stowed s b :=
  stowed_of_pins (by simp) (by simp) (by simp) (by simp) b

theorem raiseOverride_stowed {c : OverrideCause} (a : Actuator) (s : State) (b : Actuator) :
    stowed (raiseOverride a c s) b = stowed s b := by
  have hacted := raiseOverride_acted a c s
  exact stowed_congr (fun e _ => hacted.active e) hacted.mapped (by simp) (by simp) (by simp) b

theorem overrideOf_completeOwner_slot (h : ∀ p, s.drive.owner = some p → p.motion ≠ .override)
    (b : Actuator) : overrideOf (completeOwner .abortedPreempted s) b = overrideOf s b :=
  overrideOf_completeOwner_other (fun p hp hm => h p hp hm.1) _

/-- A hand-off that touches neither the override nor what a raise depends on. -/
theorem RaiseDue.of_eq {t : State} (h : RaiseDue b x s) (hx : overrideOf t b = overrideOf s b)
    (hs : stowed t b = stowed s b) (he : eventActive t .estop = eventActive s .estop) : RaiseDue b x t := by
  obtain ⟨hslot, hnone, hstowed, hestop⟩ := h
  exact ⟨hx.trans hslot, hnone, hs.trans hstowed, he.trans hestop⟩

theorem RaiseDue.raise {a : Actuator} (hab : a ≠ b) (h : RaiseDue b x s) :
    RaiseDue b x (raiseOverride a .ignition s) :=
  h.of_eq (overrideOf_raiseOverride_other hab) (raiseOverride_stowed a s b) ((raiseOverride_acted a _ s).active _)

theorem RaiseDue.raiseIfOut_other {a : Actuator} (hab : a ≠ b) (h : RaiseDue b x s) :
    RaiseDue b x (raiseIfOut s a) := by
  unfold raiseIfOut
  exact ite_keeps (RaiseDue b x) _ _ _ h (h.raise hab)

theorem RaiseDue.raised (h : RaiseDue b x s) : RaisedOut b x (raiseIfOut s b) := by
  obtain ⟨hslot, hnone, hstowed, hestop⟩ := h
  rw [raiseIfOut, hstowed, if_neg (by simp)]
  exact ⟨by rw [overrideOf_raiseOverride hestop (by rw [hslot, hnone]), hslot],
    (raiseOverride_stowed b s b).trans hstowed⟩

/-- An override that is raised is not raised again. -/
theorem RaisedOut.raiseOverride (h : RaisedOut b x s) (a : Actuator) :
    RaisedOut b x (raiseOverride a .ignition s) := by
  obtain ⟨hslot, hstowed⟩ := h
  refine ⟨?_, (raiseOverride_stowed a s b).trans hstowed⟩
  by_cases hab : a = b
  · subst hab
    rw [raiseOverride_refused (.inr (by rw [hslot]; simp [OverrideSlot.raisedBy])), hslot]
  · rw [overrideOf_raiseOverride_other hab, hslot]

theorem RaisedOut.raiseIfOut (h : RaisedOut b x s) (a : Actuator) : RaisedOut b x (raiseIfOut s a) := by
  unfold Machine.raiseIfOut
  exact ite_keeps (RaisedOut b x) _ _ _ h (h.raiseOverride a)

theorem RaiseDue.raiseAllOut (h : RaiseDue b x s) : RaisedOut b x (raiseAllOut s) := by
  cases b with
  | step => exact h.raised.raiseIfOut .awning
  | awning => exact (h.raiseIfOut_other (a := .step) (by decide)).raised

/-- The hand-offs raise the override, whatever their order. -/
theorem ignitionActs_raise (order : List HandOff) (h : RaiseDue b x s) :
    RaisedOut b x (inOrder order ignitionActs s) := by
  refine inOrder_reaches (RaiseDue b x) (RaisedOut b x) order (a := (.ignitionMotion, raiseAllOut)) s
    ignitionActs_nodup (by simp [ignitionActs]) h (fun act hact hne t ht => ?others)
    (fun t ht => ht.raiseAllOut) (ignitionActs_keep (RaisedOut b x) (fun t ht => ?_) (fun t ht ho => ?_)
      fun a t ht => ht.raiseOverride a)
  case others =>
    simp only [ignitionActs, List.mem_cons, List.not_mem_nil, or_false] at hact
    rcases hact with rfl | rfl | rfl
    · exact ht.of_eq (overrideOf_of_motion (by simp) b) (ignitionTanksEdge_stowed t b)
        (eventActive_of_pins (by simp) _)
    · show RaiseDue b x (ignitionAbort t)
      unfold ignitionAbort
      split
      · next heq =>
        refine ite_keeps (RaiseDue b x) _ _ _ ht (ht.of_eq (overrideOf_completeOwner_slot (fun p hp => ?_) b)
          (completeOwner_stowed _ t b) (eventActive_of_pins (by simp) _))
        rw [heq] at hp
        cases hp
        simp
      · exact ht
      · exact ht
    · exact absurd rfl hne
  · exact ⟨(overrideOf_of_motion (by simp) b).trans ht.1, (ignitionTanksEdge_stowed t b).trans ht.2⟩
  · exact ⟨(overrideOf_completeOwner_slot ho b).trans ht.1, (completeOwner_stowed _ t b).trans ht.2⟩

/-- The hand-offs leave an override alone that is ACTIVE, or while ESTOP is active. -/
theorem ignitionActs_overrideOf (order : List HandOff)
    (h : eventActive s .estop = true ∨ (overrideOf s b).state = .active) :
    overrideOf (inOrder order ignitionActs s) b = overrideOf s b := by
  refine (inOrder_keeps
    (fun t => overrideOf t b = overrideOf s b ∧ eventActive t .estop = eventActive s .estop) order _ s
    ⟨rfl, rfl⟩ (ignitionActs_keep _ (fun t ht => ?_) (fun t ht ho => ?_) fun a t ht => ?_)).1
  · exact ⟨(overrideOf_of_motion (by simp) b).trans ht.1, (eventActive_of_pins (by simp) _).trans ht.2⟩
  · exact ⟨(overrideOf_completeOwner_slot ho b).trans ht.1, (eventActive_of_pins (by simp) _).trans ht.2⟩
  · refine ⟨?_, ((raiseOverride_acted a _ t).active _).trans ht.2⟩
    by_cases hab : a = b
    · subst hab
      rw [raiseOverride_refused, ht.1]
      exact h.imp (fun he => ht.2.trans he) fun ha => by rw [ht.1, ha]; simp
    · rw [overrideOf_raiseOverride_other hab, ht.1]

end

end Sys2Proof.Machine
end

section
/-! PROOFS. The slot's motion that the rising edge of IGNITION_ON ends (R119, R133), and the override that it raises
and the arbiter takes (R118, log 23). -/

namespace Sys2Proof.Machine

section
variable {s t : State} {a : Actuator} {j : Fin 16}

/-! ## The motion that is preempted (R119, R133) -/

/-- The motion of slot `j` holds the stage as it did in `s`. -/
structure HeldAs (j : Fin 16) (s t : State) : Prop where
  slot : slotAt t j = slotAt s j
  drive : t.drive = s.drive
  params : t.params = s.params

/-- The motion of slot `j` has been preempted, and no motion holds the stage. -/
structure PreemptedAt (a : Actuator) (j : Fin 16) (s t : State) : Prop where
  preempted : Preempted ⟨a, .slot j⟩ j s t
  released : holdsStage t.drive.stage = false

theorem HeldAs.of_eq {u : State} (h : HeldAs j s t) (hm : u.motion.slots = t.motion.slots)
    (hd : u.drive = t.drive) (hq : u.params = t.params) : HeldAs j s u :=
  ⟨(slotAt_of_motion hm j).trans h.slot, hd.trans h.drive, hq.trans h.params⟩

theorem PreemptedAt.of_eq {u : State} (h : PreemptedAt a j s t) (hm : u.motion.slots = t.motion.slots)
    (hd : u.drive = t.drive) : PreemptedAt a j s u :=
  ⟨⟨(slotAt_of_motion hm j).trans h.preempted.slot, fun hw => hd.trans (h.preempted.braking hw)⟩,
    by rw [hd]; exact h.released⟩

section
variable (ho : s.drive.owner = some ⟨a, .slot j⟩) (hholds : holdsStage s.drive.stage = true)
include ho hholds

theorem HeldAs.completeOwner (h : HeldAs j s t) :
    PreemptedAt a j s (completeOwner .abortedPreempted t) := by
  obtain ⟨hslot, hdrive, hparams⟩ := h
  have howner : t.drive.owner = some ⟨a, .slot j⟩ := by rw [hdrive, ho]
  obtain ⟨hended, hbraking⟩ := completeOwner_preempted (o := ⟨a, .slot j⟩) rfl howner (by rwa [hdrive])
  rw [hslot] at hended
  rw [hdrive, brakingFrom_congr rfl hslot hdrive hparams] at hbraking
  exact ⟨⟨hended, hbraking⟩, completeOwner_stage_released howner _⟩

/-- A raise preempts the motion, unless it is refused. -/
theorem HeldAs.raiseOverride (h : HeldAs j s t) (b : Actuator) :
    HeldAs j s (raiseOverride b .ignition t) ∨ PreemptedAt a j s (raiseOverride b .ignition t) := by
  refine raiseOverride_cases (fun u => HeldAs j s u ∨ PreemptedAt a j s u) (.inl h) ?_
  have hraised : HeldAs j s (withRaise b .ignition t) := h.of_eq (by simp) (by simp) (by simp)
  exact preempt_cases (fun u => HeldAs j s u ∨ PreemptedAt a j s u) (.inl hraised)
    fun _ => .inr (hraised.completeOwner ho hholds)

/-- A raise that is due preempts it. -/
theorem HeldAs.raiseOverride_due (h : HeldAs j s t) {b : Actuator} {x : OverrideSlot} (hb : RaiseDue b x t) :
    PreemptedAt a j s (raiseIfOut t b) := by
  obtain ⟨hslot, hnone, hstowed, hestop⟩ := hb
  have hraised : HeldAs j s (withRaise b .ignition t) := h.of_eq (by simp) (by simp) (by simp)
  rw [raiseIfOut, hstowed, if_neg (by simp), raiseOverride_eq hestop (by rw [hslot, hnone]),
    preempt_slot (by rw [hraised.drive, ho])]
  exact hraised.completeOwner ho hholds

end

/-- A preempted motion stays so through the other hand-offs. -/
theorem PreemptedAt.raiseOverride (h : PreemptedAt a j s t) (b : Actuator) :
    PreemptedAt a j s (raiseOverride b .ignition t) := by
  have hbeside := raiseOverride_beside (a := b) (c := .ignition) h.released
  exact h.of_eq hbeside.slots hbeside.drive

theorem PreemptedAt.raiseIfOut (h : PreemptedAt a j s t) (b : Actuator) : PreemptedAt a j s (raiseIfOut t b) := by
  unfold Machine.raiseIfOut
  exact ite_keeps (PreemptedAt a j s) _ _ _ h (h.raiseOverride b)

theorem ignitionActs_keep_preempted :
    ∀ b ∈ ignitionActs, ∀ u, PreemptedAt a j s u → PreemptedAt a j s (b.2 u) :=
  ignitionActs_keep (PreemptedAt a j s) (fun u hu => hu.of_eq (by simp) (by simp))
    (fun u hu _ => by rwa [completeOwner_released hu.released]) fun b u hu => hu.raiseOverride b

theorem ignitionAbort_slot (ho : t.drive.owner = some ⟨a, .slot j⟩) :
    ignitionAbort t =
      if (slotAt t j).action = .retract then t else completeOwner .abortedPreempted t := by
  simp only [ignitionAbort, ho]

section
variable (ho : s.drive.owner = some ⟨a, .slot j⟩) (hholds : holdsStage s.drive.stage = true)
include ho hholds

/-- Only a RETRACT goes on (R133). -/
theorem HeldAs.ignitionAbort (h : HeldAs j s t) :
    (ignitionAbort t = t ∧ (slotAt s j).action = .retract) ∨ PreemptedAt a j s (ignitionAbort t) := by
  rw [ignitionAbort_slot (by rw [h.drive, ho]), h.slot]
  split
  · next hret => exact .inl ⟨rfl, hret⟩
  · exact .inr (h.completeOwner ho hholds)

/-- The edge ends a motion that does not retract (R133). -/
theorem ignitionActs_abort (order : List HandOff) (h : HeldAs j s t)
    (hact : (slotAt s j).action ≠ .retract) : PreemptedAt a j s (inOrder order ignitionActs t) := by
  have hraise : ∀ b u, HeldAs j s u ∨ PreemptedAt a j s u →
      HeldAs j s (raiseIfOut u b) ∨ PreemptedAt a j s (raiseIfOut u b) := fun b u hu => by
    unfold raiseIfOut
    refine ite_keeps (fun v => HeldAs j s v ∨ PreemptedAt a j s v) _ _ _ hu ?_
    rcases hu with hu | hu
    · exact hu.raiseOverride ho hholds b
    · exact .inr (hu.raiseOverride b)
  refine inOrder_reaches (fun u => HeldAs j s u ∨ PreemptedAt a j s u) (PreemptedAt a j s) order
    (a := (.ignitionDrive, Machine.ignitionAbort)) t ignitionActs_nodup (by simp [ignitionActs]) (.inl h)
    (fun b hb hne u hu => ?others) (fun u hu => ?abort) ignitionActs_keep_preempted
  case others =>
    simp only [ignitionActs, List.mem_cons, List.not_mem_nil, or_false] at hb
    rcases hb with rfl | rfl | rfl
    · exact hu.imp (fun hu => hu.of_eq (by simp) (by simp) (by simp)) fun hu => hu.of_eq (by simp) (by simp)
    · exact absurd rfl hne
    · exact hraise _ _ (hraise _ _ hu)
  case abort =>
    rcases hu with hu | hu
    · exact (hu.ignitionAbort ho hholds).resolve_left fun hkept => hact hkept.2
    · exact ignitionActs_keep_preempted _ (by simp [ignitionActs]) u hu

/-- The edge ends the motion of an actuator whose override it raises (R119). -/
theorem ignitionActs_preempt (order : List HandOff) {x : OverrideSlot} (h : HeldAs j s t)
    (hb : RaiseDue a x t) : PreemptedAt a j s (inOrder order ignitionActs t) := by
  refine inOrder_reaches (fun u => (HeldAs j s u ∧ RaiseDue a x u) ∨ PreemptedAt a j s u)
    (PreemptedAt a j s) order (a := (.ignitionMotion, raiseAllOut)) t ignitionActs_nodup
    (by simp [ignitionActs]) (.inl ⟨h, hb⟩) (fun b hb hne u hu => ?others) (fun u hu => ?raise)
    ignitionActs_keep_preempted
  case others =>
    rcases hu with ⟨hheld, hdue⟩ | hu
    · simp only [ignitionActs, List.mem_cons, List.not_mem_nil, or_false] at hb
      rcases hb with rfl | rfl | rfl
      · exact .inl ⟨hheld.of_eq (by simp) (by simp) (by simp), hdue.of_eq (overrideOf_of_motion (by simp) a)
          (ignitionTanksEdge_stowed u a) (eventActive_of_pins (by simp) _)⟩
      · rcases hheld.ignitionAbort ho hholds with ⟨hsame, -⟩ | hended
        · exact .inl (by dsimp only; rw [hsame]; exact ⟨hheld, hdue⟩)
        · exact .inr hended
      · exact absurd rfl hne
    · exact .inr (ignitionActs_keep_preempted b hb u hu)
  case raise =>
    rcases hu with ⟨hheld, hdue⟩ | hu
    · cases a with
      | step => exact (hheld.raiseOverride_due ho hholds hdue).raiseIfOut .awning
      | awning =>
        have hstep : HeldAs j s (raiseIfOut u .step) ∨ PreemptedAt .awning j s (raiseIfOut u .step) := by
          unfold raiseIfOut
          exact ite_keeps (fun v => HeldAs j s v ∨ PreemptedAt .awning j s v) _ _ _ (.inl hheld)
            (hheld.raiseOverride ho hholds .step)
        rcases hstep with hstep | hstep
        · exact hstep.raiseOverride_due ho hholds (hdue.raiseIfOut_other (by decide))
        · exact hstep.raiseIfOut .awning
    · exact ignitionActs_keep_preempted _ (by simp [ignitionActs]) u hu

end

/-! ## The override of the step with the stage IDLE (log 23) -/

/-- With the stage IDLE the hand-offs leave the stage and the loads alone, and an awake part awake. -/
theorem ignitionActs_idle (order : List HandOff) (hidle : t.drive.stage = .idle)
    (hpower : t.time.power = .active) :
    (inOrder order ignitionActs t).drive = t.drive ∧ (inOrder order ignitionActs t).table = t.table ∧
      (inOrder order ignitionActs t).time.power = .active := by
  refine inOrder_keeps (fun u => u.drive = t.drive ∧ u.table = t.table ∧ u.time.power = .active) order _ t
    ⟨rfl, rfl, hpower⟩ (ignitionActs_keep _ (fun u ⟨hd, ht, hp⟩ => ?_) (fun u hu _ => ?_)
      fun a u ⟨hd, ht, hp⟩ => ?_)
  · exact ⟨by simp [hd], by simp [ht], by simp [hp]⟩
  · rwa [completeOwner_released (by rw [hu.1, hidle]; rfl)]
  · have hbeside := raiseOverride_beside (s := u) (a := a) (c := .ignition) (by rw [hd, hidle]; rfl)
    refine ⟨hbeside.drive.trans hd, hbeside.loads.table.trans ht, ?_⟩
    rcases (raiseOverride_acted a .ignition u).power with h | ⟨hasleep, -⟩
    · exact h.trans hp
    · simp [asleep, hp] at hasleep

/-- The step's override is the first claimant (R118). -/
theorem chosen_stepOverride (h : (overrideOf s .step).state = .raised) :
    chosen s = some ⟨.step, .override⟩ := by
  have hraised : s.motion.stepOverride.state = .raised := h
  rw [chosen, if_pos hraised]

end

end Sys2Proof.Machine
end

section
/-! PROOFS. The ends of a motion, as the statement says them. -/

namespace Sys2Proof.Machine

/-! ## The rising edge of IGNITION_ON (R117, R119, R133, R143) -/

section
variable {s t : State} {i j : Fin 16} {n : Nat} {xs : List Bool} {order : List HandOff} {wakes : Bool}

/-- The hand-offs of the edge, before the arbiter. -/
def ignitionHanded (order : List HandOff) (s : State) (i : Fin 16) : State :=
  inOrder order ignitionActs (joinedAt s i true)

theorem exec_ignitionOn (h : EdgeAt i .ignitionOn true n xs s) (order : List HandOff) :
    ∃ t wakes, exec (.debounceComplete i xs order) s = .next t ∧
      EdgeEnd wakes (arbitrate (ignitionHanded order s i)) t := by
  obtain ⟨t, hrun, hend⟩ := exec_edge_motions h (by decide) (by decide) order
  have hact : edgeAct s .ignitionOn true order (joinedAt s i true) =
      arbitrate (ignitionHanded order s i) := ignitionEdge_rising order
  rw [hact] at hend
  exact ⟨t, _, hrun, hend⟩

theorem ignitionHanded_positions (order : List HandOff) (s : State) (i : Fin 16) :
    (ignitionHanded order s i).act.posMs = s.act.posMs ∧
      (ignitionHanded order s i).act.stepMs = s.act.stepMs :=
  inOrder_keeps (fun u : State => u.act.posMs = s.act.posMs ∧ u.act.stepMs = s.act.stepMs) order _ _ ⟨rfl, rfl⟩
    (ignitionActs_keep _ (fun u ⟨hp, hm⟩ => ⟨by simp [hp], by simp [hm]⟩)
      (fun u ⟨hp, hm⟩ _ => ⟨by simp [hp], by simp [hm]⟩) fun a u ⟨hp, hm⟩ => ⟨by simp [hp], by simp [hm]⟩)

variable (h : EdgeAt i .ignitionOn true n xs s)
include h

theorem raiseDue_joinedAt {b : Actuator} (he : eventActive s .estop = false) (hb : stowed s b = false)
    (hn : (overrideOf s b).state = .none) : RaiseDue b (overrideOf s b) (joinedAt s i true) := by
  refine ⟨rfl, hn, ?_, (joinedAt_active_other h (by decide)).trans he⟩
  have hactive : ∀ e, e ≠ .ignitionOn → eventActive (joinedAt s i true) e = eventActive s e :=
    fun e he => joinedAt_active_other h he
  have hmapped := joinedAt_mapped h
  cases b with
  | step =>
    have hposition : stepPosition (joinedAt s i true) = stepPosition s :=
      stepPosition_congr (hactive _ (by decide)) (hactive _ (by decide)) (hmapped _) (hmapped _) rfl rfl
    rwa [stowed, stepStowed, hposition]
  | awning =>
    have hpos : (joinedAt s i true).act.posMs = s.act.posMs := rfl
    rwa [stowed, awningStowed, hpos, hmapped, hactive _ (by decide)]

/-- The override of an actuator that is out is raised (R117, R143). -/
theorem ignition_raises {b : Actuator} (hend : EdgeEnd wakes (arbitrate (ignitionHanded order s i)) t)
    (he : eventActive s .estop = false) (hb : stowed s b = false) (hn : (overrideOf s b).state = .none) :
    (overrideOf t b).state ≠ .none ∧ (overrideOf t b).cause = some .ignition ∧
      (overrideOf t b).retries = 0 ∧ (overrideOf t b).runTime = 0 := by
  obtain ⟨hslot, hstowed⟩ := ignitionActs_raise order (raiseDue_joinedAt h he hb hn)
  rw [hend.overrideOf]
  exact (arbitrate_raisedOrTaken (s := ignitionHanded order s i) ⟨.inl hslot, hstowed⟩).raisedBy

/-- An override that is not raised by the edge is left alone. -/
theorem ignition_leaves {b : Actuator} (hend : EdgeEnd wakes (arbitrate (ignitionHanded order s i)) t)
    (hb : eventActive s .estop = true ∨ (overrideOf s b).state = .active)
    (hn : (overrideOf s b).state ≠ .raised) : overrideOf t b = overrideOf s b := by
  have hsame : overrideOf (ignitionHanded order s i) b = overrideOf s b :=
    ignitionActs_overrideOf (s := joinedAt s i true) order
      (hb.imp (fun he => (joinedAt_active_other h (by decide)).trans he) id)
  rw [hend.overrideOf, overrideOf_arbitrate (by rwa [hsame]), hsame]

/-- A slot's motion is preempted (R119, R133). -/
theorem ignition_preempts {a : Actuator} (hend : EdgeEnd wakes (arbitrate (ignitionHanded order s i)) t)
    (ho : s.drive.owner = some ⟨a, .slot j⟩) (hholds : holdsStage s.drive.stage = true)
    (hcause : (slotAt s j).action ≠ .retract ∨
      (eventActive s .estop = false ∧ stowed s a = false ∧ (overrideOf s a).state = .none)) :
    Preempted ⟨a, .slot j⟩ j s t := by
  have hheld : HeldAs j s (joinedAt s i true) := ⟨rfl, rfl, rfl⟩
  have hpreempted : PreemptedAt a j s (ignitionHanded order s i) := by
    rcases hcause with hact | ⟨he, hb, hn⟩
    · exact ignitionActs_abort ho hholds order hheld hact
    · exact ignitionActs_preempt ho hholds order hheld (raiseDue_joinedAt h he hb hn)
  exact hpreempted.preempted.arbitrate.of_eq hend.motion hend.drive

/-- With the stage IDLE the override of the step is taken at once (log 23). -/
theorem ignition_takes (hend : EdgeEnd wakes (arbitrate (ignitionHanded order s i)) t)
    (hidle : s.drive.stage = .idle) (hpower : s.time.power = .active) (hgap : s.drive.gap = none)
    (hfree : origins s chDrive = OriginSet.empty) (he : eventActive s .estop = false)
    (hb : stowed s .step = false) (hn : (overrideOf s .step).state = .none) :
    (overrideOf t .step).state = .active ∧ t.drive.owner = some ⟨.step, .override⟩ ∧
      t.drive.stage = .waking ∧ t.drive.direction = some .retract ∧
      origins t chDrive = { OriginSet.empty with override := some 0 } := by
  obtain ⟨hslot, hstowed⟩ := ignitionActs_raise order (raiseDue_joinedAt h he hb hn)
  obtain ⟨hdrive, htable, hactive⟩ := ignitionActs_idle (t := joinedAt s i true) order hidle hpower
  have hnone : (ignitionHanded order s i).drive.gap = none := (congrArg DriveStage.gap hdrive).trans hgap
  obtain ⟨hoverride, howner, hstage, hdirection, -, horigins⟩ := arbitrate_override (s := ignitionHanded order s i)
    (a := .step) ((congrArg DriveStage.stage hdrive).trans hidle) hactive
    (chosen_stepOverride (by
      have hraised : overrideOf (ignitionHanded order s i) .step = _ := hslot
      rw [hraised]
      rfl))
    (by simp [gapHolds, hnone]) hstowed ((origins_of_table htable chDrive).trans hfree)
  rw [hend.overrideOf, hoverride, hend.drive, origins_of_table hend.table]
  exact ⟨rfl, howner, hstage, hdirection, horigins⟩

end

/-! ## The statement -/

/-- What the end of a stall does to the position (R127, R139). -/
theorem setAtEnd_positions (s : State) (o : Owner) :
    (ownerAction s o = .extend →
      (o.actuator = .step → (setAtEnd o s).act.stepMs = some s.params.stepTravel) ∧
      (o.actuator = .awning → (setAtEnd o s).act.posMs = some s.params.awningTravel)) ∧
    (ownerAction s o = .retract →
      (o.actuator = .step → (setAtEnd o s).act.stepMs = some 0) ∧
      (o.actuator = .awning → (setAtEnd o s).act.posMs = some 0)) ∧
    (ownerAction s o = .moveTo → o.actuator = .awning →
      (setAtEnd o s).act.posMs = some (ceilDiv (ownerTarget s o * s.params.awningTravel) 1000)) := by
  refine ⟨fun h => ⟨fun ha => ?_, fun ha => ?_⟩, fun h => ⟨fun ha => ?_, fun ha => ?_⟩, fun h ha => ?_⟩ <;>
    simp [setAtEnd, h, ha]

/-- Settles O48: each end completes the owner's motion, and what follows it, the stowed states' watch and the
arbiter, does not touch what has ended. -/
theorem theEndsOfAMotion : Obligations.TheEndsOfAMotion := by
  refine ⟨fun s o r ho hs => ⟨fun hc => ?grantWait, fun hr htime => ?timeout, fun hholds hr => ?reached,
    fun hr hdue => ?stall⟩, fun s i j rising n xs order a hs => ⟨fun h => ?stepIn, fun h => ?stepOut,
    fun h => ?awningIn, fun h => ?ignition⟩⟩
  case grantWait =>
    obtain ⟨hsettled, hframe⟩ := (completeOwner_motionsActed .refusedBudget s).settle hs
    have hended := arbitrate_completeOwner_ended ho (by rw [hc]; rfl) .refusedBudget
    exact ⟨_, exec_grantWaitExpiry hc, hended.of_motion hsettled.motion,
      by rw [hsettled.drive]; exact arbitrate_completeOwner_claimed ho hc, hsettled.origins, hsettled.flags,
      hframe⟩
  case timeout =>
    have hw : afterWaking s.drive.stage = true := by rw [hr]; rfl
    have hended := completeOwner_motionEnded ho (holdsStage_of_afterWaking hw) .failedTimeout
    have hframe := eq_of_completed ho hw (r := .failedTimeout) rfl
    exact ⟨_, exec_motionTimeout ho hr htime, hended.of_motion (by simp), congrArg State.drive hframe,
      completed_flags hs ho hw .failedTimeout, hframe⟩
  case reached =>
    obtain ⟨hsettled, hframe⟩ := (completeOwner_motionsActed r s).settle hs
    have hended := arbitrate_completeOwner_ended ho hholds r
    refine ⟨_, exec_destinationReached ho hholds hr, hended.of_motion hsettled.motion, fun hc => ?_, fun hc => ?_,
      hsettled.origins, hsettled.flags, hframe⟩
    · rw [hsettled.drive]
      exact arbitrate_completeOwner_afterWaking ho ((holdsStage_cases hholds).resolve_left hc)
    · rw [hsettled.drive]
      exact arbitrate_completeOwner_claimed ho hc
  case stall =>
    have hw : afterWaking s.drive.stage = true := by rw [hr]; rfl
    obtain ⟨t, ht⟩ : ∃ t, t = settle s (stallEnd s) := ⟨_, rfl⟩
    have hmotion : t.motion = (stallEnd s).motion := by simp [ht]
    have hdrive : t.drive = (stallEnd s).drive := by simp [ht]
    have hact : t.act = (stallEnd s).act := by simp [ht]
    have hends : ∀ r, stallOp s = completeOwner r s →
        MotionEnded o r s t ∧ t.drive = brakingFrom o s := fun r hop => by
      obtain ⟨hended, hbraking⟩ := stallEnd_completed ho hw hop
      exact ⟨hended.of_motion hmotion, hdrive.trans hbraking⟩
    refine ⟨t, by rw [ht]; exact exec_motorStall ho hr hdue, fun hzone hmapped => hends _ ?late,
      fun hzone hmapped => ?atEnd, fun hzone hretries => ?retry, fun hzone hretries => hends _ ?limit, ?table, ?_,
      eq_of_stallEnd ho hw ht⟩
    case late => simp only [stallOp, ho, hzone, hmapped, if_true]
    case limit =>
      simp only [stallOp, ho, hzone, Bool.false_eq_true, if_false, Nat.not_lt.mpr hretries]
    case atEnd =>
      obtain ⟨hended, hbraking, hpos, hms⟩ := stallEnd_atEnd ho hw hzone hmapped
      rw [hact, hpos, hms]
      exact ⟨hended.of_motion hmotion, hdrive.trans hbraking, setAtEnd_positions s o⟩
    case retry =>
      obtain ⟨hcounts, hbacking⟩ := stallEnd_retry ho hzone hretries
      exact ⟨hcounts.of_motion hmotion, hdrive.trans hbacking⟩
    case table =>
      have htable : t.table = (stallEnd s).table := by simp [ht]
      exact htable.trans (stallEnd_loads ho hw).table
    · rw [ht]
      exact stallEnd_flags hs ho hw
  case stepIn =>
    obtain ⟨t, hrun, hpos, hms, hhoming, hends⟩ := stepInLimit_edge (j := j) h order
    refine ⟨t, hrun, hpos, hms, hhoming, fun hr hopen ha hheld hret => ?_⟩
    subst ha
    obtain ⟨ho, hholds⟩ : s.drive.owner = some ⟨.step, .slot j⟩ ∧ holdsStage s.drive.stage = true := by
      simpa using hheld
    exact hends hr hopen ho hholds hret
  case stepOut =>
    obtain ⟨t, hrun, hpos, hms, hhoming, hends⟩ := stepOutLimit_edge (j := j) h order
    refine ⟨t, hrun, hpos, hms, hhoming, fun hr ha hheld hext => ?_⟩
    subst ha
    obtain ⟨ho, hholds⟩ : s.drive.owner = some ⟨.step, .slot j⟩ ∧ holdsStage s.drive.stage = true := by
      simpa using hheld
    exact hends hr ho hholds hext
  case awningIn =>
    obtain ⟨t, hrun, hms, hpos, hends, hruns, hoverride, hraises⟩ := awningInLimit_edge (j := j) h order
    have hheldAs : a = .awning →
        (decide (s.drive.owner = some ⟨a, .slot j⟩) && holdsStage s.drive.stage) = true →
        s.drive.owner = some ⟨.awning, .slot j⟩ ∧ holdsStage s.drive.stage = true := by
      rintro rfl hheld
      simpa using hheld
    refine ⟨t, hrun, hms, hpos, fun hr ha hheld hret => ?_, fun hr ha hheld hret => ?_, hoverride, hraises⟩
    · obtain ⟨ho, hholds⟩ := hheldAs ha hheld
      exact hends hr ho hholds hret
    · obtain ⟨ho, hholds⟩ := hheldAs ha hheld
      exact hruns hr ho hholds hret
  case ignition =>
    obtain ⟨t, wakes, hrun, hend⟩ := exec_ignitionOn h order
    obtain ⟨hpos, hms⟩ := ignitionHanded_positions order s i
    have hact := hend.act
    refine ⟨t, hrun, by rw [hact, ← hpos]; simp, by rw [hact, ← hms]; simp,
      fun b _ => ⟨fun he hb hn => ignition_raises h hend he hb hn, fun hb hn => ignition_leaves h hend hb hn⟩,
      fun hheld hcause => ?_,
      fun hidle hpower hgap hfree _ he hb hn => ignition_takes h hend hidle hpower hgap hfree he hb hn⟩
    obtain ⟨ho, hholds⟩ : s.drive.owner = some ⟨a, .slot j⟩ ∧ holdsStage s.drive.stage = true := by
      simpa using hheld
    obtain ⟨hended, hbraking⟩ := ignition_preempts h hend ho hholds hcause
    exact ⟨slotEnded_of_eq hended, hbraking⟩

end Sys2Proof.Machine
end
